-- ==== Sys2Proof/Word.lean ====
section
/-!
DEFINITION. The word types of the CU260: bytes, tags, gain codes, period numbers and times.
-/
namespace Sys2Proof

/-- One byte of a stream link, a correction-table image or a record (chapter 11). -/
abbrev Byte := BitVec 8

/-- A 16-bit field: a tag, a gain code, a pattern level, a pixel component (chapter 11). -/
abbrev Word16 := BitVec 16

/-- A 32-bit field: a label, a CRC-32 (R5). -/
abbrev Word32 := BitVec 32

/-- A period number: 32-bit unsigned, wrapping (R1). -/
abbrev Period := BitVec 32

end Sys2Proof
end

