-- ==== Sys2Proof/Config.lean ====
section
/-!
DEFINITION. What the manual leaves open: which of the admissible codes a pixel is sent with (R86).
-/
namespace Sys2Proof

/-- FREE VALUE (log entry 3). R86 lets the code sent differ by one from the exact code and says only that the choice
is a function of the exact value alone, the same in every part of this revision. `exact` is the exact linear value of
the component and `gamma12` says that the output encoding is GAMMA12. 0 means one below the exact code, 1 the exact code,
2 one above it. -/
opaque Config.codeOffset (gamma12 : Bool) (exact : Real) : Fin 3

end Sys2Proof
end

