-- ==== Sys2Proof/Syntax.lean ====
section
/-!
DEFINITION. The commands of the CU260: one constructor for every row of spec/opcode_table.json.

Every event that comes from outside carries the time `t`, in microseconds, at which it is taken. An expiry row carries
no time: it is taken when its timer expires (log entry 2). A management row carries no packet: the packet is the one
the Management Engine's arbiter takes from the head of a command queue (R154, log entry 4).
-/
namespace Sys2Proof

/-- The two stream links. -/
inductive Link where
  | a
  | b
deriving DecidableEq, Repr

/-- The two outputs, OUT-0 and OUT-1. -/
inductive Out where
  | out0
  | out1
deriving DecidableEq, Repr

/-- The two kinds of correction table. -/
inductive Kind where
  | warp
  | blend
deriving DecidableEq, Repr

/-- The commands and events, one constructor for each row of spec/opcode_table.json. -/
inductive Instr where
  /-- TABLE_OPEN (R15). -/
  | tableOpen (t : Nat)
  /-- TABLE_DATA (R16). -/
  | tableData (t : Nat)
  /-- TABLE_CLOSE (R17). -/
  | tableClose (t : Nat)
  /-- TABLE_DISCARD (R21). -/
  | tableDiscard (t : Nat)
  /-- SWAP (R29). -/
  | swap (t : Nat)
  /-- GAIN (R35). -/
  | gain (t : Nat)
  /-- CUE_ADD (R40). -/
  | cueAdd (t : Nat)
  /-- CUE_CANCEL (R42). -/
  | cueCancel (t : Nat)
  /-- CUE_FLUSH (R43). -/
  | cueFlush (t : Nat)
  /-- REPORT (R50). -/
  | report (t : Nat)
  /-- ROUTE (R128). -/
  | route (t : Nat)
  /-- SELECT (R141). -/
  | select (t : Nat)
  /-- CONFIG_LOCK (R146). -/
  | configLock (t : Nat)
  /-- CONFIG_UNLOCK (R146). -/
  | configUnlock (t : Nat)
  /-- SET_OUTPUT (R74). -/
  | setOutput (t : Nat)
  /-- FLAGS_ARM (R171). -/
  | flagsArm (t : Nat)
  /-- FLAGS_CLEAR (R172). -/
  | flagsClear (t : Nat)
  /-- STATUS (R176). -/
  | status (t : Nat)
  /-- PATTERN (R185). -/
  | pattern (t : Nat)
  /-- PATTERN_END (R186). -/
  | patternEnd (t : Nat)
  /-- STANDBY with action ENTER (R181). -/
  | standbyEnter (t : Nat)
  /-- STANDBY with action EXIT (R181). -/
  | standbyExit (t : Nat)
  /-- STANDBY with action DELAY (R181). -/
  | standbyDelay (t : Nat)
  /-- SOFT_RESET (R162). -/
  | softReset (t : Nat)
  /-- A taken packet whose command code names no command (R156). -/
  | unknownCommand (t : Nat)
  /-- Power-on reset (R179). -/
  | powerOnReset (t : Nat)
  /-- Assertion of RESET_N (R179). -/
  | resetPin (t : Nat)
  /-- Release of power-on reset or of the reset pin (R59). -/
  | resetRelease (t : Nat)
  /-- End of frame-memory initialisation (R179). -/
  | initialisationEnd (t : Nat)
  /-- A sync word is judged at its mark `t`; `cells` are its 48 cells, cell 0 most significant (R58). -/
  | syncWord (t : Nat) (cells : BitVec 48)
  /-- The period generator makes a period start (R59). -/
  | generatorStart
  /-- The tracking window closes without an accepted word (R65). -/
  | trackingWindowClose
  /-- The 100 ms acquisition timer of the Period Clock expires (R62). -/
  | syncAcquisitionTimeout
  /-- The douser timer of an output expires (R142). -/
  | douserTimerExpiry (o : Out)
  /-- The open timer of an output expires (R132). -/
  | openTimerExpiry (o : Out)
  /-- The receiver of a link reports the signal present (R109). -/
  | signalPresent (t : Nat) (l : Link)
  /-- The receiver of a link reports the signal absent (R108). -/
  | signalAbsent (t : Nat) (l : Link)
  /-- The signal-loss timer of a link expires (R108). -/
  | signalLost (l : Link)
  /-- A frame delimiter arrives on a link (R95). -/
  | frameDelimiter (t : Nat) (l : Link)
  /-- The twelfth byte of a frame header arrives; byte 0 is the most significant byte of `bytes` (R107). -/
  | frameHeader (t : Nat) (l : Link) (bytes : BitVec 96)
  /-- The last byte of a pixel line arrives (R94). -/
  | pixelLine (t : Nat) (l : Link) (bytes : List Byte)
  /-- Bytes of a management area arrive: a whole packet, or a part of one (R119, log entry 5). -/
  | managementPacket (t : Nat) (l : Link) (bytes : List Byte)
  /-- The 5,000 ms acquisition timer of a link expires (R116). -/
  | linkAcquisitionTimeout (l : Link)
  /-- The 600 ms loss-limit timer of a link expires (R115). -/
  | lossLimitExpiry (l : Link)
  /-- The 250 ms quiet timer of a link expires (R116). -/
  | quietTimerExpiry (l : Link)
  /-- Verification of the closed table of a bank pair ends (R19). -/
  | verificationEnd (t : Nat) (o : Out) (k : Kind)
  /-- The idle timer expires (R182). -/
  | idleTimerExpiry
  /-- The waking timer expires (R183). -/
  | wakingTimerExpiry
  /-- The remaining time of an output's pattern runs out (R186). -/
  | patternExpiry (o : Out)
  /-- The 500 ms group timer of the service decoder expires (R188). -/
  | groupTimerExpiry
  /-- The 300 s override timer expires (R189). -/
  | overrideTimerExpiry
  /-- A taken fall of the service line (R188). -/
  | serviceTakenFall (t : Nat)
  /-- A taken rise of the service line (R188). -/
  | serviceTakenRise (t : Nat)
deriving DecidableEq, Repr

end Sys2Proof
end

