-- ==== Sys2Proof/Decode.lean ====
section
/-!
DEFINITION. Reading a command from a word of the opcode table. No row of spec/opcode_table.json gives bits (every row's
`fields` is empty), so no word spells a command. The bytes of management packets, frame headers and sync words are read
in Machine/Operands.lean.
-/
namespace Sys2Proof

/-- The command a word of the table spells: none, since the table gives no row any bits. -/
def decodeTableWord (_nbits _w : Nat) : Option Instr := none

end Sys2Proof
end

