-- ==== Sys2Proof/Machine/State.lean ====
section
/-!
DEFINITION. The state of the CU260: every record the manual's chapters give it, block by block, as plain data, and its
value right after power-on reset. Times are microseconds; a running timer is held as the time at which it expires.
-/
namespace Sys2Proof.Machine

open Sys2Proof

/-- One value for each stream link. -/
structure PerLink (α : Type) where
  a : α
  b : α
deriving DecidableEq, Repr

/-- One value for each output. -/
structure PerOut (α : Type) where
  out0 : α
  out1 : α
deriving DecidableEq, Repr

/-- One value for each table kind. -/
structure PerKind (α : Type) where
  warp : α
  blend : α
deriving DecidableEq, Repr

/-- One value for each of the four slots of a link (R90). -/
structure Quad (α : Type) where
  s0 : α
  s1 : α
  s2 : α
  s3 : α
deriving DecidableEq, Repr

/-- A channel mask: which outputs it names (chapter 0, Byte order and channel masks). -/
abbrev Mask := PerOut Bool

/-! ### Correction Table Memory (chapter 1) -/

/-- The grid size of a bank in nodes (R5). -/
structure Grid where
  gx : Nat
  gy : Nat
deriving DecidableEq, Repr

/-- What a LOADING or VERIFYING bank holds (R5). The received count is the number of bytes stored. -/
structure Load where
  grid : Grid
  label : Word32
  expected : Word32
  loader : Link
  bytes : List Byte
deriving DecidableEq, Repr

/-- What a READY bank holds (R5). -/
structure Table where
  grid : Grid
  label : Word32
  imageCrc : Word32
  bytes : List Byte
deriving DecidableEq, Repr

/-- A bank record: each state carries exactly the fields R5 gives it. A VERIFYING bank also carries the tag of its
TABLE_CLOSE (R17) and how many period starts its verification has seen (R18). -/
inductive Bank where
  | empty
  | loading (load : Load)
  | verifying (load : Load) (closeTag : Word16) (starts : Nat)
  | ready (table : Table)
deriving DecidableEq, Repr

/-- The values of an active index (R4). -/
inductive BankIndex where
  | bank0
  | bank1
deriving DecidableEq, Repr

/-- A bank pair (R4, R7). -/
structure BankPair where
  bank0 : Bank
  bank1 : Bank
  active : BankIndex
  pin : Bool
deriving DecidableEq, Repr

/-! ### Cue Scheduler (chapter 2) -/

/-- The kinds of a SWAP (R29, R192). -/
structure Kinds where
  warp : Bool
  blend : Bool
deriving DecidableEq, Repr

/-- What a cue does (R38). -/
inductive CueAction where
  | swap (kinds : Kinds) (fade : Nat)
  | gain (target : Word16) (ramp : Nat)
deriving DecidableEq, Repr

/-- A cue entry (R38). -/
structure Cue where
  id : Byte
  target : Period
  mask : Mask
  action : CueAction
  origin : Link
deriving DecidableEq, Repr

/-- The result of a fired cue (R47). -/
inductive CueResult where
  | done
  | late
  | partly
  | notReady
deriving DecidableEq, Repr

/-- An outcome record (R47). -/
structure CueRecord where
  id : Byte
  target : Period
  fired : Period
  origin : Link
  applied : PerOut (PerKind Bool)
  result : CueResult
deriving DecidableEq, Repr

/-- A blend-fade record: length N and step k (R32). -/
structure Fade where
  length : Nat
  step : Nat
deriving DecidableEq, Repr

/-- A gain-ramp record (R35). -/
structure Ramp where
  gain : Word16
  target : Word16
  remaining : Nat
deriving DecidableEq, Repr

/-! ### Period Clock (chapter 3) -/

/-- The clock state, with the dome count, reference word, acquisition timer and tracking window in the states that
have them. -/
inductive ClockState where
  | unsynced
  | acquiring (reference : Period) (mark : Nat) (expires : Nat)
  | tracking (dome : Period) (opens : Nat) (closes : Nat)
  | freerun (dome : Period)
deriving DecidableEq, Repr

/-- The most recent period start, and whether it was made at the mark of an accepted word. -/
structure LastStart where
  time : Nat
  atMark : Bool
deriving DecidableEq, Repr

/-- The reception state of the line decoder (R57). Receiving: samples since cell 0 began, and the cells taken so far,
the latest first. -/
inductive Reception where
  | waitingForRest
  | ready
  | receiving (elapsed : Nat) (cells : List Bool)
deriving DecidableEq, Repr

/-- The line decoder (R56, R57): the taken level, how many samples in a row differ from it, how many samples it has been
low without a break, and the reception state. -/
structure LineDecoder where
  level : Bool
  differing : Nat
  lowRun : Nat
  reception : Reception
deriving DecidableEq, Repr

/-- The Period Clock. `released` is the time of the last release of reset, absent while reset is held (R59, R71).
`lastStart` is always present: from the release until the first start it holds the release, from which the generator
counts (log entry 27). -/
structure Clock where
  state : ClockState
  period : Nat
  misses : Nat
  lastStart : LastStart
  released : Option Nat
  line : LineDecoder
deriving DecidableEq, Repr

/-! ### Stitch Pipelines (chapter 4): formats. The snapshot follows the records it copies. -/

/-- The output encodings (R73). -/
inductive OutputEncoding where
  | gamma10
  | gamma12
deriving DecidableEq, Repr

/-- An output format record (R73). -/
structure Format where
  width : Nat
  height : Nat
  encoding : OutputEncoding
deriving DecidableEq, Repr

/-! ### Frame Store (chapter 5) -/

/-- The frame encodings (R107). -/
inductive FrameEncoding where
  | gamma10
  | lin16
deriving DecidableEq, Repr

/-- A source pixel: the code of each component (R106). -/
structure Pixel where
  red : Word16
  green : Word16
  blue : Word16
deriving DecidableEq, Repr

/-- A frame in a slot: the fields taken from its header and the lines stored, line 0 first (R90). -/
structure Frame where
  target : Period
  width : Nat
  height : Nat
  encoding : FrameEncoding
  lines : List (List Pixel)
deriving DecidableEq, Repr

/-- A slot record: each state carries exactly the fields R90 gives it. The received count is the number of lines. -/
inductive Slot where
  | free
  | filling (frame : Frame)
  | complete (frame : Frame) (viewers : PerOut Bool)
deriving DecidableEq, Repr

/-- The position of a slot within its link's four. -/
inductive SlotIndex where
  | i0
  | i1
  | i2
  | i3
deriving DecidableEq, Repr

/-- A slot: slots 0 to 3 belong to link A, slots 4 to 7 to link B (R90). -/
structure SlotId where
  link : Link
  index : SlotIndex
deriving DecidableEq, Repr

/-- The drop causes (R93). -/
inductive DropCause where
  | none
  | noClock
  | standby
  | stale
  | early
  | duplicate
  | storeFull
  | late
  | incomplete
deriving DecidableEq, Repr

/-- One link's part of the Frame Store: its slots, its lead history (the latest first) and its last drop cause. -/
structure LinkStore where
  slots : Quad Slot
  leads : List Nat
  lastDrop : DropCause
deriving DecidableEq, Repr

/-! ### Stream Link Ports (chapter 6) -/

/-- A good frame header (R107). -/
structure Header where
  target : Period
  width : Nat
  height : Nat
  encoding : FrameEncoding
  packets : Nat
deriving DecidableEq, Repr

/-- The link state, with the counts, timers and LOCKED-since time of the states that have them. -/
inductive LinkState where
  | off
  | seeking (expires : Nat)
  | aligned (expires : Nat) (good : Nat)
  | locked (bad : Nat) (since : Nat)
  | holdover (expires : Nat) (good : Nat)
  | quiet (expires : Nat)
deriving DecidableEq, Repr

/-- A frame whose good header has been read: how many lines and packets have arrived, whether its management area is
parsed (R119), the bytes of the packet being received, and whether it is broken (R108). -/
structure FrameBody where
  header : Header
  lines : Nat
  parsed : Bool
  packets : Nat
  buffer : List Byte
  broken : Bool
deriving DecidableEq, Repr

/-- The frame in progress: none; a delimiter has come and its header has not; the signal has been absent and has come
back in that time, so that no header is read up to the next delimiter (R108); the rest is discarded up to the next
delimiter; or the body is being read. -/
inductive FrameProgress where
  | none
  | awaitingHeader
  | headerLost
  | skipping
  | body (frame : FrameBody)
deriving DecidableEq, Repr

/-- A return frame as sent: the state word and the result packets behind it (R195). -/
structure ReturnFrame where
  word : List Byte
  results : List (List Byte)
deriving DecidableEq, Repr

/-- A Stream Link Port. `signal` is what the receiver reports of the line. `sent` is the last return frame sent.
`fromAligned` says that LOCKED was last entered from ALIGNED, not from HOLDOVER: R125 tells the two apart where signal
lost falls at the instant of that entry. -/
structure Port where
  state : LinkState
  signal : Bool
  previous : Option Period
  frame : FrameProgress
  signalLoss : Option Nat
  sent : Option ReturnFrame
  fromAligned : Bool
deriving DecidableEq, Repr

/-! ### Output Source Controllers (chapter 7) -/

/-- The revert policies (R127). -/
inductive RevertPolicy where
  | auto
  | manual
deriving DecidableEq, Repr

/-- The roles (R129). -/
inductive Role where
  | primary
  | backup
deriving DecidableEq, Repr

/-- A route record (R127): settle in seconds, threshold, limit and fades in periods, douser times in milliseconds. -/
structure Route where
  primary : Option Link
  backup : Option Link
  revert : RevertPolicy
  settle : Nat
  threshold : Nat
  holdover : Nat
  fadeIn : Nat
  fadeOut : Nat
  douserDelay : Nat
  douserOpen : Nat
deriving DecidableEq, Repr

/-- The output states (section 7.2). -/
inductive OutputState where
  | dark
  | opening
  | fadingIn
  | live
  | holding
  | fadingOut
deriving DecidableEq, Repr

/-- The open timer (R132). -/
inductive OpenTimer where
  | stopped
  | running (expires : Nat)
  | expired
deriving DecidableEq, Repr

/-- An Output Source Controller. `douser` is the douser request: true when asserted. -/
structure Controller where
  route : Route
  pendingRoute : Option Route
  pendingSelect : Option Role
  state : OutputState
  role : Option Role
  starved : Nat
  ws : Rat
  held : Option SlotId
  douser : Bool
  douserTimer : Option Nat
  openTimer : OpenTimer
deriving DecidableEq, Repr

/-! ### Management Engine (chapter 8) -/

/-- A management packet in a command queue (R150). The payload length is the length of the payload. -/
structure Packet where
  code : Byte
  mask : Byte
  tag : Word16
  payload : List Byte
deriving DecidableEq, Repr

/-- The status codes (section 8.3). -/
inductive Status where
  | ok
  | unknownCommand
  | badLength
  | badParam
  | locked
  | overridden
  | busy
  | notOwner
  | notLoading
  | outOfOrder
  | lengthMismatch
  | crcMismatch
  | notReady
  | listFull
  | duplicateId
  | past
  | conflict
  | noCue
  | notDark
  | standby
  | wrongState
deriving DecidableEq, Repr

/-- A result in a result queue (R158). -/
structure Result where
  code : Byte
  status : Status
  tag : Word16
  payload : List Byte
deriving DecidableEq, Repr

/-- The modes of the configuration lock (R146). -/
inductive Lock where
  | none
  | normal
  | oneWay
deriving DecidableEq, Repr

/-- The Management Engine: queues, reserved places, arbiter pointer and configuration lock. -/
structure Engine where
  commands : PerLink (List Packet)
  results : PerLink (List Result)
  reserved : PerLink Nat
  arbiter : Link
  lock : Lock
deriving DecidableEq, Repr

/-! ### Condition Flag Unit (chapter 9) -/

/-- The flags and the two enable masks; a falling enable exists for conditions 0 to 11 only (R169). -/
structure FlagUnit where
  flags : BitVec 24
  rising : BitVec 24
  falling : BitVec 12
deriving DecidableEq, Repr

/-! ### Part State and Service Control (chapter 10) -/

/-- The standby kinds (R180). -/
inductive StandbyKind where
  | automatic
  | commanded
deriving DecidableEq, Repr

/-- The part state, with the standby kind and the waking timer in the states that have them. -/
inductive PartState where
  | initializing
  | ready
  | standby (kind : StandbyKind)
  | waking (expires : Nat)
deriving DecidableEq, Repr

/-- The pattern kinds (R185). -/
inductive PatternKind where
  | dotGrid
  | sourceGrid
  | flat
  | blendView
deriving DecidableEq, Repr

/-- A pattern record: the remaining time is held as the time at which it runs out (R185). -/
structure Pattern where
  kind : PatternKind
  level : Word16
  expires : Nat
deriving DecidableEq, Repr

/-- The service override, with its timer while it is active (R189). -/
inductive Override where
  | none
  | dark (expires : Nat)
  | grid (expires : Nat)
deriving DecidableEq, Repr

/-- The service decoder (R188): taken level, how many samples in a row differ from it, pulse count of the open group,
group timer. -/
structure ServiceDecoder where
  level : Bool
  differing : Nat
  group : Option Nat
  timer : Option Nat
deriving DecidableEq, Repr

/-- Part State and Service Control. -/
structure PartControl where
  state : PartState
  standbyDelay : Nat
  idleTimer : Option Nat
  patterns : PerOut (Option Pattern)
  service : Override
  decoder : ServiceDecoder
deriving DecidableEq, Repr

/-! ### Stitch Pipelines (chapter 4): snapshots -/

/-- The blend fade of a snapshot: the fade record and the shadow bank mixed from, absent when it is EMPTY (R75). -/
structure FadeMix where
  fade : Fade
  shadow : Option Table
deriving DecidableEq, Repr

/-- The per-period snapshot (R75): every value is the owner's, copied at the period start. An absent bank is EMPTY. -/
structure Snapshot where
  format : Format
  output : OutputState
  slot : Option SlotId
  frame : Option Frame
  ws : Rat
  warp : Option Table
  blend : Option Table
  fade : Option FadeMix
  gain : Word16
  part : PartState
  service : Override
  pattern : Option Pattern
deriving DecidableEq, Repr

/-- The raster an output port is sending (R72): its snapshot, when it began, the P in force then, the first line sent at
code 0 after an event of R76, and the first line sent without the fade mix after R77. -/
structure Raster where
  snapshot : Snapshot
  start : Nat
  period : Nat
  blackFrom : Option Nat
  unmixedFrom : Option Nat
deriving DecidableEq, Repr

/-- A Stitch Pipeline: the format record, the pending format, and the raster in progress, absent while the port sends
blanking after a reset (R72, R73). -/
structure Pipeline where
  format : Format
  pendingFormat : Option Format
  raster : Option Raster
deriving DecidableEq, Repr

/-! ### The whole part -/

/-- The sampled lines. -/
inductive SampledLine where
  | sync
  | service
deriving DecidableEq, Repr

/-- One sample of the sync line (10 MHz, R56) or the service line (1 kHz, R188), with the time at which it is taken. -/
structure LineSample where
  line : SampledLine
  time : Nat
  level : Bool
deriving DecidableEq, Repr

/-- The state of the CU260. `now` is the time of the last event taken. `samples` are line samples waiting to be taken,
the model's own input list (log entry 6). `pending` is the queue of commands waiting, first in, first out. -/
structure State where
  now : Nat
  pairs : PerOut (PerKind BankPair)
  cues : List Cue
  outcomes : List CueRecord
  pendingSwaps : PerOut (PerKind (Option Nat))
  fades : PerOut (Option Fade)
  ramps : PerOut Ramp
  clock : Clock
  pipelines : PerOut Pipeline
  store : PerLink LinkStore
  ports : PerLink Port
  controllers : PerOut Controller
  engine : Engine
  flagUnit : FlagUnit
  part : PartControl
  samples : List LineSample
  pending : List Instr
deriving DecidableEq, Repr

/-- The model has no fault: the manual gives every command and event an effect in every state, and an event that cannot
occur in a state leaves that state as it is (log entry 1). Nothing raises one. -/
inductive Fault where
deriving DecidableEq, Repr

/-- The reasons for a refusal. -/
inductive Refusal where
  /-- Raised by `exec` alone, for a command that has no meaning yet. Safe: the machine stops. No arm raises it now. -/
  | notModelled (mnemonic : String)
deriving DecidableEq, Repr

/-! ### Power-on reset values -/

/-- An empty bank pair: both banks EMPTY, active index 0, no pin (R25). -/
def BankPair.reset : BankPair := ⟨.empty, .empty, .bank0, false⟩

/-- R53: G = 65535, target 65535, r = 0. -/
def Ramp.reset : Ramp := ⟨0xFFFF, 0xFFFF, 0⟩

/-- R56, R57, R71: the taken level is low and the decoder waits for rest. -/
def LineDecoder.reset : LineDecoder := ⟨false, 0, 0, .waitingForRest⟩

/-- R71: UNSYNCED, P = 16,667 µs, no misses. Reset is held until RESET_RELEASE. The last start has no value in the manual
here: the model gives it time 0, by the generator (log entry 27). -/
def Clock.reset : Clock := ⟨.unsynced, 16667, 0, ⟨0, false⟩, none, LineDecoder.reset⟩

/-- R73: 1920 × 1080, GAMMA10, nothing pending; R72: blanking. -/
def Pipeline.reset : Pipeline := ⟨⟨1920, 1080, .gamma10⟩, none, none⟩

/-- R103: four FREE slots, an empty lead history, last drop cause NONE. -/
def LinkStore.reset : LinkStore := ⟨⟨.free, .free, .free, .free⟩, [], .none⟩

/-- R126: OFF, timers stopped, counts absent. The signal is not part of the reset: absent at first (log entry 7). -/
def Port.reset : Port := ⟨.off, false, none, .none, none, none, false⟩

/-- The route record after power-on reset (R127). -/
def Route.reset : Route := ⟨none, none, .auto, 5, 2, 12, 24, 24, 2000, 500⟩

/-- R149: DARK, douser request asserted, timers stopped. -/
def Controller.reset : Controller :=
  ⟨Route.reset, none, none, .dark, none, 0, 0, none, true, none, .stopped⟩

/-- R165: empty queues, no reserved place, the pointer names B; R146: lock NONE. -/
def Engine.reset : Engine := ⟨⟨[], []⟩, ⟨[], []⟩, ⟨0, 0⟩, .b, .none⟩

/-- R169: all flags clear, every enable set. -/
def FlagUnit.reset : FlagUnit := ⟨0, 0xFFFFFF, 0xFFF⟩

/-- R188: taken level high, no group open, group timer stopped. -/
def ServiceDecoder.reset : ServiceDecoder := ⟨true, 0, none, none⟩

/-- R191: INITIALIZING, standby delay 600 s, no pattern, no override. -/
def PartControl.reset : PartControl :=
  ⟨.initializing, 600, none, ⟨none, none⟩, .none, ServiceDecoder.reset⟩

/-- The part right after power-on reset, with the reset still held (log entry 8). -/
def State.reset : State where
  now := 0
  pairs := ⟨⟨BankPair.reset, BankPair.reset⟩, ⟨BankPair.reset, BankPair.reset⟩⟩
  cues := []
  outcomes := []
  pendingSwaps := ⟨⟨none, none⟩, ⟨none, none⟩⟩
  fades := ⟨none, none⟩
  ramps := ⟨Ramp.reset, Ramp.reset⟩
  clock := Clock.reset
  pipelines := ⟨Pipeline.reset, Pipeline.reset⟩
  store := ⟨LinkStore.reset, LinkStore.reset⟩
  ports := ⟨Port.reset, Port.reset⟩
  controllers := ⟨Controller.reset, Controller.reset⟩
  engine := Engine.reset
  flagUnit := FlagUnit.reset
  part := PartControl.reset
  samples := []
  pending := []

end Sys2Proof.Machine
end

