-- ==== Sys2Proof/Machine/Ops.lean ====
section
/-!
DEFINITION. The named operations over the records of State: access by link, output, kind and slot, period-number
arithmetic (R1), the passing of time, and the fixed times of the manual.
-/
namespace Sys2Proof.Machine

open Sys2Proof

/-! ### Access -/

def PerLink.get {α : Type} (p : PerLink α) : Link → α
  | .a => p.a
  | .b => p.b

def PerLink.set {α : Type} (p : PerLink α) (l : Link) (x : α) : PerLink α :=
  match l with
  | .a => { p with a := x }
  | .b => { p with b := x }

def PerLink.map {α β : Type} (p : PerLink α) (f : α → β) : PerLink β := ⟨f p.a, f p.b⟩

def PerOut.get {α : Type} (p : PerOut α) : Out → α
  | .out0 => p.out0
  | .out1 => p.out1

def PerOut.set {α : Type} (p : PerOut α) (o : Out) (x : α) : PerOut α :=
  match o with
  | .out0 => { p with out0 := x }
  | .out1 => { p with out1 := x }

def PerOut.map {α β : Type} (p : PerOut α) (f : α → β) : PerOut β := ⟨f p.out0, f p.out1⟩

/-- Applies `f` to the outputs a mask names and leaves the others. -/
def PerOut.mapWhere {α : Type} (p : PerOut α) (m : Mask) (f : α → α) : PerOut α :=
  ⟨if m.out0 then f p.out0 else p.out0, if m.out1 then f p.out1 else p.out1⟩

/-- Some output named by the mask has the property. -/
def PerOut.anyWhere {α : Type} (p : PerOut α) (m : Mask) (f : α → Bool) : Bool :=
  (m.out0 && f p.out0) || (m.out1 && f p.out1)

def PerKind.get {α : Type} (p : PerKind α) : Kind → α
  | .warp => p.warp
  | .blend => p.blend

def PerKind.set {α : Type} (p : PerKind α) (k : Kind) (x : α) : PerKind α :=
  match k with
  | .warp => { p with warp := x }
  | .blend => { p with blend := x }

def PerKind.map {α β : Type} (p : PerKind α) (f : α → β) : PerKind β := ⟨f p.warp, f p.blend⟩

def Quad.get {α : Type} (q : Quad α) : SlotIndex → α
  | .i0 => q.s0
  | .i1 => q.s1
  | .i2 => q.s2
  | .i3 => q.s3

def Quad.set {α : Type} (q : Quad α) (i : SlotIndex) (x : α) : Quad α :=
  match i with
  | .i0 => { q with s0 := x }
  | .i1 => { q with s1 := x }
  | .i2 => { q with s2 := x }
  | .i3 => { q with s3 := x }

def Quad.map {α β : Type} (q : Quad α) (f : α → β) : Quad β := ⟨f q.s0, f q.s1, f q.s2, f q.s3⟩

/-- The lowest-numbered position whose entry has the property. -/
def Quad.find {α : Type} (q : Quad α) (f : α → Bool) : Option SlotIndex :=
  if f q.s0 then some .i0
  else if f q.s1 then some .i1
  else if f q.s2 then some .i2
  else if f q.s3 then some .i3
  else none

/-- The four bank pairs in the order the manual lists them. -/
def allPairs : List (Out × Kind) := [(.out0, .warp), (.out0, .blend), (.out1, .warp), (.out1, .blend)]

/-- The pair of a table of pairs. -/
def PerOut.at2 {α : Type} (p : PerOut (PerKind α)) (o : Out) (k : Kind) : α := (p.get o).get k

def PerOut.set2 {α : Type} (p : PerOut (PerKind α)) (o : Out) (k : Kind) (x : α) : PerOut (PerKind α) :=
  p.set o ((p.get o).set k x)

/-! ### Period numbers (R1) -/

/-- T is at or before D. -/
def atOrBefore (t d : Period) : Bool := (d - t).toNat < 2 ^ 31

/-- T is before D. -/
def before (t d : Period) : Bool := atOrBefore t d && t != d

/-- T is later than D. -/
def laterThan (t d : Period) : Bool := !atOrBefore t d

/-! ### Time -/

/-- Time passes to the time of the event being taken. It never goes back. -/
def State.advance (s : State) (t : Nat) : State := { s with now := max s.now t }

/-- Seconds in microseconds. -/
def seconds (n : Nat) : Nat := n * 1000000

/-- Milliseconds in microseconds. -/
def millis (n : Nat) : Nat := n * 1000

/-- R61: the acquisition timer of the Period Clock. -/
def syncAcquisitionTime : Nat := millis 100

/-- R109: the acquisition timer of a Stream Link Port. -/
def linkAcquisitionTime : Nat := millis 5000

/-- R114: the loss-limit timer. -/
def lossLimitTime : Nat := millis 600

/-- R116: the quiet timer. -/
def quietTime : Nat := millis 250

/-- R108: the signal-loss timer. -/
def signalLossTime : Nat := millis 3

/-- R183: the waking timer. -/
def wakingTime : Nat := millis 200

/-- R188: the group timer. -/
def groupTime : Nat := millis 500

/-- R189: the override timer. -/
def overrideTime : Nat := seconds 300

/-- R191: the standby delay after a reset, in seconds. -/
def defaultStandbyDelay : Nat := 600

/-- R151: the places of a command queue. -/
def commandPlaces : Nat := 16

/-- R159: the places of a result queue. -/
def resultPlaces : Nat := 8

/-- R38: the places of the cue list. -/
def cuePlaces : Nat := 16

/-- R49: the places of the outcome queue. -/
def outcomePlaces : Nat := 16

/-- R96: the length of a lead history. -/
def leadPlaces : Nat := 64

/-! ### Banks (chapter 1) -/

def BankIndex.other : BankIndex → BankIndex
  | .bank0 => .bank1
  | .bank1 => .bank0

def BankPair.bank (p : BankPair) : BankIndex → Bank
  | .bank0 => p.bank0
  | .bank1 => p.bank1

/-- The active bank of a pair (R4). -/
def BankPair.activeBank (p : BankPair) : Bank := p.bank p.active

/-- The shadow of a pair (R4). -/
def BankPair.shadow (p : BankPair) : Bank := p.bank p.active.other

def BankPair.setShadow (p : BankPair) (b : Bank) : BankPair :=
  match p.active with
  | .bank0 => { p with bank1 := b }
  | .bank1 => { p with bank0 := b }

/-- The table of a READY bank. -/
def Bank.table : Bank → Option Table
  | .ready t => some t
  | .empty | .loading _ | .verifying _ _ _ => none

/-- The bank is LOADING or VERIFYING (R15). -/
def Bank.inLoad : Bank → Bool
  | .loading _ | .verifying _ _ _ => true
  | .empty | .ready _ => false

/-- An exchange (R8): the flip of the active index, made only if the shadow is READY. -/
def BankPair.exchange (p : BankPair) : Option BankPair :=
  match p.shadow with
  | .ready _ => some { p with active := p.active.other }
  | .empty | .loading _ | .verifying _ _ _ => none

def State.pair (s : State) (o : Out) (k : Kind) : BankPair := s.pairs.at2 o k

def State.setPair (s : State) (o : Out) (k : Kind) (p : BankPair) : State :=
  { s with pairs := s.pairs.set2 o k p }

/-- The number of bytes of an image of the kind (R5). -/
def imageLength (k : Kind) (g : Grid) : Nat :=
  match k with
  | .warp => g.gx * g.gy * 8
  | .blend => g.gx * g.gy * 4

/-- The range of GX and GY for the kind (R9, R10). -/
def gridInRange (k : Kind) (g : Grid) : Bool :=
  match k with
  | .warp => 2 ≤ g.gx && g.gx ≤ 65 && 2 ≤ g.gy && g.gy ≤ 65
  | .blend => 2 ≤ g.gx && g.gx ≤ 129 && 2 ≤ g.gy && g.gy ≤ 129

/-! ### The Period Clock as others read it -/

/-- D while it is defined (R67). -/
def ClockState.dome : ClockState → Option Period
  | .tracking d _ _ => some d
  | .freerun d => some d
  | .unsynced | .acquiring _ _ _ => none

def State.dome (s : State) : Option Period := s.clock.state.dome

/-! ### The part state as others read it -/

/-- The part state is STANDBY or WAKING (R180). -/
def PartState.inStandby : PartState → Bool
  | .standby _ | .waking _ => true
  | .initializing | .ready => false

/-- A service override is active (R190). -/
def Override.active : Override → Bool
  | .dark _ | .grid _ => true
  | .none => false

/-! ### The slots of the Frame Store -/

def State.slot (s : State) (i : SlotId) : Slot := (s.store.get i.link).slots.get i.index

def State.setSlot (s : State) (i : SlotId) (x : Slot) : State :=
  let st := s.store.get i.link
  { s with store := s.store.set i.link { st with slots := st.slots.set i.index x } }

def Slot.isFree : Slot → Bool
  | .free => true
  | .filling _ | .complete _ _ => false

def Slot.isFilling : Slot → Bool
  | .filling _ => true
  | .free | .complete _ _ => false

/-- The target period of a slot that is not FREE. -/
def Slot.target : Slot → Option Period
  | .free => none
  | .filling f => some f.target
  | .complete f _ => some f.target

/-- The viewer set is empty (R98). -/
def noViewers (v : PerOut Bool) : Bool := !v.out0 && !v.out1

/-! ### Link states as others read them -/

def LinkState.isLocked : LinkState → Bool
  | .locked _ _ => true
  | .off | .seeking _ | .aligned _ _ | .holdover _ _ | .quiet _ => false

/-- OFF, QUIET or SEEKING: the states that let the part go idle (R182). -/
def LinkState.isIdle : LinkState → Bool
  | .off | .seeking _ | .quiet _ => true
  | .aligned _ _ | .locked _ _ | .holdover _ _ => false

/-- The link states in which headers are judged (section 6.2). -/
def LinkState.judges : LinkState → Bool
  | .seeking _ | .aligned _ _ | .locked _ _ | .holdover _ _ => true
  | .off | .quiet _ => false

def State.setPort (s : State) (l : Link) (p : Port) : State := { s with ports := s.ports.set l p }

def State.setController (s : State) (o : Out) (c : Controller) : State :=
  { s with controllers := s.controllers.set o c }

end Sys2Proof.Machine
end

