-- ==== Sys2Proof/Machine/Flags.lean ====
section
/-!
DEFINITION. The Condition Flag Unit: the twelve levels, the twelve events, and the latching of their edges (chapter 9).
-/
namespace Sys2Proof.Machine

open Sys2Proof

/-! ### Levels: conditions 0 to 11 (R167) -/

def OutputState.showing : OutputState → Bool
  | .fadingIn | .live | .holding | .fadingOut => true
  | .dark | .opening => false

/-- OUTn_BACKUP (R147). -/
def Controller.onBackup (c : Controller) : Bool := c.state.showing && c.role == some .backup

/-- OUTn_DARK (R147). -/
def Controller.isDark (c : Controller) : Bool := c.state == .dark

def ClockState.isTracking : ClockState → Bool
  | .tracking _ _ _ => true
  | .unsynced | .acquiring _ _ _ | .freerun _ => false

/-- The configuration lock is NORMAL or ONE_WAY (R146). -/
def Lock.isSet : Lock → Bool
  | .normal | .oneWay => true
  | .none => false

/-- The levels, condition n at bit n, from the records they are read from. -/
def levelsOf (ports : PerLink Port) (clock : Clock) (controllers : PerOut Controller) (part : PartControl)
    (lock : Lock) : BitVec 12 :=
  BitVec.ofBoolListLE
    [ports.a.state.isLocked, ports.b.state.isLocked, clock.state.isTracking,
     controllers.out0.onBackup, controllers.out1.onBackup, controllers.out0.isDark, controllers.out1.isDark,
     part.state.inStandby, part.service.active, part.patterns.out0.isSome, part.patterns.out1.isSome, lock.isSet]

/-- The levels of the part. -/
def levels (s : State) : BitVec 12 := levelsOf s.ports s.clock s.controllers s.part s.engine.lock

/-- The flags that a change of the levels from `old` to `new` sets: enabled rising edges and enabled falling edges
(R170). -/
def edgeFlags (u : FlagUnit) (old new : BitVec 12) : BitVec 24 :=
  (((new &&& ~~~old) &&& u.rising.setWidth 12) ||| ((old &&& ~~~new) &&& u.falling)).setWidth 24

/-- Takes the edges that one event made: `s` as the event found the levels, `s'` as it left them. A level that changes
and changes back within the event makes no edge (R167). -/
def latchEdges (s s' : State) : State :=
  { s' with flagUnit := { s'.flagUnit with
      flags := s'.flagUnit.flags ||| edgeFlags s'.flagUnit (levels s) (levels s') } }

/-! ### Events: conditions 12 to 23 (R168) -/

inductive Event where
  | syncJump
  | linkFail (l : Link)
  | mgmtReject (l : Link)
  | frameDrop (l : Link)
  | cueOutcome
  | cueFault
  | reportLost
  | loadLost
  | starved
deriving DecidableEq, Repr

/-- The condition number of an event (R168). -/
def Event.number : Event → Nat
  | .syncJump => 12
  | .linkFail .a => 13
  | .linkFail .b => 14
  | .mgmtReject .a => 15
  | .mgmtReject .b => 16
  | .frameDrop .a => 17
  | .frameDrop .b => 18
  | .cueOutcome => 19
  | .cueFault => 20
  | .reportLost => 21
  | .loadLost => 22
  | .starved => 23

/-- Raises an event: a rising edge, latched if its enable is set (R168, R170). -/
def State.raise (s : State) (e : Event) : State :=
  if s.flagUnit.rising.getLsbD e.number then
    { s with flagUnit := { s.flagUnit with flags := s.flagUnit.flags ||| (1#24 <<< e.number) } }
  else s

/-- Raises an event when `b` holds. -/
def State.raiseIf (s : State) (b : Bool) (e : Event) : State := if b then s.raise e else s

end Sys2Proof.Machine
end

