-- ==== Sys2Proof/Machine/Operands.lean ====
section
/-!
DEFINITION. Every operand form: the bytes of packets, headers, sync words and pixel lines read as the chapter Formats
lays them out, the codes of the enumerated fields (R192), the three check sequences, and the bytes the part writes.
-/
namespace Sys2Proof.Machine

open Sys2Proof

/-! ### Bytes, most significant first (R2) -/

/-- The low `n` bytes of a number, most significant first. -/
def beBytes : Nat → Nat → List Byte
  | 0, _ => []
  | n + 1, x => BitVec.ofNat 8 (x / 256 ^ n) :: beBytes n x

/-- The number that bytes, most significant first, spell. -/
def beNat (bs : List Byte) : Nat := bs.foldl (fun acc b => acc * 256 + b.toNat) 0

/-! ### Check sequences (chapter 0) -/

/-- The bits of a byte, most significant first. -/
def msbFirst (b : Byte) : List Bool := [7, 6, 5, 4, 3, 2, 1, 0].map b.getLsbD

/-- The bits of a byte, least significant first. -/
def lsbFirst (b : Byte) : List Bool := [0, 1, 2, 3, 4, 5, 6, 7].map b.getLsbD

/-- One bit into the CRC-16 register: x^16 + x^12 + x^5 + 1 (R107). -/
def crc16Bit (r : Word16) (bit : Bool) : Word16 :=
  if r.msb != bit then (r <<< 1) ^^^ 0x1021#16 else r <<< 1

/-- The CRC-16 of headers and packets (R107). -/
def crc16 (bs : List Byte) : Word16 := (bs.flatMap msbFirst).foldl crc16Bit 0xFFFF#16

/-- One bit into the CRC-8 register: x^8 + x^2 + x + 1 (R58). -/
def crc8Bit (r : Byte) (bit : Bool) : Byte :=
  if r.msb != bit then (r <<< 1) ^^^ 0x07#8 else r <<< 1

/-- The CRC-8 of a sync word, over bits in the order sent (R58). -/
def crc8 (bits : List Bool) : Byte := bits.foldl crc8Bit 0

/-- One bit into the CRC-32 register, held with its most significant coefficient in bit 0 (R18). -/
def crc32Bit (r : Word32) (bit : Bool) : Word32 :=
  if r.getLsbD 0 != bit then (r >>> 1) ^^^ 0xEDB88320#32 else r >>> 1

/-- The CRC-32 of a table image (R18). -/
def crc32 (bs : List Byte) : Word32 := ~~~ bs.foldl (fun r b => (lsbFirst b).foldl crc32Bit r) 0xFFFFFFFF#32

/-! ### Packets (R194) -/

/-- Byte `i` of the payload. -/
def Packet.u8 (p : Packet) (i : Nat) : Byte := p.payload.getD i 0

/-- The 16-bit field at payload offset `i`. -/
def Packet.u16 (p : Packet) (i : Nat) : Word16 := p.u8 i ++ p.u8 (i + 1)

/-- The 24-bit field at payload offset `i`. -/
def Packet.u24 (p : Packet) (i : Nat) : BitVec 24 := p.u16 i ++ p.u8 (i + 2)

/-- The 32-bit field at payload offset `i`. -/
def Packet.u32 (p : Packet) (i : Nat) : Word32 := p.u16 i ++ p.u16 (i + 2)

/-- The outputs a channel mask names: bit 0 is OUT-0, bit 1 is OUT-1, the rest is ignored (R150). -/
def Packet.outputs (p : Packet) : Mask := ⟨p.mask.getLsbD 0, p.mask.getLsbD 1⟩

/-- The mask names neither output (R156). -/
def Packet.noOutput (p : Packet) : Bool := !p.outputs.out0 && !p.outputs.out1

/-- The one output a mask names, if it names just one (R14). -/
def Packet.oneOutput (p : Packet) : Option Out :=
  match p.outputs with
  | ⟨true, false⟩ => some .out0
  | ⟨false, true⟩ => some .out1
  | ⟨true, true⟩ | ⟨false, false⟩ => none

/-- A packet read from the bytes of the management area (R194). -/
def packetOf (bs : List Byte) : Packet where
  code := bs.getD 0 0
  mask := bs.getD 1 0
  tag := bs.getD 2 0 ++ bs.getD 3 0
  payload := (bs.drop 6).take (bs.length - 8)

/-- The payload length field of packet bytes (R119). -/
def lengthField (bs : List Byte) : Nat := beNat ((bs.drop 4).take 2)

/-- The check of packet bytes matches (R119). -/
def packetCheckOk (bs : List Byte) : Bool :=
  (crc16 (bs.take (bs.length - 2))).toNat == beNat (bs.drop (bs.length - 2))

/-! ### Enumerated fields (R192) -/

def kindOf (b : Byte) : Option Kind :=
  match b.toNat with
  | 1 => some .warp
  | 2 => some .blend
  | _ => none

def kindsOf (b : Byte) : Option Kinds :=
  match b.toNat with
  | 1 => some ⟨true, false⟩
  | 2 => some ⟨false, true⟩
  | 3 => some ⟨true, true⟩
  | _ => none

/-- A route link: `some none` is NONE. -/
def routeLinkOf (b : Byte) : Option (Option Link) :=
  match b.toNat with
  | 0 => some none
  | 1 => some (some .a)
  | 2 => some (some .b)
  | _ => none

def revertOf (b : Byte) : Option RevertPolicy :=
  match b.toNat with
  | 0 => some .auto
  | 1 => some .manual
  | _ => none

def roleOf (b : Byte) : Option Role :=
  match b.toNat with
  | 1 => some .primary
  | 2 => some .backup
  | _ => none

/-- A lock mode that CONFIG_LOCK may name: NONE is not one of them (R194). -/
def lockOf (b : Byte) : Option Lock :=
  match b.toNat with
  | 1 => some .normal
  | 2 => some .oneWay
  | _ => none

def outputEncodingOf (b : Byte) : Option OutputEncoding :=
  match b.toNat with
  | 0 => some .gamma10
  | 1 => some .gamma12
  | _ => none

def frameEncodingOf (b : Byte) : Option FrameEncoding :=
  match b.toNat with
  | 0 => some .gamma10
  | 1 => some .lin16
  | _ => none

def patternKindOf (b : Byte) : Option PatternKind :=
  match b.toNat with
  | 1 => some .dotGrid
  | 2 => some .sourceGrid
  | 3 => some .flat
  | 4 => some .blendView
  | _ => none

/-! ### Codes the part writes (R192, section 8.3) -/

def linkCode : Link → Byte
  | .a => 1
  | .b => 2

def Status.code : Status → Byte
  | .ok => 0x00
  | .unknownCommand => 0x01
  | .badLength => 0x02
  | .badParam => 0x03
  | .locked => 0x04
  | .overridden => 0x05
  | .busy => 0x06
  | .notOwner => 0x07
  | .notLoading => 0x08
  | .outOfOrder => 0x09
  | .lengthMismatch => 0x0A
  | .crcMismatch => 0x0B
  | .notReady => 0x0C
  | .listFull => 0x0D
  | .duplicateId => 0x0E
  | .past => 0x0F
  | .conflict => 0x10
  | .noCue => 0x11
  | .notDark => 0x12
  | .standby => 0x13
  | .wrongState => 0x14

def PartState.code : PartState → Byte
  | .initializing => 0
  | .ready => 1
  | .standby _ => 2
  | .waking _ => 3

def ClockState.code : ClockState → Byte
  | .unsynced => 0
  | .acquiring _ _ _ => 1
  | .tracking _ _ _ => 2
  | .freerun _ => 3

def LinkState.code : LinkState → Byte
  | .off => 0
  | .seeking _ => 1
  | .aligned _ _ => 2
  | .locked _ _ => 3
  | .holdover _ _ => 4
  | .quiet _ => 5

def OutputState.code : OutputState → Byte
  | .dark => 0
  | .opening => 1
  | .fadingIn => 2
  | .live => 3
  | .holding => 4
  | .fadingOut => 5

/-- The role byte of the state word: 0 when absent. -/
def roleCode : Option Role → Byte
  | none => 0
  | some .primary => 1
  | some .backup => 2

def Override.code : Override → Byte
  | .none => 0
  | .dark _ => 1
  | .grid _ => 2

def Lock.code : Lock → Byte
  | .none => 0
  | .normal => 1
  | .oneWay => 2

def Bank.code : Bank → Byte
  | .empty => 0
  | .loading _ => 1
  | .verifying _ _ _ => 2
  | .ready _ => 3

def BankIndex.code : BankIndex → Byte
  | .bank0 => 0
  | .bank1 => 1

def DropCause.code : DropCause → Byte
  | .none => 0
  | .noClock => 1
  | .standby => 2
  | .stale => 3
  | .early => 4
  | .duplicate => 5
  | .storeFull => 6
  | .late => 7
  | .incomplete => 8

def CueResult.code : CueResult → Byte
  | .done => 0
  | .late => 1
  | .partly => 2
  | .notReady => 3

/-- A result packet on the return channel (R194). -/
def Result.bytes (r : Result) : List Byte :=
  let head := [r.code, r.status.code] ++ beBytes 2 r.tag.toNat ++ beBytes 2 r.payload.length ++ r.payload
  head ++ beBytes 2 (crc16 head).toNat

/-! ### Command codes (R194) -/

/-- The codes that name a command. -/
def commandCodes : List Nat :=
  [0x11, 0x12, 0x13, 0x14, 0x21, 0x22, 0x23, 0x24, 0x25, 0x26, 0x31, 0x32, 0x33, 0x34, 0x38, 0x41, 0x42, 0x43, 0x51,
   0x52, 0x53, 0x7E]

/-! ### Frame headers and pixel lines (R106, R107, R193) -/

/-- Byte `i` of the twelve bytes of a header. -/
def headerByte (h : BitVec 96) (i : Nat) : Byte := h.extractLsb' (88 - 8 * i) 8

/-- The check of a header matches (R107). -/
def headerCheckOk (h : BitVec 96) : Bool :=
  crc16 ((List.range 10).map (headerByte h)) == h.extractLsb' 0 16

/-- The header, if it is good (R107). -/
def headerOf (h : BitVec 96) : Option Header :=
  let width := (h.extractLsb' 48 16).toNat
  let height := (h.extractLsb' 32 16).toNat
  let packets := (headerByte h 9).toNat
  match frameEncodingOf (headerByte h 8) with
  | none => none
  | some encoding =>
    if headerCheckOk h && 640 ≤ width && width ≤ 4096 && 480 ≤ height && height ≤ 2400 && packets ≤ 24 then
      some ⟨h.extractLsb' 64 32, width, height, encoding, packets⟩
    else none

/-- The code of a component: GAMMA10 keeps the low ten bits, LIN16 all sixteen (R106). -/
def component (e : FrameEncoding) (hi lo : Byte) : Word16 :=
  match e with
  | .gamma10 => (hi ++ lo) &&& 0x3FF#16
  | .lin16 => hi ++ lo

/-- The pixels of a line, six bytes each (R106). -/
def pixelsOf (e : FrameEncoding) : List Byte → List Pixel
  | r1 :: r0 :: g1 :: g0 :: b1 :: b0 :: rest =>
    ⟨component e r1 r0, component e g1 g0, component e b1 b0⟩ :: pixelsOf e rest
  | _ => []

/-! ### Sync words (R58, R193) -/

/-- The first 40 cells of a sync word, in the order sent. -/
def checkedCells (w : BitVec 48) : List Bool := (List.range 40).map fun i => w.getLsbD (47 - i)

/-- The tests of R58. -/
def syncWordAccepted (w : BitVec 48) : Bool :=
  w.extractLsb' 40 8 == 0xB5#8 && crc8 (checkedCells w) == w.extractLsb' 0 8

/-- The period number of a sync word. -/
def syncWordNumber (w : BitVec 48) : Period := w.extractLsb' 8 32

end Sys2Proof.Machine
end

