-- ==== Sys2Proof/Machine/Engine.lean ====
section
/-!
DEFINITION. The Management Engine: command queues, arbiter, general checks and result queues (R150 to R161).
-/
namespace Sys2Proof.Machine

open Sys2Proof

/-! ### Command queues -/

/-- Hands a received packet to the engine: the tail of its link's queue, or dropped with MGMT_REJECT (R151). -/
def handOver (l : Link) (p : Packet) (s : State) : State :=
  let q := s.engine.commands.get l
  if q.length < commandPlaces then
    { s with engine := { s.engine with commands := s.engine.commands.set l (q ++ [p]) } }
  else s.raise (.mgmtReject l)

/-- The credit of a link (R152). -/
def credit (s : State) (l : Link) : Nat :=
  match s.part.state with
  | .initializing => 0
  | .ready | .standby _ | .waking _ => commandPlaces - (s.engine.commands.get l).length

/-! ### The arbiter -/

/-- The link may be served: a packet waits and a result place is free (R153). -/
def Engine.mayServe (e : Engine) (l : Link) : Bool :=
  !(e.commands.get l).isEmpty && (e.results.get l).length + e.reserved.get l < resultPlaces

def otherLink : Link → Link
  | .a => .b
  | .b => .a

/-- The link the arbiter takes from (R154). -/
def Engine.choose (e : Engine) : Option Link :=
  if e.mayServe (otherLink e.arbiter) then some (otherLink e.arbiter)
  else if e.mayServe e.arbiter then some e.arbiter
  else none

/-- The packet the engine takes next, its link, and the packets left behind it. In INITIALIZING it takes nothing
(R155). -/
def nextPacket (s : State) : Option (Link × Packet × List Packet) :=
  match s.part.state with
  | .initializing => none
  | .ready | .standby _ | .waking _ =>
    match s.engine.choose with
    | none => none
    | some l =>
      match s.engine.commands.get l with
      | [] => none
      | p :: rest => some (l, p, rest)

/-- The packet leaves its queue and the arbiter pointer names its link (R154). -/
def dequeue (l : Link) (rest : List Packet) (s : State) : State :=
  { s with engine := { s.engine with commands := s.engine.commands.set l rest, arbiter := l } }

/-! ### Results -/

/-- Places a result at the tail of a link's result queue (R159). -/
def placeResult (l : Link) (r : Result) (s : State) : State :=
  { s with engine := { s.engine with results := s.engine.results.set l (s.engine.results.get l ++ [r]) } }

/-- Adds a reserved place (R160). -/
def reservePlace (l : Link) (s : State) : State :=
  { s with engine := { s.engine with reserved := s.engine.reserved.set l (s.engine.reserved.get l + 1) } }

/-- Places a deferred result and gives its reserved place up (R160). -/
def placeDeferred (l : Link) (r : Result) (s : State) : State :=
  { s with engine := { s.engine with
      results := s.engine.results.set l (s.engine.results.get l ++ [r]),
      reserved := s.engine.reserved.set l (s.engine.reserved.get l - 1) } }

/-- The result of a packet (R158). -/
def resultOf (p : Packet) (st : Status) (payload : List Byte) : Result := ⟨p.code, st, p.tag, payload⟩

/-! ### Taking a command -/

/-- What the owner of a command answers: a refusal, which changes no state of its own (R157), an acceptance with the
state it leaves, or an acceptance whose result is deferred (R17). -/
inductive Reply where
  | refuse (st : Status) (payload : List Byte)
  | accept (s : State) (payload : List Byte)
  | defer (s : State)

/-- The length and mask checks that come before the owner (R156). -/
def generalChecks (lengthOk channel : Bool) (p : Packet) (owner : Reply) : Reply :=
  if !lengthOk then .refuse .badLength []
  else if channel && p.noOutput then .refuse .badParam []
  else owner

/-- Places the result of a taken packet (R157, R158, R160). -/
def settle (l : Link) (p : Packet) (s : State) : Reply → State
  | .refuse st payload => placeResult l (resultOf p st payload) s
  | .accept s' payload => placeResult l (resultOf p .ok payload) s'
  | .defer s' => reservePlace l s'

/-- The engine takes its next packet at time `t`, if that packet is one of those `names` picks, and `run` executes it:
one event (R154). When no link may be served, or another command is next, the command does not occur and time alone
passes (log entry 1). -/
def takeCommand (names : Packet → Bool) (run : Link → Packet → State → State) (t : Nat) (s : State) : State :=
  match nextPacket s with
  | none => s.advance t
  | some (l, p, rest) =>
    if names p then latchEdges (s.advance t) (run l p (dequeue l rest (s.advance t))) else s.advance t

/-- Taking a command whose owner answers with a reply. -/
def takeOwned (names : Packet → Bool) (lengthOk : Nat → Bool) (channel : Bool) (owner : Link → Packet → State → Reply)
    (t : Nat) (s : State) : State :=
  takeCommand names
    (fun l p s1 => settle l p s1 (generalChecks (lengthOk p.payload.length) channel p (owner l p s1))) t s

/-- UNKNOWN_COMMAND: the packet's code names no command (R156). -/
def unknownOwner (_ : Link) (_ : Packet) (_ : State) : Reply := .refuse .unknownCommand []

/-- UNKNOWN_COMMAND (R156): general check 1 comes before the length and the mask. -/
def execUnknownCommand (t : Nat) (s : State) : Host.Outcome State Fault Refusal :=
  .next (takeOwned (fun p => !commandCodes.contains p.code.toNat) (fun _ => true) false unknownOwner t s)

end Sys2Proof.Machine
end

