-- ==== Sys2Proof/Machine/Pipeline.lean ====
section
/-!
DEFINITION. The Stitch Pipelines' state: the output format, the per-period snapshot, the raster in progress and the
events that reach it (R72 to R77). What a raster shows is in Machine/Render.lean.
-/
namespace Sys2Proof.Machine

open Sys2Proof

def State.pipeline (s : State) (o : Out) : Pipeline := s.pipelines.get o

/-! ### The raster in progress -/

/-- The line being sent at time `t`: the lines are spread evenly over the first 15/16 of the P in force at the start
(R72). A value of H or more means that blanking is being sent. -/
def Raster.lineAt (r : Raster) (t : Nat) : Nat := (t - r.start) * 16 * r.snapshot.format.height / (15 * r.period)

/-- The next line sent after an event at time `t`: the line being sent is finished as it was begun (R76). -/
def Raster.nextLine (r : Raster) (t : Nat) : Nat := r.lineAt t + 1

/-- The earlier of a line already marked and a new one. -/
def earlierLine (old : Option Nat) (new : Nat) : Option Nat :=
  match old with
  | none => some new
  | some n => some (min n new)

/-- The rest of the image is code 0 from the next line on (R76). -/
def Raster.blacken (t : Nat) (r : Raster) : Raster := { r with blackFrom := earlierLine r.blackFrom (r.nextLine t) }

/-- The rest of the image uses the active blend bank alone from the next line on (R77). -/
def Raster.unmix (t : Nat) (r : Raster) : Raster :=
  match r.snapshot.fade with
  | none => r
  | some _ => { r with unmixedFrom := earlierLine r.unmixedFrom (r.nextLine t) }

/-- Blackens the images in progress of both outputs (R76). -/
def blackenAll (s : State) : State :=
  { s with pipelines := s.pipelines.map fun p => { p with raster := p.raster.map (Raster.blacken s.now) } }

/-- The shadow of a BLEND pair is opened or emptied while the image in progress still mixes from it, as can happen
after SOFT_RESET (R77). -/
def stopMixing (o : Out) (k : Kind) (s : State) : State :=
  match k with
  | .warp => s
  | .blend =>
    let p := s.pipelines.get o
    { s with pipelines := s.pipelines.set o { p with raster := p.raster.map (Raster.unmix s.now) } }

/-! ### Work at a period start -/

/-- The frame in a COMPLETE slot. -/
def Slot.frame : Slot → Option Frame
  | .complete f _ => some f
  | .free | .filling _ => none

/-- The snapshot of an output: every value as its owner has set it at this start (R75). -/
def snapshotOf (o : Out) (s : State) : Snapshot :=
  let c := s.controllers.get o
  let blend := s.pair o .blend
  { format := (s.pipelines.get o).format
    output := c.state
    slot := c.held
    frame := c.held.bind fun i => (s.slot i).frame
    ws := c.ws
    warp := (s.pair o .warp).activeBank.table
    blend := blend.activeBank.table
    fade := (s.fades.get o).map fun f => ⟨f, blend.shadow.table⟩
    gain := (s.ramps.get o).gain
    part := s.part.state
    service := s.part.service
    pattern := s.part.patterns.get o }

/-- A pending format comes into force (R74). -/
def Pipeline.applyFormat (p : Pipeline) : Pipeline :=
  match p.pendingFormat with
  | none => p
  | some f => { p with format := f, pendingFormat := none }

def applyFormats (s : State) : State := { s with pipelines := s.pipelines.map Pipeline.applyFormat }

/-- The raster that begins at this start (R72, R75). -/
def newRaster (o : Out) (s : State) : Raster := ⟨snapshotOf o s, s.now, s.clock.period, none, none⟩

/-- Each output port ends its raster and begins the raster of the new image (R72). -/
def beginRasters (s : State) : State :=
  { s with pipelines :=
      ⟨{ s.pipelines.out0 with raster := some (newRaster .out0 s) },
       { s.pipelines.out1 with raster := some (newRaster .out1 s) }⟩ }

/-! ### SET_OUTPUT -/

/-- SET_OUTPUT (R74). -/
def setOutputOwner (_ : Link) (p : Packet) (s : State) : Reply :=
  let width := (p.u16 0).toNat
  let height := (p.u16 2).toNat
  match outputEncodingOf (p.u8 4) with
  | none => .refuse .badParam []
  | some encoding =>
    if !(640 ≤ width && width ≤ 4096 && 480 ≤ height && height ≤ 2400) then .refuse .badParam []
    else if s.engine.lock.isSet then .refuse .locked []
    else if s.controllers.anyWhere p.outputs fun c => !c.isDark then .refuse .notDark []
    else
      .accept
        { s with pipelines := s.pipelines.mapWhere p.outputs fun q =>
            { q with pendingFormat := some ⟨width, height, encoding⟩ } } []

/-- SET_OUTPUT (R74, R156). -/
def execSetOutput (t : Nat) (s : State) : Host.Outcome State Fault Refusal :=
  .next (takeOwned (fun p => p.code == 0x38#8) (fun n => n == 5) true setOutputOwner t s)

end Sys2Proof.Machine
end

