-- ==== Sys2Proof/Machine/Tables.lean ====
section
/-!
DEFINITION. The Correction Table Memory: the four table commands, verification, the loss of a load and the resets of the
banks (chapter 1).
-/
namespace Sys2Proof.Machine

open Sys2Proof

/-! ### Addressing a pair -/

/-- The pair a table command addresses; none where R14 refuses it. -/
def tableTarget (p : Packet) : Option (Out × Kind) :=
  match p.oneOutput, kindOf (p.u8 0) with
  | some o, some k => some (o, k)
  | _, _ => none

/-- The bank empties: every field but its state becomes absent (R5). -/
def emptyShadow (o : Out) (k : Kind) (s : State) : State := s.setPair o k ((s.pair o k).setShadow .empty)

/-! ### TABLE_OPEN -/

/-- TABLE_OPEN (R14, R15). -/
def tableOpenOwner (l : Link) (p : Packet) (s : State) : Reply :=
  match tableTarget p with
  | none => .refuse .badParam []
  | some (o, k) =>
    let grid : Grid := ⟨(p.u8 1).toNat, (p.u8 2).toNat⟩
    let pair := s.pair o k
    if !gridInRange k grid then .refuse .badParam []
    else if pair.shadow.inLoad then .refuse .busy []
    else if pair.pin then .refuse .busy []
    else
      .accept (stopMixing o k (s.setPair o k (pair.setShadow (.loading ⟨grid, p.u32 3, p.u32 7, l, []⟩)))) []

/-- TABLE_OPEN (R15, R156). -/
def execTableOpen (t : Nat) (s : State) : Host.Outcome State Fault Refusal :=
  .next (takeOwned (fun p => p.code == 0x11#8) (fun n => n == 11) true tableOpenOwner t s)

/-! ### TABLE_DATA -/

/-- The received count as a result payload (R194). -/
def countPayload (n : Nat) : List Byte := beBytes 4 n

/-- TABLE_DATA (R14, R16). -/
def tableDataOwner (l : Link) (p : Packet) (s : State) : Reply :=
  match tableTarget p with
  | none => .refuse .badParam []
  | some (o, k) =>
    match (s.pair o k).shadow with
    | .loading ld =>
      let offset := (p.u32 1).toNat
      let data := p.payload.drop 5
      if ld.loader ≠ l then .refuse .notOwner []
      else if offset ≠ ld.bytes.length then .refuse .outOfOrder (countPayload ld.bytes.length)
      else if imageLength k ld.grid < offset + data.length then .refuse .badLength []
      else .accept (s.setPair o k ((s.pair o k).setShadow (.loading { ld with bytes := ld.bytes ++ data }))) []
    | .empty | .verifying _ _ _ | .ready _ => .refuse .notLoading []

/-- TABLE_DATA (R16, R156). -/
def execTableData (t : Nat) (s : State) : Host.Outcome State Fault Refusal :=
  .next (takeOwned (fun p => p.code == 0x12#8) (fun n => 6 ≤ n && n ≤ 240) true tableDataOwner t s)

/-! ### TABLE_CLOSE -/

/-- TABLE_CLOSE (R14, R17). -/
def tableCloseOwner (l : Link) (p : Packet) (s : State) : Reply :=
  match tableTarget p with
  | none => .refuse .badParam []
  | some (o, k) =>
    match (s.pair o k).shadow with
    | .loading ld =>
      if ld.loader ≠ l then .refuse .notOwner []
      else if ld.bytes.length < imageLength k ld.grid then .refuse .lengthMismatch (countPayload ld.bytes.length)
      else .defer (s.setPair o k ((s.pair o k).setShadow (.verifying ld p.tag 0)))
    | .empty | .verifying _ _ _ | .ready _ => .refuse .notLoading []

/-- TABLE_CLOSE (R17, R156). -/
def execTableClose (t : Nat) (s : State) : Host.Outcome State Fault Refusal :=
  .next (takeOwned (fun p => p.code == 0x13#8) (fun n => n == 1) true tableCloseOwner t s)

/-! ### TABLE_DISCARD -/

/-- TABLE_DISCARD (R14, R21). -/
def tableDiscardOwner (l : Link) (p : Packet) (s : State) : Reply :=
  match tableTarget p with
  | none => .refuse .badParam []
  | some (o, k) =>
    match (s.pair o k).shadow with
    | .empty => .accept s []
    | .loading ld => if ld.loader ≠ l then .refuse .notOwner [] else .accept (emptyShadow o k s) []
    | .verifying _ _ _ => .refuse .busy []
    | .ready _ =>
      if (s.pair o k).pin then .refuse .busy [] else .accept (stopMixing o k (emptyShadow o k s)) []

/-- TABLE_DISCARD (R21, R156). -/
def execTableDiscard (t : Nat) (s : State) : Host.Outcome State Fault Refusal :=
  .next (takeOwned (fun p => p.code == 0x14#8) (fun n => n == 1) true tableDiscardOwner t s)

/-! ### Verification (R18, R19, R160) -/

/-- The code of TABLE_CLOSE, carried by its deferred result. -/
def tableCloseCode : Byte := 0x13

/-- Verification end: the bank becomes READY or EMPTY by its CRC, and the deferred result takes its reserved place. A
pair whose shadow is not VERIFYING has no verification to end. -/
def endVerification (o : Out) (k : Kind) (s : State) : State :=
  match (s.pair o k).shadow with
  | .verifying ld tag _ =>
    let crc := crc32 ld.bytes
    let payload := beBytes 4 crc.toNat
    if crc = ld.expected then
      placeDeferred ld.loader ⟨tableCloseCode, .ok, tag, payload⟩
        (s.setPair o k ((s.pair o k).setShadow (.ready ⟨ld.grid, ld.label, crc, ld.bytes⟩)))
    else
      placeDeferred ld.loader ⟨tableCloseCode, .crcMismatch, tag, payload⟩ (emptyShadow o k s)
  | .empty | .loading _ | .ready _ => s

/-- VERIFICATION_END (R19). -/
def execVerificationEnd (t : Nat) (o : Out) (k : Kind) (s : State) : Host.Outcome State Fault Refusal :=
  .next (endVerification o k (s.advance t))

/-- A verification that has already seen one period start ends before the next one (R18); one that has seen none is
still running at this start, which it then counts. -/
def verificationAtStart (s : State) (ok : Out × Kind) : State :=
  match (s.pair ok.1 ok.2).shadow with
  | .verifying ld tag 0 =>
    s.setPair ok.1 ok.2 ((s.pair ok.1 ok.2).setShadow (.verifying ld tag 1))
  | .verifying _ _ (_ + 1) => endVerification ok.1 ok.2 s
  | .empty | .loading _ | .ready _ => s

/-- The verifications of the four pairs meet a period start (R18). Where several must end there, the manual gives no order
of their ends, and so none of their deferred results (R160): the model ends them in the order OUT-0 WARP, OUT-0 BLEND,
OUT-1 WARP, OUT-1 BLEND (DESIGN CHOICE, log entry 25). -/
def verificationsAtStart (s : State) : State := allPairs.foldl verificationAtStart s

/-! ### Loss of a load and resets -/

/-- The bank is LOADING with the link as loader. -/
def Bank.loadedBy (l : Link) : Bank → Bool
  | .loading ld => ld.loader == l
  | .empty | .verifying _ _ _ | .ready _ => false

def Bank.loseLoad (l : Link) (b : Bank) : Bank := if b.loadedBy l then .empty else b

def BankPair.loadedBy (l : Link) (p : BankPair) : Bool := p.bank0.loadedBy l || p.bank1.loadedBy l

/-- A link enters QUIET: its LOADING banks empty, and LOAD_LOST is raised once if any did (R22). -/
def loseLoads (l : Link) (s : State) : State :=
  let lost := allPairs.any fun ok => (s.pair ok.1 ok.2).loadedBy l
  State.raiseIf
    { s with pairs := s.pairs.map fun pk => pk.map fun p =>
        { p with bank0 := p.bank0.loseLoad l, bank1 := p.bank1.loseLoad l } }
    lost .loadLost

/-- LOADING and VERIFYING banks become EMPTY (R26). -/
def Bank.cutOff : Bank → Bank
  | .loading _ | .verifying _ _ _ => .empty
  | .empty => .empty
  | .ready t => .ready t

/-- The reset pin and SOFT_RESET: loads and verifications are abandoned, READY banks and active indexes kept, pins
released, LOAD_LOST not raised (R26, R27). -/
def resetTables (s : State) : State :=
  { s with pairs := s.pairs.map fun pk => pk.map fun p =>
      { p with bank0 := p.bank0.cutOff, bank1 := p.bank1.cutOff, pin := false } }

end Sys2Proof.Machine
end

