-- ==== Sys2Proof/Machine/Cues.lean ====
section
/-!
DEFINITION. The Cue Scheduler: swaps, blend fades, gain ramps, the cue list and the outcome queue (chapter 2).
-/
namespace Sys2Proof.Machine

open Sys2Proof

/-! ### Naming pairs (R29) -/

def Kinds.has (ks : Kinds) : Kind → Bool
  | .warp => ks.warp
  | .blend => ks.blend

/-- The pairs that a mask and kinds name, in the order of R45. -/
def namedPairs (m : Mask) (ks : Kinds) : List (Out × Kind) :=
  allPairs.filter fun ok => m.get ok.1 && ks.has ok.2

/-- The fade length of the record of one pair: a WARP record has none (R29). -/
def fadeFor (k : Kind) (fade : Nat) : Nat :=
  match k with
  | .warp => 0
  | .blend => fade

/-- A pending swap or a blend fade is in flight on the pair (R29). -/
def swapInFlight (s : State) (o : Out) (k : Kind) : Bool :=
  (s.pendingSwaps.at2 o k).isSome || (k == .blend && (s.fades.get o).isSome)

def setPin (o : Out) (k : Kind) (pin : Bool) (s : State) : State := s.setPair o k { s.pair o k with pin := pin }

def setFade (o : Out) (f : Option Fade) (s : State) : State := { s with fades := s.fades.set o f }

/-- The kinds and the fade length of a SWAP or a SWAP cue are refused BAD_PARAM (R29, R39). -/
def badSwapFields (ks : Option Kinds) (fade : Nat) : Bool :=
  match ks with
  | none => true
  | some ks => 250 < fade || (fade != 0 && ks.warp)

/-! ### SWAP -/

/-- One pending-swap record and its pin (R29). -/
def bookSwap (fade : Nat) (s : State) (ok : Out × Kind) : State :=
  setPin ok.1 ok.2 true
    { s with pendingSwaps := s.pendingSwaps.set2 ok.1 ok.2 (some (fadeFor ok.2 fade)) }

/-- SWAP (R29). -/
def swapOwner (_ : Link) (p : Packet) (s : State) : Reply :=
  let fade := (p.u8 1).toNat
  match kindsOf (p.u8 0) with
  | none => .refuse .badParam []
  | some ks =>
    let named := namedPairs p.outputs ks
    if badSwapFields (some ks) fade then .refuse .badParam []
    else if named.any fun ok => swapInFlight s ok.1 ok.2 then .refuse .busy []
    else if named.any fun ok => (s.pair ok.1 ok.2).shadow.table.isNone then .refuse .notReady []
    else .accept (named.foldl (bookSwap fade) s) []

/-- SWAP (R29, R156). -/
def execSwap (t : Nat) (s : State) : Host.Outcome State Fault Refusal :=
  .next (takeOwned (fun p => p.code == 0x21#8) (fun n => n == 2) true swapOwner t s)

/-! ### GAIN -/

/-- A new ramp from the current G; a length of 0 counts as 1 (R35). -/
def Ramp.begin (target : Word16) (length : Nat) (r : Ramp) : Ramp :=
  { r with target := target, remaining := max length 1 }

/-- GAIN (R35). -/
def gainOwner (_ : Link) (p : Packet) (s : State) : Reply :=
  let length := (p.u16 2).toNat
  if 1000 < length then .refuse .badParam []
  else .accept { s with ramps := s.ramps.mapWhere p.outputs (Ramp.begin (p.u16 0) length) } []

/-- GAIN (R35, R156). -/
def execGain (t : Nat) (s : State) : Host.Outcome State Fault Refusal :=
  .next (takeOwned (fun p => p.code == 0x22#8) (fun n => n == 4) true gainOwner t s)

/-- The quotient rounded to the nearest integer, halves away from zero (R36). -/
def roundDiv (n : Int) (r : Nat) : Int :=
  if 0 ≤ n then (2 * n + r) / (2 * r) else -((2 * (-n) + r) / (2 * r))

/-- One ramp step (R36). -/
def Ramp.step (r : Ramp) : Ramp :=
  if r.remaining = 0 then r
  else
    let move := roundDiv ((r.target.toNat : Int) - r.gain.toNat) r.remaining
    { r with gain := BitVec.ofInt 16 (r.gain.toNat + move), remaining := r.remaining - 1 }

/-! ### The cue list -/

/-- The action of a CUE_ADD, absent where R39 refuses it. -/
def cueActionOf (p : Packet) : Option CueAction :=
  let fade := (p.u8 7).toNat
  let ramp := (p.u16 10).toNat
  match (p.u8 5).toNat with
  | 1 =>
    match kindsOf (p.u8 6) with
    | none => none
    | some ks => if badSwapFields (some ks) fade then none else some (.swap ks fade)
  | 2 => if 1000 < ramp then none else some (.gain (p.u16 8) ramp)
  | _ => none

/-- Two masks share an output. -/
def masksMeet (m n : Mask) : Bool := (m.out0 && n.out0) || (m.out1 && n.out1)

/-- Two actions act on the same thing (R41). -/
def actionsMeet : CueAction → CueAction → Bool
  | .swap a _, .swap b _ => (a.warp && b.warp) || (a.blend && b.blend)
  | .gain _ _, .gain _ _ => true
  | .swap _ _, .gain _ _ | .gain _ _, .swap _ _ => false

/-- Two entries conflict (R41). -/
def Cue.conflicts (a b : Cue) : Bool :=
  a.target == b.target && masksMeet a.mask b.mask && actionsMeet a.action b.action

/-- Insertion before the first entry whose target is later (R40). -/
def insertCue (c : Cue) : List Cue → List Cue
  | [] => [c]
  | d :: rest => if laterThan d.target c.target then c :: d :: rest else d :: insertCue c rest

/-- T is at or before a defined D (R40). -/
def isPast (s : State) (t : Period) : Bool :=
  match s.dome with
  | none => false
  | some d => atOrBefore t d

/-- CUE_ADD (R39, R40). -/
def cueAddOwner (l : Link) (p : Packet) (s : State) : Reply :=
  let id := p.u8 0
  let target := p.u32 1
  match cueActionOf p with
  | none => .refuse .badParam []
  | some action =>
    let c : Cue := ⟨id, target, p.outputs, action, l⟩
    if id == 0 then .refuse .badParam []
    else if cuePlaces ≤ s.cues.length then .refuse .listFull []
    else if s.cues.any fun d => d.id == id then .refuse .duplicateId []
    else if isPast s target then .refuse .past []
    else if s.cues.any fun d => c.conflicts d then .refuse .conflict []
    else .accept { s with cues := insertCue c s.cues } []

/-- CUE_ADD (R39, R40, R156). -/
def execCueAdd (t : Nat) (s : State) : Host.Outcome State Fault Refusal :=
  .next (takeOwned (fun p => p.code == 0x23#8) (fun n => n == 12) true cueAddOwner t s)

/-- CUE_CANCEL (R42). -/
def cueCancelOwner (_ : Link) (p : Packet) (s : State) : Reply :=
  if s.cues.any fun c => c.id == p.u8 0 then
    .accept { s with cues := s.cues.filter fun c => c.id != p.u8 0 } []
  else .refuse .noCue []

/-- CUE_CANCEL (R42, R156). -/
def execCueCancel (t : Nat) (s : State) : Host.Outcome State Fault Refusal :=
  .next (takeOwned (fun p => p.code == 0x24#8) (fun n => n == 1) false cueCancelOwner t s)

/-- CUE_FLUSH (R43). -/
def cueFlushOwner (_ : Link) (_ : Packet) (s : State) : Reply := .accept { s with cues := [] } []

/-- CUE_FLUSH (R43, R156). -/
def execCueFlush (t : Nat) (s : State) : Host.Outcome State Fault Refusal :=
  .next (takeOwned (fun p => p.code == 0x25#8) (fun n => n == 0) false cueFlushOwner t s)

/-! ### The outcome queue -/

/-- The applied mask byte (R196). -/
def appliedByte (m : PerOut (PerKind Bool)) : Byte :=
  BitVec.ofBoolListLE [m.out0.warp, m.out0.blend, m.out1.warp, m.out1.blend, false, false, false, false]

/-- An outcome record, 12 bytes (R196). -/
def CueRecord.bytes (r : CueRecord) : List Byte :=
  [r.id] ++ beBytes 4 r.target.toNat ++ beBytes 4 r.fired.toNat ++ [linkCode r.origin, appliedByte r.applied, r.result.code]

/-- REPORT (R50). -/
def reportOwner (_ : Link) (_ : Packet) (s : State) : Reply :=
  let taken := s.outcomes.take 8
  .accept { s with outcomes := s.outcomes.drop 8 }
    (BitVec.ofNat 8 taken.length :: taken.flatMap CueRecord.bytes)

/-- REPORT (R50, R156). -/
def execReport (t : Nat) (s : State) : Host.Outcome State Fault Refusal :=
  .next (takeOwned (fun p => p.code == 0x26#8) (fun n => n == 0) false reportOwner t s)

/-- Appending an outcome: the oldest of 16 is pushed out, and the events are raised (R49). -/
def appendOutcome (r : CueRecord) (s : State) : State :=
  let full := outcomePlaces ≤ s.outcomes.length
  let kept := if full then s.outcomes.drop 1 else s.outcomes
  (({ s with outcomes := kept ++ [r] }.raiseIf full .reportLost).raise .cueOutcome).raiseIf (r.result != CueResult.done) .cueFault

/-! ### Step 1: blend fades (R33) -/

def stepFade (o : Out) (s : State) : State :=
  match s.fades.get o with
  | none => s
  | some f =>
    if f.step < f.length then setFade o (some { f with step := f.step + 1 }) s
    else setPin o .blend false (setFade o none s)

/-! ### Step 2: pending swaps (R30) -/

/-- After an exchange: a blend fade starts and pins the shadow, or no pin is set (R30, R45). -/
def afterExchange (o : Out) (k : Kind) (fade : Nat) (s : State) : State :=
  match k, fade with
  | .blend, n + 1 => setPin o .blend true (setFade o (some ⟨n + 1, 1⟩) s)
  | .blend, 0 => setPin o .blend false s
  | .warp, _ => setPin o .warp false s

/-- A pending-swap record is carried out and removed. Its shadow is READY; were it not, R8 makes no exchange and the pin
is released. -/
def carryOutSwap (s : State) (ok : Out × Kind) : State :=
  match s.pendingSwaps.at2 ok.1 ok.2 with
  | none => s
  | some fade =>
    let s1 := { s with pendingSwaps := s.pendingSwaps.set2 ok.1 ok.2 none }
    match (s1.pair ok.1 ok.2).exchange with
    | some pair => afterExchange ok.1 ok.2 fade (s1.setPair ok.1 ok.2 pair)
    | none => setPin ok.1 ok.2 false s1

/-! ### Step 3: cues (R44 to R48) -/

/-- A blend fade in flight on the pair ends at once and its pin is released (R45 step 1). -/
def endFade (o : Out) (k : Kind) (s : State) : State :=
  match k with
  | .warp => s
  | .blend =>
    match s.fades.get o with
    | none => s
    | some _ => setPin o .blend false (setFade o none s)

/-- A SWAP cue on one named pair: the pair's part is marked applied if the exchange was made (R45). -/
def fireSwapPart (fade : Nat) (acc : State × PerOut (PerKind Bool)) (ok : Out × Kind) : State × PerOut (PerKind Bool) :=
  let s1 := endFade ok.1 ok.2 acc.1
  match (s1.pair ok.1 ok.2).exchange with
  | none => (s1, acc.2)
  | some pair => (afterExchange ok.1 ok.2 fade (s1.setPair ok.1 ok.2 pair), acc.2.set2 ok.1 ok.2 true)

def noneApplied : PerOut (PerKind Bool) := ⟨⟨false, false⟩, ⟨false, false⟩⟩

/-- The effect of a fired cue, with its applied mask (R45, R46, R47). -/
def fireAction (c : Cue) (s : State) : State × PerOut (PerKind Bool) :=
  match c.action with
  | .swap ks fade => (namedPairs c.mask ks).foldl (fireSwapPart fade) (s, noneApplied)
  | .gain target ramp =>
    ({ s with ramps := s.ramps.mapWhere c.mask (Ramp.begin target ramp) },
     ⟨⟨false, c.mask.out0⟩, ⟨false, c.mask.out1⟩⟩)

/-- The pairs whose indications a cue can set: a GAIN cue uses the BLEND indications of its outputs (R47). -/
def partsOf (c : Cue) : List (Out × Kind) :=
  match c.action with
  | .swap ks _ => namedPairs c.mask ks
  | .gain _ _ => namedPairs c.mask ⟨false, true⟩

/-- The result of a fired cue (R47). -/
def cueResult (c : Cue) (fired : Period) (applied : PerOut (PerKind Bool)) : CueResult :=
  let parts := partsOf c
  if parts.all fun ok => applied.at2 ok.1 ok.2 then
    if fired == c.target then .done else .late
  else if parts.any fun ok => applied.at2 ok.1 ok.2 then .partly
  else .notReady

/-- One cue fires at the start that gives `d`, and its outcome is appended (R44). -/
def fireCue (d : Period) (s : State) (c : Cue) : State :=
  let (s1, applied) := fireAction c s
  appendOutcome ⟨c.id, c.target, d, c.origin, applied, cueResult c d applied⟩ s1

/-- Step 3: every entry at or before the new D fires in list order and leaves the list (R44). -/
def fireCues (d : Period) (s : State) : State :=
  (s.cues.filter fun c => atOrBefore c.target d).foldl (fireCue d)
    { s with cues := s.cues.filter fun c => !atOrBefore c.target d }

/-! ### The four steps (R28) -/

/-- The Cue Scheduler's work at a period start; none at a start that gives no D. -/
def schedulerWork (s : State) : State :=
  match s.dome with
  | none => s
  | some d =>
    let s1 := stepFade .out1 (stepFade .out0 s)
    let s2 := allPairs.foldl carryOutSwap s1
    let s3 := fireCues d s2
    { s3 with ramps := s3.ramps.map Ramp.step }

/-! ### Resets -/

/-- Power-on reset and the reset pin (R53). -/
def resetScheduler (s : State) : State :=
  { s with
    cues := []
    outcomes := []
    pendingSwaps := ⟨⟨none, none⟩, ⟨none, none⟩⟩
    fades := ⟨none, none⟩
    ramps := ⟨Ramp.reset, Ramp.reset⟩ }

/-- A ramp in flight ends at its target (R54). -/
def Ramp.finish (r : Ramp) : Ramp :=
  if r.remaining = 0 then r else { r with gain := r.target, remaining := 0 }

/-- SOFT_RESET on the Cue Scheduler (R54); the pins are released with the banks (R27). -/
def softResetScheduler (s : State) : State :=
  { s with
    cues := []
    outcomes := []
    pendingSwaps := ⟨⟨none, none⟩, ⟨none, none⟩⟩
    fades := ⟨none, none⟩
    ramps := s.ramps.map Ramp.finish }

end Sys2Proof.Machine
end

