-- ==== Sys2Proof/Machine/FrameStore.lean ====
section
/-!
DEFINITION. The Frame Store: admission, filling, completion, viewers, release and drops (chapter 5).
-/
namespace Sys2Proof.Machine

open Sys2Proof

def State.setLinkStore (s : State) (l : Link) (x : LinkStore) : State := { s with store := s.store.set l x }

/-! ### Drops (R93) -/

/-- A frame of the link is dropped: the cause is recorded and FRAME_DROP raised. -/
def dropFrame (l : Link) (cause : DropCause) (s : State) : State :=
  (s.setLinkStore l { s.store.get l with lastDrop := cause }).raise (.frameDrop l)

/-- The position of the link's FILLING slot (R91). -/
def fillingIndex (s : State) (l : Link) : Option SlotIndex := (s.store.get l).slots.find Slot.isFilling

/-- The link's FILLING slot, if it has one, is freed and its frame dropped (R95, R100). -/
def dropFilling (l : Link) (cause : DropCause) (s : State) : State :=
  match fillingIndex s l with
  | none => s
  | some i => dropFrame l cause (s.setSlot ⟨l, i⟩ .free)

/-! ### Taking a frame (R92) -/

/-- A slot of the link that is not FREE holds this target. -/
def holdsTarget (q : Quad Slot) (t : Period) : Bool := (q.find fun x => x.target == some t).isSome

/-- The first test of R92 that a header fails. -/
def admissionFailure (l : Link) (h : Header) (s : State) : Option DropCause :=
  match s.dome with
  | none => some .noClock
  | some d =>
    let slots := (s.store.get l).slots
    if s.part.state.inStandby then some .standby
    else if atOrBefore h.target d then some .stale
    else if laterThan h.target (d + 16) then some .early
    else if holdsTarget slots h.target then some .duplicate
    else if (slots.find Slot.isFree).isNone then some .storeFull
    else none

/-- A header is offered: the frame goes into the lowest-numbered FREE slot of its link, or is dropped (R92). -/
def offerFrame (l : Link) (h : Header) (s : State) : State :=
  match admissionFailure l h s with
  | some cause => dropFrame l cause s
  | none =>
    match (s.store.get l).slots.find Slot.isFree with
    | none => s
    | some i => s.setSlot ⟨l, i⟩ (.filling ⟨h.target, h.width, h.height, h.encoding, []⟩)

/-! ### Filling and completion (R94, R96) -/

/-- A lead enters the history; the oldest of 64 leaves (R96). -/
def addLead (n : Nat) (leads : List Nat) : List Nat := (n :: leads).take leadPlaces

/-- The smallest lead, 0 while the history is empty (R96). -/
def smallestLead : List Nat → Nat
  | [] => 0
  | n :: rest => rest.foldl min n

/-- The last line of a frame has been stored: the slot becomes COMPLETE, or the frame is dropped LATE (R94). -/
def completeFrame (l : Link) (i : SlotIndex) (f : Frame) (s : State) : State :=
  match s.dome with
  | none => dropFrame l .late (s.setSlot ⟨l, i⟩ .free)
  | some d =>
    if laterThan f.target d then
      let s1 := s.setSlot ⟨l, i⟩ (.complete f ⟨false, false⟩)
      let st := s1.store.get l
      s1.setLinkStore l { st with leads := addLead (f.target - d).toNat st.leads }
    else dropFrame l .late (s.setSlot ⟨l, i⟩ .free)

/-- A line of the link's FILLING frame is stored; without a FILLING slot it is discarded (R94). -/
def storeLine (l : Link) (line : List Pixel) (s : State) : State :=
  match fillingIndex s l with
  | none => s
  | some i =>
    match s.slot ⟨l, i⟩ with
    | .filling f =>
      let f1 := { f with lines := f.lines ++ [line] }
      if f1.lines.length < f1.height then s.setSlot ⟨l, i⟩ (.filling f1) else completeFrame l i f1 s
    | .free | .complete _ _ => s

/-! ### The frame for D (R97) -/

/-- The slot is COMPLETE with this target. -/
def Slot.isFrameFor (d : Period) : Slot → Bool
  | .complete f _ => f.target == d
  | .free | .filling _ => false

/-- The frame for D on a link; none at a start that gives no D (R97). -/
def frameForD (s : State) (l : Link) : Option SlotId :=
  match s.dome with
  | none => none
  | some d => ((s.store.get l).slots.find (Slot.isFrameFor d)).map fun i => ⟨l, i⟩

/-! ### Release (R99 to R101) -/

/-- The release test: T is before D or later than D + 16 (R99). -/
def releasable (t d : Period) : Bool := before t d || laterThan t (d + 16)

/-- An unviewed COMPLETE slot that meets the release test becomes FREE (R99). -/
def Slot.release (d : Option Period) : Slot → Slot
  | .complete f v =>
    match d with
    | some d => if noViewers v && releasable f.target d then .free else .complete f v
    | none => .complete f v
  | .free => .free
  | .filling f => .filling f

/-- The FILLING slot of a link meets a start that gives D (R100). After a jump of about 2^31 a target can be both before
D and later than D + 16 by R1, and R100 then gives both causes: the test for LATE comes first (DESIGN CHOICE, log entry
33). -/
def testFilling (l : Link) (s : State) : State :=
  match s.dome, fillingIndex s l with
  | some d, some i =>
    match (s.slot ⟨l, i⟩).target with
    | some t =>
      if before t d then dropFilling l .late s
      else if laterThan t (d + 16) then dropFilling l .early s
      else s
    | none => s
  | _, _ => s

/-- The Frame Store's work at a period start; none at a start that gives no D (R99, R100). -/
def releaseWork (s : State) : State :=
  let s1 := { s with store := s.store.map fun st => { st with slots := st.slots.map (Slot.release s.dome) } }
  testFilling .b (testFilling .a s1)

/-! ### Viewers (R98, R101, R139) -/

/-- An output enters a slot's viewer set. -/
def Slot.join (o : Out) : Slot → Slot
  | .complete f v => .complete f (v.set o true)
  | .free => .free
  | .filling f => .filling f

/-- An output leaves a slot's viewer set; when the last viewer leaves, the slot is tested at once (R101). -/
def Slot.leave (o : Out) (d : Option Period) : Slot → Slot
  | .complete f v => Slot.release d (.complete f (v.set o false))
  | .free => .free
  | .filling f => .filling f

/-- An output's held slot changes from `old` to `new` (R139). -/
def moveViewer (o : Out) (old new : Option SlotId) (s : State) : State :=
  if old = new then s
  else
    let s1 := match old with
      | none => s
      | some i => s.setSlot i ((s.slot i).leave o s.dome)
    match new with
    | none => s1
    | some i => s1.setSlot i ((s1.slot i).join o)

/-! ### Standby and resets -/

/-- Every slot of the link is FREE. -/
def LinkStore.freeAll (st : LinkStore) : LinkStore := { st with slots := st.slots.map fun _ => .free }

/-- Standby entry: every slot is freed, and a FILLING one is dropped with cause STANDBY (R102). -/
def freeStoreForStandby (s : State) : State :=
  let s1 := dropFilling .b .standby (dropFilling .a .standby s)
  { s1 with store := s1.store.map LinkStore.freeAll }

/-- Power-on reset and the reset pin (R103). -/
def resetStore (s : State) : State := { s with store := ⟨LinkStore.reset, LinkStore.reset⟩ }

end Sys2Proof.Machine
end

