-- ==== Sys2Proof/Machine/Outputs.lean ====
section
/-!
DEFINITION. The Output Source Controllers, the douser lines and the configuration lock (chapter 7).
-/
namespace Sys2Proof.Machine

open Sys2Proof

/-! ### Route records (R127, R128) -/

/-- The route link of a role (R129). -/
def Route.link (r : Route) : Role → Option Link
  | .primary => r.primary
  | .backup => r.backup

def Role.other : Role → Role
  | .primary => .backup
  | .backup => .primary

/-- The record a ROUTE carries, absent where R128 refuses it BAD_PARAM. -/
def routeOf (p : Packet) : Option Route :=
  match routeLinkOf (p.u8 0), routeLinkOf (p.u8 1), revertOf (p.u8 2) with
  | some primary, some backup, some revert =>
    let settle := (p.u8 3).toNat
    let threshold := (p.u8 4).toNat
    let holdover := (p.u8 5).toNat
    let fadeIn := (p.u8 6).toNat
    let fadeOut := (p.u8 7).toNat
    let delay := (p.u16 8).toNat
    let openTime := (p.u16 10).toNat
    if settle ≤ 60 && 1 ≤ threshold && threshold ≤ 8 && 2 ≤ holdover && holdover ≤ 250 && fadeIn ≤ 250
        && fadeOut ≤ 250 && delay ≤ 60000 && openTime ≤ 5000
        && !(backup.isSome && backup == primary) && !(primary.isNone && backup.isSome) && threshold ≤ holdover then
      some ⟨primary, backup, revert, settle, threshold, holdover, fadeIn, fadeOut, delay, openTime⟩
    else none
  | _, _, _ => none

/-- The NOT_DARK test of ROUTE for one output (R128). -/
def routeNeedsDark (r : Route) (c : Controller) : Bool :=
  !c.isDark && (r.primary != c.route.primary || (c.role == some .backup && r.backup != c.route.backup))

/-- ROUTE (R128). -/
def routeOwner (_ : Link) (p : Packet) (s : State) : Reply :=
  match routeOf p with
  | none => .refuse .badParam []
  | some r =>
    if s.engine.lock.isSet then .refuse .locked []
    else if s.controllers.anyWhere p.outputs (routeNeedsDark r) then .refuse .notDark []
    else
      .accept { s with controllers := s.controllers.mapWhere p.outputs fun c => { c with pendingRoute := some r } } []

/-- ROUTE (R128, R156). -/
def execRoute (t : Nat) (s : State) : Host.Outcome State Fault Refusal :=
  .next (takeOwned (fun p => p.code == 0x31#8) (fun n => n == 12) true routeOwner t s)

/-! ### SELECT (R141) -/

/-- The link that the route in force names for a role is LOCKED. -/
def routeLocked (s : State) (role : Role) (c : Controller) : Bool :=
  match c.route.link role with
  | none => false
  | some l => (s.ports.get l).state.isLocked

/-- SELECT (R141). -/
def selectOwner (_ : Link) (p : Packet) (s : State) : Reply :=
  match roleOf (p.u8 0) with
  | none => .refuse .badParam []
  | some role =>
    if s.controllers.anyWhere p.outputs fun c => !c.state.showing then .refuse .wrongState []
    else if s.controllers.anyWhere p.outputs fun c => (c.route.link role).isNone then .refuse .badParam []
    else if s.controllers.anyWhere p.outputs fun c => !routeLocked s role c then .refuse .notReady []
    else
      .accept
        { s with controllers := s.controllers.mapWhere p.outputs fun c => { c with pendingSelect := some role } } []

/-- SELECT (R141, R156). -/
def execSelect (t : Nat) (s : State) : Host.Outcome State Fault Refusal :=
  .next (takeOwned (fun p => p.code == 0x32#8) (fun n => n == 1) true selectOwner t s)

/-! ### The configuration lock (R146) -/

def State.setLock (s : State) (m : Lock) : State := { s with engine := { s.engine with lock := m } }

/-- A route or an output format is pending on either output (R146). -/
def somethingPending (s : State) : Bool :=
  s.controllers.out0.pendingRoute.isSome || s.controllers.out1.pendingRoute.isSome
    || s.pipelines.out0.pendingFormat.isSome || s.pipelines.out1.pendingFormat.isSome

/-- CONFIG_LOCK (R146). -/
def configLockOwner (_ : Link) (p : Packet) (s : State) : Reply :=
  match lockOf (p.u8 0) with
  | none => .refuse .badParam []
  | some mode =>
    match s.engine.lock, mode with
    | .none, _ => if somethingPending s then .refuse .busy [] else .accept (s.setLock mode) []
    | .normal, _ => .accept (s.setLock mode) []
    | .oneWay, .oneWay => .accept s []
    | .oneWay, _ => .refuse .locked []

/-- CONFIG_LOCK (R146, R156). -/
def execConfigLock (t : Nat) (s : State) : Host.Outcome State Fault Refusal :=
  .next (takeOwned (fun p => p.code == 0x33#8) (fun n => n == 1) false configLockOwner t s)

/-- CONFIG_UNLOCK (R146). -/
def configUnlockOwner (_ : Link) (_ : Packet) (s : State) : Reply :=
  match s.engine.lock with
  | .oneWay => .refuse .locked []
  | .normal | .none => .accept (s.setLock .none) []

/-- CONFIG_UNLOCK (R146, R156). -/
def execConfigUnlock (t : Nat) (s : State) : Host.Outcome State Fault Refusal :=
  .next (takeOwned (fun p => p.code == 0x34#8) (fun n => n == 0) false configUnlockOwner t s)

/-! ### Source weight (R129) -/

/-- One fade-in step of ws. -/
def weightUp (r : Route) (ws : Rat) : Rat := if r.fadeIn = 0 then 1 else min 1 (ws + 1 / (r.fadeIn : Rat))

/-- One fade-out step of ws. -/
def weightDown (r : Route) (ws : Rat) : Rat := if r.fadeOut = 0 then 0 else max 0 (ws - 1 / (r.fadeOut : Rat))

/-! ### The rule of the output state -/

/-- What a controller reads at a period start that gives D: the frame for D on each link, the settle test of the
primary, whether a pattern is on the output, and whether a pending select came into force. -/
structure StartView where
  now : Nat
  frames : PerLink (Option SlotId)
  settled : Bool
  patternOn : Bool
  selected : Bool
deriving DecidableEq, Repr

/-- The frame for D on a route link, none on NONE. -/
def StartView.frameOn (v : StartView) : Option Link → Option SlotId
  | none => none
  | some l => v.frames.get l

/-- The candidate of an output: the primary link first, then the backup (R129). -/
def StartView.candidate (v : StartView) (r : Route) : Option (Role × SlotId) :=
  match v.frameOn r.primary with
  | some i => some (.primary, i)
  | none =>
    match v.frameOn r.backup with
    | some i => some (.backup, i)
    | none => none

/-- The role's frame for D is shown and becomes the held slot; the starved count is 0. -/
def Controller.showFrame (c : Controller) (role : Role) (i : SlotId) : Controller :=
  { c with role := some role, held := some i, starved := 0 }

/-- The douser timer starts with the douser delay; a delay of 0 asserts the request at once, at an entry into DARK by R142,
at the end of a pattern by the model's choice (log entry 30). -/
def Controller.startDouserTimer (now : Nat) (c : Controller) : Controller :=
  if c.route.douserDelay = 0 then { c with douser := true, douserTimer := none }
  else { c with douserTimer := some (now + millis c.route.douserDelay) }

/-- Entry into DARK at a period start (R142, R144). -/
def Controller.enterDark (v : StartView) (c : Controller) : Controller :=
  let c1 := { c with state := .dark, role := none, held := none, ws := 0, starved := 0, douser := false,
                     douserTimer := none, openTimer := .stopped }
  if v.patternOn then c1 else c1.startDouserTimer v.now

/-- The output begins to show the candidate from black, its request released (R131, R132). -/
def Controller.beginShowing (c : Controller) (role : Role) (i : SlotId) : Controller :=
  let c1 := { c.showFrame role i with douserTimer := none, openTimer := .stopped }
  if c.route.fadeIn ≤ 1 then { c1 with ws := 1, state := .live }
  else { c1 with ws := 1 / (c.route.fadeIn : Rat), state := .fadingIn }

/-- ws has risen: LIVE when it is 1, FADING_IN otherwise (R136, R137). -/
def Controller.fadeUp (c : Controller) : Controller :=
  let ws := weightUp c.route c.ws
  { c with ws := ws, state := if ws = 1 then .live else .fadingIn }

/-- ws falls: DARK when it is 0, FADING_OUT otherwise (R134, R137). -/
def Controller.fadeDown (v : StartView) (c : Controller) : Controller :=
  let ws := weightDown c.route c.ws
  if ws = 0 then c.enterDark v else { c with ws := ws, state := .fadingOut }

/-- DARK (R131). -/
def Controller.darkRule (v : StartView) (c : Controller) : Controller :=
  match v.candidate c.route with
  | none => c
  | some (role, i) =>
    if c.douser then
      { c with state := .opening, douser := false,
               openTimer := if c.route.douserOpen = 0 then .expired else .running (v.now + millis c.route.douserOpen) }
    else c.beginShowing role i

/-- OPENING (R132). -/
def Controller.openingRule (v : StartView) (c : Controller) : Controller :=
  match c.openTimer with
  | .expired =>
    match v.candidate c.route with
    | none => c.enterDark v
    | some (role, i) => c.beginShowing role i
  | .running _ | .stopped => c

/-- How a starved step ends (R134). -/
inductive StarvedEnd where
  | failedOver (c : Controller)
  | limit (c : Controller)
  | hold (c : Controller)

/-- The starved step (R134) of an output whose role is `role`. -/
def Controller.starve (v : StartView) (role : Role) (c : Controller) : StarvedEnd :=
  let c1 := { c with starved := c.starved + 1 }
  let other := role.other
  match v.frameOn (c.route.link other) with
  | some i =>
    if c.route.threshold ≤ c1.starved then .failedOver (c1.showFrame other i)
    else if c.route.holdover ≤ c1.starved then .limit (c1.fadeDown v)
    else .hold c1
  | none => if c.route.holdover ≤ c1.starved then .limit (c1.fadeDown v) else .hold c1

/-- The event STARVED is raised when the starved count rises from 0 to 1 (R134). -/
def Controller.starts (c : Controller) : Bool := c.starved == 0

/-- The automatic revert of an output LIVE on its backup (R133). -/
def Controller.revertFrame (v : StartView) (role : Role) (c : Controller) : Option SlotId :=
  if !v.selected && role == .backup && c.route.revert == .auto && v.settled then v.frameOn c.route.primary else none

/-- LIVE (R133). The Bool says whether STARVED is raised. Where a select has come into force onto a link without a frame,
the failover threshold is 1 and the other link has a frame, R141 says HOLDING with a starved count of 1, and the starved
step fails the output over, so that it stays LIVE with 0: the model follows R133 and R134 (DESIGN CHOICE, log entry 31). -/
def Controller.liveRule (v : StartView) (role : Role) (c : Controller) : Controller × Bool :=
  match c.revertFrame v role with
  | some i => (c.showFrame .primary i, false)
  | none =>
    match v.frameOn (c.route.link role) with
    | some i => (c.showFrame role i, false)
    | none =>
      match c.starve v role with
      | .failedOver c1 => (c1, c.starts)
      | .limit c1 => (c1, c.starts)
      | .hold c1 => ({ c1 with state := .holding }, c.starts)

/-- HOLDING (R135). -/
def Controller.holdingRule (v : StartView) (role : Role) (c : Controller) : Controller × Bool :=
  match v.frameOn (c.route.link role) with
  | some i => ({ c.showFrame role i with state := .live }, false)
  | none =>
    match c.starve v role with
    | .failedOver c1 => ({ c1 with state := .live }, c.starts)
    | .limit c1 => (c1, c.starts)
    | .hold c1 => (c1, c.starts)

/-- FADING_IN (R136). -/
def Controller.fadingInRule (v : StartView) (role : Role) (c : Controller) : Controller × Bool :=
  match v.frameOn (c.route.link role) with
  | some i => ((c.showFrame role i).fadeUp, false)
  | none =>
    match c.starve v role with
    | .failedOver c1 => (c1.fadeUp, c.starts)
    | .limit c1 => (c1, c.starts)
    | .hold c1 =>
      let c2 := c1.fadeUp
      ({ c2 with state := if c2.ws = 1 then .holding else .fadingIn }, c.starts)

/-- FADING_OUT (R137). -/
def Controller.fadingOutRule (v : StartView) (c : Controller) : Controller :=
  match v.candidate c.route with
  | some (role, i) => (c.showFrame role i).fadeUp
  | none => c.fadeDown v

/-- The rule of the output's state at a start that gives D (R130 step 3). A showing output always has a role. -/
def Controller.stateRule (v : StartView) (c : Controller) : Controller × Bool :=
  match c.state, c.role with
  | .dark, _ => (c.darkRule v, false)
  | .opening, _ => (c.openingRule v, false)
  | .live, some role => c.liveRule v role
  | .holding, some role => c.holdingRule v role
  | .fadingIn, some role => c.fadingInRule v role
  | .fadingOut, _ => (c.fadingOutRule v, false)
  | _, none => (c, false)

/-! ### Work at a period start (R130) -/

/-- Step 1: a pending route comes into force (R128). -/
def Controller.applyRoute (c : Controller) : Controller :=
  match c.pendingRoute with
  | none => c
  | some r => { c with route := r, pendingRoute := none }

/-- Step 2: a pending select comes into force, or is dropped (R130, R141). The Bool says whether it came into force. -/
def Controller.applySelect (c : Controller) : Controller × Bool :=
  match c.pendingSelect with
  | none => (c, false)
  | some role =>
    if c.state.showing && (c.route.link role).isSome then
      ({ c with pendingSelect := none, role := some role }, true)
    else ({ c with pendingSelect := none }, false)

/-- The settle test of the primary link (R140). -/
def settleTest (s : State) (r : Route) : Bool :=
  match r.primary with
  | none => false
  | some l =>
    match (s.ports.get l).state with
    | .locked _ since => seconds r.settle ≤ s.now - since
    | .off | .seeking _ | .aligned _ _ | .holdover _ _ | .quiet _ => false

/-- What the controller of an output reads at this start. -/
def startView (o : Out) (selected : Bool) (r : Route) (s : State) : StartView where
  now := s.now
  frames := ⟨frameForD s .a, frameForD s .b⟩
  settled := settleTest s r
  patternOn := (s.part.patterns.get o).isSome
  selected := selected

/-- The controller of an output at a start, with whether it raises STARVED. Step 3 is not taken in STANDBY and WAKING,
and a start that gives no D leaves the output as it is (R130, R138). -/
def controllerAtStart (o : Out) (s : State) : Controller × Bool :=
  let (c, selected) := (s.controllers.get o).applyRoute.applySelect
  if s.part.state.inStandby || s.dome.isNone then (c, false)
  else c.stateRule (startView o selected c.route s)

/-- The work of one controller at a period start (R130, R139). -/
def controllerWork (o : Out) (s : State) : State :=
  let (c, starved) := controllerAtStart o s
  moveViewer o (s.controllers.get o).held c.held ((s.setController o c).raiseIf starved .starved)

/-! ### Douser lines and timers -/

/-- The line DOUSE-n: true when asserted (R143). -/
def douserLine (s : State) (o : Out) : Bool :=
  if s.part.state.inStandby then true
  else
    match s.part.service with
    | .dark _ => true
    | .grid _ => false
    | .none => (s.controllers.get o).douser

/-- DOUSER_TIMER_EXPIRY (R142): the request is asserted. A stopped timer does not expire. -/
def execDouserTimerExpiry (o : Out) (s : State) : Host.Outcome State Fault Refusal :=
  let c := s.controllers.get o
  match c.douserTimer with
  | none => .next s
  | some e => .next ((s.advance e).setController o { c with douser := true, douserTimer := none })

/-- OPEN_TIMER_EXPIRY (R132): the next period start then tests for a candidate. -/
def execOpenTimerExpiry (o : Out) (s : State) : Host.Outcome State Fault Refusal :=
  let c := s.controllers.get o
  match c.openTimer with
  | .running e => .next ((s.advance e).setController o { c with openTimer := .expired })
  | .stopped | .expired => .next s

/-! ### Standby and resets -/

/-- The output is forced DARK with its request asserted (R148, R149). -/
def Controller.forceDark (c : Controller) : Controller :=
  { c with pendingSelect := none, state := .dark, role := none, starved := 0, ws := 0, held := none, douser := true,
           douserTimer := none, openTimer := .stopped }

/-- Standby entry forces both outputs DARK; their pending routes are kept (R148). -/
def forceDarkAll (s : State) : State := { s with controllers := s.controllers.map Controller.forceDark }

/-- The reset pin: DARK, the route record kept, the pending route dropped (R127, R149). -/
def Controller.pinReset (c : Controller) : Controller := { c.forceDark with pendingRoute := none }

end Sys2Proof.Machine
end

