-- ==== Sys2Proof/Machine/PartControl.lean ====
section
/-!
DEFINITION. Part State and Service Control: the part state, standby, the idle and waking timers, patterns and the
service override (chapter 10).
-/
namespace Sys2Proof.Machine

open Sys2Proof

def State.setPartState (s : State) (p : PartState) : State := { s with part := { s.part with state := p } }

/-! ### The idle timer (R182) -/

/-- The condition under which the idle timer runs (R182). -/
def idleCondition (s : State) : Bool :=
  s.part.state == .ready && s.ports.a.state.isIdle && s.ports.b.state.isIdle && s.part.standbyDelay != 0

/-- The idle timer after an event: it starts with the full delay when its condition comes to hold, runs on while it
holds, and stops when it does not (R182). -/
def idleTimerAfter (s : State) : Option Nat :=
  if idleCondition s then
    match s.part.idleTimer with
    | some e => some e
    | none => some (s.now + seconds s.part.standbyDelay)
  else none

/-- The idle timer follows the state that an event leaves (R182). -/
def keepIdleTimer (s : State) : State := { s with part := { s.part with idleTimer := idleTimerAfter s } }

/-- The standby delay is set: a running timer restarts with it, a stopped one starts if its condition holds (R182). -/
def setStandbyDelay (delay : Nat) (s : State) : State :=
  keepIdleTimer { s with part := { s.part with standbyDelay := delay, idleTimer := none } }

/-! ### Standby entry, waking and its end -/

/-- Standby entry (R180): patterns end, outputs are forced DARK, slots are freed, images go to code 0. The passage from
WAKING back into STANDBY does the same (R180, R181). -/
def standbyEntry (kind : StandbyKind) (s : State) : State :=
  blackenAll (freeStoreForStandby (forceDarkAll
    { s with part := { s.part with state := .standby kind, idleTimer := none, patterns := ⟨none, none⟩ } }))

/-- Entry into WAKING: the standby kind becomes absent and the waking timer starts (R183). -/
def enterWaking (s : State) : State := s.setPartState (.waking (s.now + wakingTime))

/-- A part in STANDBY, of either kind, enters WAKING (R183). -/
def wakeFromStandby (s : State) : State :=
  match s.part.state with
  | .standby _ => enterWaking s
  | .initializing | .ready | .waking _ => s

/-- A link enters LOCKED: a part in AUTOMATIC standby enters WAKING (R183). -/
def wakeOnLock (s : State) : State :=
  match s.part.state with
  | .standby .automatic => enterWaking s
  | .standby .commanded | .initializing | .ready | .waking _ => s

/-- IDLE_TIMER_EXPIRY (R182): AUTOMATIC standby. A stopped timer does not expire. -/
def execIdleTimerExpiry (s : State) : Host.Outcome State Fault Refusal :=
  match s.part.idleTimer with
  | none => .next s
  | some e => .next (latchEdges (s.advance e) (standbyEntry .automatic (s.advance e)))

/-- WAKING_TIMER_EXPIRY (R183): the part becomes READY. -/
def execWakingTimerExpiry (s : State) : Host.Outcome State Fault Refusal :=
  match s.part.state with
  | .waking e => .next (latchEdges (s.advance e) (keepIdleTimer ((s.advance e).setPartState .ready)))
  | .initializing | .ready | .standby _ => .next s

/-! ### STANDBY (R181) -/

/-- The action byte of a STANDBY packet of the right length. -/
def standbyAction (p : Packet) : Option Nat := if p.payload.length = 3 then some (p.u8 0).toNat else none

/-- A STANDBY packet that the row of `action` takes: one that names that action, or one that names none of the three
(log entry 9). -/
def namesStandby (action : Nat) (p : Packet) : Bool :=
  p.code == 0x53#8 &&
    match standbyAction p with
    | none => true
    | some a => a == action || !(1 ≤ a && a ≤ 3)

/-- ENTER (R181). -/
def standbyEnterOwner (_ : Link) (p : Packet) (s : State) : Reply :=
  if standbyAction p ≠ some 1 then .refuse .badParam []
  else
    match s.part.state with
    | .standby .automatic => .accept (s.setPartState (.standby .commanded)) []
    | .standby .commanded => .accept s []
    | .ready | .waking _ => .accept (standbyEntry .commanded s) []
    | .initializing => .accept s []

/-- EXIT (R181). -/
def standbyExitOwner (_ : Link) (p : Packet) (s : State) : Reply :=
  if standbyAction p ≠ some 2 then .refuse .badParam [] else .accept (wakeFromStandby s) []

/-- DELAY (R181, R182). -/
def standbyDelayOwner (_ : Link) (p : Packet) (s : State) : Reply :=
  let delay := (p.u16 1).toNat
  if standbyAction p ≠ some 3 then .refuse .badParam []
  else if 3600 < delay then .refuse .badParam []
  else .accept (setStandbyDelay delay s) []

/-- STANDBY_ENTER (R181, R156). -/
def execStandbyEnter (t : Nat) (s : State) : Host.Outcome State Fault Refusal :=
  .next (takeOwned (namesStandby 1) (fun n => n == 3) false standbyEnterOwner t s)

/-- STANDBY_EXIT (R181, R156). -/
def execStandbyExit (t : Nat) (s : State) : Host.Outcome State Fault Refusal :=
  .next (takeOwned (namesStandby 2) (fun n => n == 3) false standbyExitOwner t s)

/-- STANDBY_DELAY (R181, R156). -/
def execStandbyDelay (t : Nat) (s : State) : Host.Outcome State Fault Refusal :=
  .next (takeOwned (namesStandby 3) (fun n => n == 3) false standbyDelayOwner t s)

/-! ### Patterns (R144, R185, R186) -/

/-- A pattern starts, is renewed or replaced; a start releases the douser request and stops the douser timer (R144,
R185). -/
def startPattern (pat : Pattern) (o : Out) (s : State) : State :=
  let c := s.controllers.get o
  let s1 := { s with part := { s.part with patterns := s.part.patterns.set o (some pat) } }
  match s.part.patterns.get o with
  | some _ => s1
  | none => s1.setController o { c with douser := false, douserTimer := none }

/-- A pattern ends; a DARK output whose request is released then starts its douser timer (R144, R186). With a douser delay
of 0 its request is asserted within this event: R142 places the expiry in the event itself for an entry into DARK alone,
and the model does the same here (DESIGN CHOICE, log entry 30). -/
def endPattern (o : Out) (s : State) : State :=
  match s.part.patterns.get o with
  | none => s
  | some _ =>
    let c := s.controllers.get o
    let s1 := { s with part := { s.part with patterns := s.part.patterns.set o none } }
    if c.isDark && !c.douser then s1.setController o (c.startDouserTimer s.now) else s1

/-- Applies `f` for each output a mask names, OUT-0 first. -/
def forOutputs (m : Mask) (f : Out → State → State) (s : State) : State :=
  let s1 := if m.out0 then f .out0 s else s
  if m.out1 then f .out1 s1 else s1

/-- PATTERN (R185). -/
def patternOwner (_ : Link) (p : Packet) (s : State) : Reply :=
  let duration := (p.u16 3).toNat
  match patternKindOf (p.u8 0) with
  | none => .refuse .badParam []
  | some kind =>
    if duration = 0 || 600 < duration then .refuse .badParam []
    else if s.engine.lock.isSet then .refuse .locked []
    else if s.part.service.active then .refuse .overridden []
    else if s.part.state.inStandby then .refuse .standby []
    else .accept (forOutputs p.outputs (startPattern ⟨kind, p.u16 1, s.now + seconds duration⟩) s) []

/-- PATTERN (R185, R156). -/
def execPattern (t : Nat) (s : State) : Host.Outcome State Fault Refusal :=
  .next (takeOwned (fun p => p.code == 0x51#8) (fun n => n == 5) true patternOwner t s)

/-- PATTERN_END (R186). -/
def patternEndOwner (_ : Link) (p : Packet) (s : State) : Reply := .accept (forOutputs p.outputs endPattern s) []

/-- PATTERN_END (R186, R156). -/
def execPatternEnd (t : Nat) (s : State) : Host.Outcome State Fault Refusal :=
  .next (takeOwned (fun p => p.code == 0x52#8) (fun n => n == 0) true patternEndOwner t s)

/-- PATTERN_EXPIRY (R186). An absent pattern has no remaining time. -/
def execPatternExpiry (o : Out) (s : State) : Host.Outcome State Fault Refusal :=
  match s.part.patterns.get o with
  | none => .next s
  | some p => .next (latchEdges (s.advance p.expires) (endPattern o (s.advance p.expires)))

/-! ### The service decoder and override (R188, R189) -/

/-- The decoder runs outside INITIALIZING (R188). -/
def decoderRuns (s : State) : Bool := s.part.state != .initializing

def State.setDecoder (s : State) (d : ServiceDecoder) : State := { s with part := { s.part with decoder := d } }

def State.setService (s : State) (v : Override) : State := { s with part := { s.part with service := v } }

/-- A taken fall: the group timer stops, and a group opens with count 0 if none is open (R188). -/
def takenFall (s : State) : State :=
  let d := s.part.decoder
  s.setDecoder { d with level := false, differing := 0, group := some (d.group.getD 0), timer := none }

/-- A taken rise: the pulse is counted, up to 255, and the group timer starts (R188). -/
def takenRise (s : State) : State :=
  let d := s.part.decoder
  s.setDecoder { d with level := true, differing := 0, group := some (min 255 (d.group.getD 0 + 1)),
                        timer := some (s.now + groupTime) }

/-- SERVICE_TAKEN_FALL (R188). A level already low cannot fall, and the decoder is held in INITIALIZING. -/
def execServiceTakenFall (t : Nat) (s : State) : Host.Outcome State Fault Refusal :=
  if decoderRuns s && s.part.decoder.level then .next (takenFall (s.advance t)) else .next (s.advance t)

/-- SERVICE_TAKEN_RISE (R188). A level already high cannot rise, and the decoder is held in INITIALIZING. -/
def execServiceTakenRise (t : Nat) (s : State) : Host.Outcome State Fault Refusal :=
  if decoderRuns s && !s.part.decoder.level then .next (takenRise (s.advance t)) else .next (s.advance t)

/-- DARK starts or restarts its 300 s; the image in progress goes to code 0 unless DARK was already on (R76, R189). -/
def overrideDark (s : State) : State :=
  let s1 := s.setService (.dark (s.now + overrideTime))
  match s.part.service with
  | .dark _ => s1
  | .none | .grid _ => blackenAll s1

/-- GRID starts or restarts its 300 s, and a part in STANDBY starts WAKING (R189). -/
def overrideGrid (s : State) : State := wakeFromStandby (s.setService (.grid (s.now + overrideTime)))

/-- A decoded group acts by its count (R189). -/
def decodeGroup (count : Nat) (s : State) : State :=
  match count with
  | 6 => overrideDark s
  | 8 => overrideGrid s
  | 10 => s.setService .none
  | _ => s

/-- GROUP_TIMER_EXPIRY (R188): the group is decoded and closes. A stopped timer does not expire. -/
def execGroupTimerExpiry (s : State) : Host.Outcome State Fault Refusal :=
  match s.part.decoder.timer with
  | none => .next s
  | some e =>
    let s1 := s.advance e
    let s2 := decodeGroup (s1.part.decoder.group.getD 0) s1
    .next (latchEdges s1 (s2.setDecoder { s2.part.decoder with group := none, timer := none }))

/-- OVERRIDE_TIMER_EXPIRY (R189): the override becomes NONE. -/
def execOverrideTimerExpiry (s : State) : Host.Outcome State Fault Refusal :=
  match s.part.service with
  | .none => .next s
  | .dark e | .grid e => .next (latchEdges (s.advance e) ((s.advance e).setService .none))

/-! ### Resets (R191) -/

/-- Power-on reset and the reset pin (R191). -/
def resetPart (s : State) : State := { s with part := PartControl.reset }

/-- SOFT_RESET ends both patterns (R186, R191) and leaves the controllers as they were (R149, R163). R186 has the
controller act as R144 states at every end of a pattern, and R144 states it for PATTERN_END and the pattern's timer: no
douser timer starts here (DEDUCED, log entry 10). -/
def endPatternsAtSoftReset (s : State) : State := { s with part := { s.part with patterns := ⟨none, none⟩ } }

/-- SOFT_RESET (R191): patterns end, STANDBY goes to WAKING, and without KEEP_SETTINGS the standby delay returns to its
default. The override, its timer and the decoder are kept. -/
def softResetPart (keep : Bool) (s : State) : State :=
  let s1 := wakeFromStandby (endPatternsAtSoftReset s)
  if keep then s1 else setStandbyDelay defaultStandbyDelay s1

end Sys2Proof.Machine
end

