-- ==== Sys2Proof/Machine/Ports.lean ====
section
/-!
DEFINITION. The Stream Link Ports: link states, frames and the management area (chapter 6).
-/
namespace Sys2Proof.Machine

open Sys2Proof

/-- A link event is one event: its edges are latched, and the idle timer follows the link states it leaves (R182). -/
def linkEvent (s s' : State) : Host.Outcome State Fault Refusal := .next (latchEdges s (keepIdleTimer s'))

def State.setLinkState (s : State) (l : Link) (x : LinkState) : State :=
  s.setPort l { s.ports.get l with state := x }

def State.setFrame (s : State) (l : Link) (x : FrameProgress) : State :=
  s.setPort l { s.ports.get l with frame := x }

/-! ### The packet being received -/

/-- A packet of the frame is being received: some of its bytes have arrived (R121). -/
def FrameProgress.inPacket : FrameProgress → Bool
  | .body b => b.parsed && !b.buffer.isEmpty
  | .none | .awaitingHeader | .headerLost | .skipping => false

/-- The packet being received, if there is one, is dropped with MGMT_REJECT (R108, R114, R121). -/
def cutPacket (l : Link) (s : State) : State := s.raiseIf (s.ports.get l).frame.inPacket (.mgmtReject l)

/-! ### Entries into the link states -/

/-- Entry into SEEKING from OFF or QUIET, or at initialisation end (R109). -/
def enterSeeking (l : Link) (s : State) : State :=
  s.setPort l { s.ports.get l with
    state := .seeking (s.now + linkAcquisitionTime), previous := none, frame := .none }

/-- Entry into OFF: the acquisition timer stops, and the signal-loss timer runs no more. -/
def enterOff (l : Link) (s : State) : State :=
  s.setPort l { s.ports.get l with state := .off, frame := .none, signalLoss := none }

/-- Entry into LOCKED from ALIGNED or from HOLDOVER (R112); a part in AUTOMATIC standby wakes (R183). -/
def enterLocked (l : Link) (fromAligned : Bool) (s : State) : State :=
  wakeOnLock (s.setPort l { s.ports.get l with state := .locked 0 s.now, fromAligned := fromAligned })

/-- The frame of a LOCKED link ends, at a delimiter or with the lock: a packet being received is rejected, and a FILLING
slot is freed with cause INCOMPLETE (R95, R114, R121). -/
def endFrame (l : Link) (s : State) : State := dropFilling l .incomplete (cutPacket l s)

/-- Entry into HOLDOVER from LOCKED (R114). -/
def enterHoldover (l : Link) (s : State) : State :=
  let s1 := endFrame l s
  s1.setPort l { s1.ports.get l with state := .holdover (s1.now + lossLimitTime) 0, frame := .skipping }

/-- Entry into QUIET (R116). -/
def enterQuiet (l : Link) (s : State) : State :=
  let s1 := loseLoads l (s.raise (.linkFail l))
  s1.setPort l { s1.ports.get l with
    state := .quiet (s1.now + quietTime), previous := none, frame := .none, signalLoss := none }

/-! ### Signal (R108, R109) -/

/-- The signal has come back: the rest of a frame that its absence broke is discarded up to the next delimiter, a header
that had not come and the management area with it, also at a later loss of the signal (R108, R119). -/
def FrameProgress.discard : FrameProgress → FrameProgress
  | .none => .none
  | .awaitingHeader | .headerLost => .headerLost
  | .skipping => .skipping
  | .body b => .body { b with parsed := b.parsed && !b.broken }

/-- SIGNAL_PRESENT (R108, R109). A signal already present does not become present. -/
def execSignalPresent (t : Nat) (l : Link) (s : State) : Host.Outcome State Fault Refusal :=
  let s0 := s.advance t
  let p := s0.ports.get l
  if p.signal then .next s0
  else
    let s1 := s0.setPort l { p with signal := true, signalLoss := none, frame := p.frame.discard }
    match p.state with
    | .off => if s.part.state == .initializing then .next s1 else linkEvent s0 (enterSeeking l s1)
    | .seeking _ | .aligned _ _ | .locked _ _ | .holdover _ _ | .quiet _ => .next s1

/-- An absence breaks the frame in progress (R108). A header that has not come is not heard while the signal is absent,
and is lost with its return. -/
def FrameProgress.break : FrameProgress → FrameProgress
  | .none => .none
  | .awaitingHeader => .awaitingHeader
  | .headerLost => .headerLost
  | .skipping => .skipping
  | .body b => .body { b with buffer := [], broken := true }

/-- SIGNAL_ABSENT (R108). A signal already absent does not become absent. -/
def execSignalAbsent (t : Nat) (l : Link) (s : State) : Host.Outcome State Fault Refusal :=
  let s0 := s.advance t
  if !(s0.ports.get l).signal then .next s0
  else
    let s1 := cutPacket l s0
    let p := s1.ports.get l
    .next (s1.setPort l { p with
      signal := false
      frame := p.frame.break
      signalLoss := if p.state.judges then some (s1.now + signalLossTime) else none })

/-- What a signal lost at the instant `e` does in each link state (R110, R111, R113, R115). A link whose fourth good
header in ALIGNED was taken first at that same instant is LOCKED by then and goes to OFF, as ALIGNED does (R125). -/
def loseSignal (e : Nat) (l : Link) (s : State) : State :=
  match (s.ports.get l).state with
  | .seeking _ | .aligned _ _ => enterOff l s
  | .locked _ since =>
    if (s.ports.get l).fromAligned && e ≤ since then enterOff l (endFrame l s) else enterHoldover l s
  | .holdover e _ => s.setLinkState l (.holdover e 0)
  | .off | .quiet _ => s

/-- SIGNAL_LOST (R108): the signal-loss timer expires. A stopped timer does not expire. -/
def execSignalLost (l : Link) (s : State) : Host.Outcome State Fault Refusal :=
  match (s.ports.get l).signalLoss with
  | none => .next s
  | some e =>
    let s0 := s.advance e
    linkEvent s0 (loseSignal e l (s0.setPort l { s0.ports.get l with signalLoss := none }))

/-! ### Timers (R115, R116) -/

/-- LINK_ACQUISITION_TIMEOUT (R116). -/
def execLinkAcquisitionTimeout (l : Link) (s : State) : Host.Outcome State Fault Refusal :=
  match (s.ports.get l).state with
  | .seeking e | .aligned e _ => linkEvent (s.advance e) (enterQuiet l (s.advance e))
  | .off | .locked _ _ | .holdover _ _ | .quiet _ => .next s

/-- LOSS_LIMIT_EXPIRY (R115, R116). -/
def execLossLimitExpiry (l : Link) (s : State) : Host.Outcome State Fault Refusal :=
  match (s.ports.get l).state with
  | .holdover e _ => linkEvent (s.advance e) (enterQuiet l (s.advance e))
  | .off | .seeking _ | .aligned _ _ | .locked _ _ | .quiet _ => .next s

/-- QUIET_TIMER_EXPIRY (R116): SEEKING if the signal is present then, OFF if it is absent. -/
def execQuietTimerExpiry (l : Link) (s : State) : Host.Outcome State Fault Refusal :=
  match (s.ports.get l).state with
  | .quiet e =>
    let s0 := s.advance e
    linkEvent s0 (if (s0.ports.get l).signal then enterSeeking l s0 else enterOff l s0)
  | .off | .seeking _ | .aligned _ _ | .locked _ _ | .holdover _ _ => .next s

/-! ### Headers (R107, R110 to R115) -/

/-- What a bad header does in each link state. -/
def badHeader (l : Link) (s : State) : State :=
  match (s.ports.get l).state with
  | .aligned e _ => s.setLinkState l (.seeking e)
  | .locked bad since => if bad + 1 < 2 then s.setLinkState l (.locked (bad + 1) since) else enterHoldover l s
  | .holdover e _ => s.setLinkState l (.holdover e 0)
  | .off | .seeking _ | .quiet _ => s

/-- T is later than the previous target; the first good header after SEEKING has none before it. -/
def Port.rising (p : Port) (t : Period) : Bool :=
  match p.previous with
  | none => true
  | some q => laterThan t q

/-- The body of a frame begins to be read, and its T becomes the previous target. A frame whose header came without a
signal is broken (R108, R125). -/
def beginBody (l : Link) (h : Header) (parsed : Bool) (s : State) : State :=
  s.setPort l { s.ports.get l with
    previous := some h.target, frame := .body ⟨h, 0, parsed, 0, [], !(s.ports.get l).signal⟩ }

/-- The good header that makes the fourth: LOCKED is entered and the frame offered (R112, R118). -/
def lockAndOffer (l : Link) (fromAligned : Bool) (h : Header) (s : State) : State :=
  offerFrame l h (enterLocked l fromAligned (beginBody l h true s))

/-- What a good header does in each link state (R110 to R115). -/
def goodHeader (l : Link) (h : Header) (s : State) : State :=
  let p := s.ports.get l
  match p.state with
  | .seeking e => (beginBody l h false s).setLinkState l (.aligned e 1)
  | .aligned e good =>
    if p.rising h.target then
      if good + 1 < 4 then (beginBody l h false s).setLinkState l (.aligned e (good + 1)) else lockAndOffer l true h s
    else (beginBody l h false s).setLinkState l (.aligned e 1)
  | .locked _ since =>
    let s1 := (beginBody l h true s).setLinkState l (.locked 0 since)
    if p.rising h.target then offerFrame l h s1 else dropFrame l .duplicate s1
  | .holdover e good =>
    if good ≠ 0 ∧ p.rising h.target then
      if good + 1 < 4 then (beginBody l h false s).setLinkState l (.holdover e (good + 1)) else lockAndOffer l false h s
    else (beginBody l h false s).setLinkState l (.holdover e 1)
  | .off | .quiet _ => s

/-- The event signal lost falls at the instant `now` and has not been taken (R108). -/
def Port.lossFalls (p : Port) (now : Nat) : Bool :=
  match p.signalLoss with
  | none => false
  | some e => e ≤ now

/-- The port hears its line: the signal is present, or signal lost falls at this very instant, and what arrives with it
may be taken first (R125, log entry 29). -/
def Port.hears (p : Port) (now : Nat) : Bool := p.signal || p.lossFalls now

/-- A header is being waited for, in a state that judges headers, by a port that hears its line (R107, R108). -/
def Port.expectsHeader (p : Port) (now : Nat) : Bool := p.state.judges && p.hears now && p.frame == .awaitingHeader

/-- FRAME_HEADER (R107): the header is judged, and the link state acts on it. Twelve bytes that do not follow a
delimiter are discarded. -/
def execFrameHeader (t : Nat) (l : Link) (bytes : BitVec 96) (s : State) : Host.Outcome State Fault Refusal :=
  let s0 := s.advance t
  if (s0.ports.get l).expectsHeader s0.now then
    match headerOf bytes with
    | some h => linkEvent s0 (goodHeader l h s0)
    | none => linkEvent s0 (badHeader l (s0.setFrame l .skipping))
  else .next s0

/-- FRAME_DELIMITER (R95, R107, R121): the frame in progress ends. A packet being received is dropped, a FILLING slot is
freed INCOMPLETE, a header cut short or lost counts as bad (log entry 12), and a new frame awaits its header. -/
def execFrameDelimiter (t : Nat) (l : Link) (s : State) : Host.Outcome State Fault Refusal :=
  let s0 := s.advance t
  let p := s0.ports.get l
  if p.hears s0.now && p.state.judges then
    let s1 := endFrame l s0
    let s2 :=
      match p.frame with
      | .awaitingHeader | .headerLost => badHeader l s1
      | .none | .skipping | .body _ => s1
    linkEvent s0 (s2.setFrame l .awaitingHeader)
  else .next s0

/-! ### Lines (R94, R118) -/

/-- The port takes a line of the frame it reads: the frame has lines to come and is not broken. The last line is taken
as well at the very instant of signal lost, before it, though the absence that ends there has broken the frame (R104,
log entry 29). -/
def Port.takesLine (p : Port) (now : Nat) (b : FrameBody) : Bool :=
  if p.signal then !b.broken && b.lines < b.header.height
  else p.lossFalls now && b.parsed && b.lines + 1 == b.header.height

/-- PIXEL_LINE (R94, R104): the line of a frame being read is counted, and stored if the frame has a FILLING slot. Bytes
that are not a whole line of the frame are no line. -/
def execPixelLine (t : Nat) (l : Link) (bytes : List Byte) (s : State) : Host.Outcome State Fault Refusal :=
  let s0 := s.advance t
  match (s0.ports.get l).frame with
  | .body b =>
    if (s0.ports.get l).takesLine s0.now b && bytes.length == 6 * b.header.width then
      let s1 := s0.setFrame l (.body { b with lines := b.lines + 1 })
      .next (storeLine l (pixelsOf b.header.encoding bytes) s1)
    else .next s0
  | .none | .awaitingHeader | .headerLost | .skipping => .next s0

/-! ### The management area (R119 to R121) -/

/-- A packet of the area is due: the area is parsed, all lines have come, and the packet count is not reached. -/
def FrameBody.expectsPacket (b : FrameBody) : Bool :=
  b.parsed && !b.broken && b.lines == b.header.height && b.packets < b.header.packets

/-- The bytes of the packet being received, with those that have just arrived; the packets behind a whole one follow it.
`due` is how many packets the area still promises (R119 to R121). -/
def areaBytes (l : Link) (due : Nat) (b : FrameBody) (buf : List Byte) (s : State) : State :=
  match due with
  | 0 => s
  | due + 1 =>
    if buf.length < 6 then s.setFrame l (.body { b with buffer := buf })
    else if 240 < lengthField buf then (s.setFrame l .skipping).raise (.mgmtReject l)
    else
      let size := lengthField buf + 8
      if buf.length < size then s.setFrame l (.body { b with buffer := buf })
      else
        let packet := buf.take size
        let b1 := { b with packets := b.packets + 1, buffer := [] }
        let s1 := s.setFrame l (.body b1)
        let s2 := if packetCheckOk packet then handOver l (packetOf packet) s1 else s1.raise (.mgmtReject l)
        areaBytes l due b1 (buf.drop size) s2

/-- MANAGEMENT_PACKET (R119 to R121, R151). Bytes outside a parsed management area are discarded. -/
def execManagementPacket (t : Nat) (l : Link) (bytes : List Byte) (s : State) : Host.Outcome State Fault Refusal :=
  let s0 := s.advance t
  match (s0.ports.get l).frame with
  | .body b =>
    if (s0.ports.get l).signal && b.expectsPacket then
      .next (areaBytes l (b.header.packets - b.packets) b (b.buffer ++ bytes) s0)
    else .next s0
  | .none | .awaitingHeader | .headerLost | .skipping => .next s0

/-! ### Resets (R126) -/

/-- Power-on reset and the reset pin (R126): the signal is a property of the line and the last return frame has been
sent; neither changes. -/
def Port.pinReset (p : Port) : Port := { Port.reset with signal := p.signal, sent := p.sent }

def resetPorts (s : State) : State := { s with ports := s.ports.map Port.pinReset }

/-- The receiver is enabled: the port enters SEEKING if its signal is present (R126). -/
def enableReceiver (l : Link) (s : State) : State := if (s.ports.get l).signal then enterSeeking l s else s

end Sys2Proof.Machine
end

