-- ==== Sys2Proof/Machine/Reports.lean ====
section
/-!
DEFINITION. What the part reports: the state word and the return frame (R122, R123, R174, R195), the STATUS record
(R176, R196), and the three commands of the Condition Flag Unit (R171, R172, R176).
-/
namespace Sys2Proof.Machine

open Sys2Proof

/-! ### The state word (R174, R195) -/

/-- D as it is reported: 0 while it is undefined (R70). -/
def reportedDome (s : State) : Nat :=
  match s.dome with
  | none => 0
  | some d => d.toNat

/-- The pattern indication of an output. -/
def patternByte (p : Option Pattern) : Byte := if p.isSome then 1 else 0

/-- The three bytes of an output in the state word: state, role, pattern. -/
def outputBytes (s : State) (o : Out) : List Byte :=
  [(s.controllers.get o).state.code, roleCode (s.controllers.get o).role, patternByte (s.part.patterns.get o)]

/-- Bytes 0 to 20 of the state word of a link, with the number of results that follow it. -/
def stateWordBody (s : State) (l : Link) (results : Nat) : List Byte :=
  [s.part.state.code, s.clock.state.code] ++ beBytes 4 (reportedDome s)
    ++ [s.ports.a.state.code, s.ports.b.state.code]
    ++ outputBytes s .out0 ++ outputBytes s .out1
    ++ [s.part.service.code, BitVec.ofNat 8 (credit s l)]
    ++ beBytes 3 s.flagUnit.flags.toNat
    ++ [BitVec.ofNat 8 s.outcomes.length, BitVec.ofNat 8 results]

/-- The state word: 23 bytes, the last two the check. -/
def stateWord (s : State) (l : Link) (results : Nat) : List Byte :=
  stateWordBody s l results ++ beBytes 2 (crc16 (stateWordBody s l results)).toNat

/-! ### The return frame (R122, R123) -/

/-- The results that one return frame carries at most (R123). -/
def resultsPerFrame : Nat := 4

/-- The return frame that a link sends at a start. -/
def returnFrame (s : State) (l : Link) : ReturnFrame :=
  let taken := (s.engine.results.get l).take resultsPerFrame
  ⟨stateWord s l taken.length, taken.map Result.bytes⟩

/-- Both ports send their return frames, and the results sent leave their queues (R122, R123). -/
def sendReturnFrames (s : State) : State :=
  { s with
    ports := ⟨{ s.ports.a with sent := some (returnFrame s .a) }, { s.ports.b with sent := some (returnFrame s .b) }⟩
    engine := { s.engine with
      results := ⟨s.engine.results.a.drop resultsPerFrame, s.engine.results.b.drop resultsPerFrame⟩ } }

/-! ### The STATUS record (R176, R196) -/

/-- A fraction from 0 to 1 as a 16-bit code, rounded to the nearest, halves upward (R147, R176). -/
def weightCode (ws : Rat) : Nat := (ws * 65535 + 1 / 2).floor.toNat

/-- A bank block: state, GX, GY, label, image CRC; an absent field is 0 (R24, R196). -/
def Bank.block (b : Bank) : List Byte :=
  b.code ::
    match b with
    | .empty => List.replicate 10 0
    | .loading ld | .verifying ld _ _ =>
      beBytes 1 ld.grid.gx ++ beBytes 1 ld.grid.gy ++ beBytes 4 ld.label.toNat ++ beBytes 4 0
    | .ready t => beBytes 1 t.grid.gx ++ beBytes 1 t.grid.gy ++ beBytes 4 t.label.toNat ++ beBytes 4 t.imageCrc.toNat

/-- A pair block: active index, bank 0, bank 1. -/
def BankPair.block (p : BankPair) : List Byte := p.active.code :: (p.bank0.block ++ p.bank1.block)

/-- The figures of a link: last drop cause and smallest lead. -/
def LinkStore.block (st : LinkStore) : List Byte := st.lastDrop.code :: beBytes 4 (smallestLead st.leads)

/-- The step and length of a blend fade; both 0 while none is in flight. -/
def fadeBytes : Option Fade → List Byte
  | none => [0, 0]
  | some f => beBytes 1 f.step ++ beBytes 1 f.length

/-- The target period of the held slot; 0 while it is absent. -/
def heldTarget (s : State) (o : Out) : Nat :=
  match (s.controllers.get o).held with
  | none => 0
  | some i =>
    match (s.slot i).target with
    | none => 0
    | some t => t.toNat

/-- An output block of the STATUS record. -/
def outputBlock (s : State) (o : Out) : List Byte :=
  let r := s.ramps.get o
  let c := s.controllers.get o
  beBytes 2 r.gain.toNat ++ beBytes 2 r.target.toNat ++ beBytes 2 r.remaining ++ fadeBytes (s.fades.get o)
    ++ beBytes 2 (weightCode c.ws) ++ beBytes 1 c.starved ++ beBytes 4 (heldTarget s o)

/-- The revision code of the part. -/
def revisionCode : Byte := 0x01

/-- The STATUS record, 148 bytes (R196). -/
def statusRecord (s : State) : List Byte :=
  [revisionCode] ++ beBytes 2 s.clock.period ++ beBytes 2 s.clock.misses
    ++ s.store.a.block ++ s.store.b.block
    ++ (s.pair .out0 .warp).block ++ (s.pair .out0 .blend).block
    ++ (s.pair .out1 .warp).block ++ (s.pair .out1 .blend).block
    ++ outputBlock s .out0 ++ outputBlock s .out1
    ++ beBytes 1 s.cues.length ++ beBytes 1 s.outcomes.length ++ beBytes 2 s.part.standbyDelay
    ++ beBytes 3 s.flagUnit.rising.toNat ++ beBytes 3 s.flagUnit.falling.toNat ++ [s.engine.lock.code]

/-! ### The commands of the Condition Flag Unit -/

/-- FLAGS_ARM (R171): bits 12 to 23 of the falling mask are not kept. -/
def flagsArmOwner (_ : Link) (p : Packet) (s : State) : Reply :=
  .accept { s with flagUnit := { s.flagUnit with rising := p.u24 0, falling := (p.u24 3).setWidth 12 } } []

/-- FLAGS_ARM (R171, R156). -/
def execFlagsArm (t : Nat) (s : State) : Host.Outcome State Fault Refusal :=
  .next (takeOwned (fun p => p.code == 0x41#8) (fun n => n == 6) false flagsArmOwner t s)

/-- FLAGS_CLEAR (R172). -/
def flagsClearOwner (_ : Link) (p : Packet) (s : State) : Reply :=
  .accept { s with flagUnit := { s.flagUnit with flags := s.flagUnit.flags &&& ~~~p.u24 0 } } []

/-- FLAGS_CLEAR (R172, R156). -/
def execFlagsClear (t : Nat) (s : State) : Host.Outcome State Fault Refusal :=
  .next (takeOwned (fun p => p.code == 0x42#8) (fun n => n == 3) false flagsClearOwner t s)

/-- STATUS (R176, R177): the record, and no change. -/
def statusOwner (_ : Link) (_ : Packet) (s : State) : Reply := .accept s (statusRecord s)

/-- STATUS (R176, R156). -/
def execStatus (t : Nat) (s : State) : Host.Outcome State Fault Refusal :=
  .next (takeOwned (fun p => p.code == 0x43#8) (fun n => n == 0) false statusOwner t s)

end Sys2Proof.Machine
end

