-- ==== Sys2Proof/Machine/PeriodClock.lean ====
section
/-!
DEFINITION. The Period Clock: sync words, the period generator, the tracking window, the acquisition timer, and the work
that every period start sets off in the receiving blocks (chapter 3).
-/
namespace Sys2Proof.Machine

open Sys2Proof

/-! ### A period start (R60) -/

/-- The work of the receiving blocks at one start, each on the clock as the start has set it (R28, R60, R72, R99, R130).
A verification that must have ended by now ends first (R18). -/
def startWork (s : State) : State :=
  let s1 := schedulerWork (verificationsAtStart s)
  let s2 := controllerWork .out1 (controllerWork .out0 s1)
  beginRasters (applyFormats (releaseWork s2))

/-- One period start: `before` is the state as the start finds it, `s` the same with the clock as the start sets it. The
edges are latched before the return frames are built (R175). That holds of the first start after a reset too: its state
word shows the flags of the edges taken since the release and of those it makes itself, where R178 says that the first
state word after a reset shows every flag clear (DESIGN CHOICE, log entry 34). -/
def periodStart (before s : State) : State := sendReturnFrames (latchEdges before (startWork s))

/-- The command is a reset that, taken from the queue, would be taken at the instant `now`. -/
def isResetBy (now : Nat) : Instr → Bool
  | .powerOnReset t | .resetPin t => t ≤ now
  | _ => false

/-- A reset waits that falls at the present instant (log entry 28). -/
def resetWaits (s : State) : Bool := s.pending.any (isResetBy s.now)

/-- A period start at the present time. One that falls at the moment of a reset is not made (R71, log entry 28). -/
def makeStart (before s : State) : State := if resetWaits before then before else periodStart before s

/-- The state with its clock in `state`, and the start at the present time as the last start. -/
def State.startClock (s : State) (state : ClockState) (period misses : Nat) (atMark : Bool) : State :=
  { s with clock := { s.clock with
      state := state, period := period, misses := misses, lastStart := ⟨s.now, atMark⟩ } }

/-- TRACKING with the window set from a start at `time` (R63). -/
def trackingFrom (d : Period) (period time : Nat) : ClockState :=
  .tracking d (time + period - period / 16) (time + period + period / 16)

/-! ### Accepted words (R61, R62, R64, R66) -/

/-- The bounds of P. -/
def clampPeriod (p : Nat) : Nat := max 4000 (min 42000 p)

/-- A word follows the reference word in number and interval (R62). -/
def followsReference (reference : Period) (mark : Nat) (n : Period) (t : Nat) : Bool :=
  n == reference + 1 && 4000 ≤ t - mark && t - mark ≤ 42000

/-- P at a start made by a word inside the tracking window: measured again if the last start was made at a mark (R64). -/
def remeasured (c : Clock) (t : Nat) : Nat :=
  if c.lastStart.atMark then clampPeriod (t - c.lastStart.time) else c.period

/-- A word becomes the reference word, and the acquisition timer starts from its mark (R61, R62). -/
def becomeReference (n : Period) (s : State) : State :=
  { s with clock := { s.clock with state := .acquiring n s.now (s.now + syncAcquisitionTime) } }

/-- An accepted word makes a start at its mark; SYNC_JUMP is raised when its number is not D + 1 (R64, R66). -/
def startAtWord (d n : Period) (period : Nat) (s : State) : State :=
  makeStart s ((s.startClock (trackingFrom n period s.now) period 0 true).raiseIf (n != d + 1) .syncJump)

/-- An accepted word whose mark is the present time. A word that passes in ACQUIRING makes a start at its mark (R62), also
where it is the first start after a release, which R59 and R71 give to the generator, 16,667 µs after the release: the
model follows R62 (DESIGN CHOICE, log entry 32). In FREERUN any such word makes a start, also one whose mark is the
window close at which the third miss has just entered FREERUN: R68 has the word ignored, as outside the next window, and
R66 takes it, as there is no window; the model follows R66 (DESIGN CHOICE, log entry 26). -/
def acceptWord (n : Period) (s : State) : State :=
  match s.clock.state with
  | .unsynced => becomeReference n s
  | .acquiring reference mark _ =>
    if followsReference reference mark n s.now then
      makeStart s (s.startClock (trackingFrom n (s.now - mark) s.now) (s.now - mark) 0 true)
    else becomeReference n s
  | .tracking d opens closes =>
    if opens ≤ s.now ∧ s.now ≤ closes then startAtWord d n (remeasured s.clock s.now) s else s
  | .freerun d => startAtWord d n s.clock.period s

/-- At the mark the decoder returns to waiting for rest, whatever the judgement (R57). -/
def decoderAtMark (s : State) : State :=
  { s with clock := { s.clock with line := { s.clock.line with reception := .waitingForRest } } }

/-- Reset is released: the Period Clock decodes the line and makes starts (R59, R71). -/
def clockRuns (s : State) : Bool := s.clock.released.isSome

/-- SYNC_WORD (R57, R58). While reset is held the decoder hears nothing. -/
def execSyncWord (t : Nat) (cells : BitVec 48) (s : State) : Host.Outcome State Fault Refusal :=
  let s0 := s.advance t
  if clockRuns s then
    let s1 := decoderAtMark s0
    .next (if syncWordAccepted cells then acceptWord (syncWordNumber cells) s1 else s1)
  else .next s0

/-! ### The generator (R59, R65, R66) -/

/-- When the generator makes its next start, in the states in which it paces starts: P after the last start. The first
one after a release comes 16,667 µs, the P of the reset, after it (R59, log entry 27), unless a passing word has made a
start before that and left the clock TRACKING (R62, log entry 32). -/
def generatorDue (c : Clock) : Option Nat :=
  match c.released, c.state with
  | some _, .unsynced | some _, .acquiring _ _ _ | some _, .freerun _ => some (c.lastStart.time + c.period)
  | some _, .tracking _ _ _ => none
  | none, _ => none

/-- The largest miss count (R66). -/
def maxMisses : Nat := 65535

/-- A generator start at the present time: in FREERUN, D advances and a miss is counted (R59, R66). -/
def generatorStart (s : State) : State :=
  match s.clock.state with
  | .freerun d => makeStart s (s.startClock (.freerun (d + 1)) s.clock.period (min maxMisses (s.clock.misses + 1)) false)
  | .unsynced | .acquiring _ _ _ =>
    makeStart s (s.startClock s.clock.state s.clock.period s.clock.misses false)
  | .tracking _ _ _ => s

/-- GENERATOR_START (R59). In TRACKING, and while reset is held, no start is due. -/
def execGeneratorStart (s : State) : Host.Outcome State Fault Refusal :=
  match generatorDue s.clock with
  | none => .next s
  | some e => .next (generatorStart (s.advance e))

/-- The misses that end TRACKING (R65). -/
def missLimit : Nat := 3

/-- A window closes without a start in it: the generator makes the start, and a miss is counted (R65). -/
def missedStart (d : Period) (s : State) : State :=
  let misses := s.clock.misses + 1
  let state := if misses < missLimit then trackingFrom (d + 1) s.clock.period s.now else .freerun (d + 1)
  makeStart s (s.startClock state s.clock.period misses false)

/-- TRACKING_WINDOW_CLOSE (R65). Without a window none closes. -/
def execTrackingWindowClose (s : State) : Host.Outcome State Fault Refusal :=
  match s.clock.state with
  | .tracking d _ closes => .next (missedStart d (s.advance closes))
  | .unsynced | .acquiring _ _ _ | .freerun _ => .next s

/-- SYNC_ACQUISITION_TIMEOUT (R62). Outside ACQUIRING the timer does not run. -/
def execSyncAcquisitionTimeout (s : State) : Host.Outcome State Fault Refusal :=
  match s.clock.state with
  | .acquiring _ _ e =>
    let s0 := s.advance e
    .next { s0 with clock := { s0.clock with state := .unsynced } }
  | .unsynced | .tracking _ _ _ | .freerun _ => .next s

end Sys2Proof.Machine
end

