-- ==== Sys2Proof/Machine/Resets.lean ====
section
/-!
DEFINITION. The resets: power-on reset, the reset pin, the release, the end of initialisation, and SOFT_RESET.
-/
namespace Sys2Proof.Machine

open Sys2Proof

/-! ### Power-on reset -/

/-- POWER_ON_RESET (R179): every record at its value after power-on reset, the reset held. What stands outside the part
is kept: the time, the queues of waiting inputs, and what the receivers report of the two lines (log entry 7). -/
def powerOnReset (s : State) : State :=
  { State.reset with
    now := s.now
    ports := s.ports.map fun p => { Port.reset with signal := p.signal }
    samples := s.samples
    pending := s.pending }

/-- POWER_ON_RESET (R179). -/
def execPowerOnReset (t : Nat) (s : State) : Host.Outcome State Fault Refusal := .next (powerOnReset (s.advance t))

/-! ### The reset pin -/

/-- The configuration lock keeps its mode; everything else of the engine is reset (R146, R165). -/
def Engine.pinReset (e : Engine) : Engine := { Engine.reset with lock := e.lock }

/-- The format record keeps its values, a pending format is dropped (R73), and the image in progress goes to code 0 from
the next line (R76). -/
def Pipeline.pinReset (t : Nat) (p : Pipeline) : Pipeline :=
  { p with pendingFormat := none, raster := p.raster.map (Raster.blacken t) }

/-- RESET_PIN: each block as its chapter gives (R26, R53, R71, R73, R76, R103, R126, R149, R165, R178, R191). The flags
are cleared last, so no edge of the reset leaves a flag set. -/
def pinReset (s : State) : State :=
  let s1 := resetPart (resetPorts (resetStore (resetScheduler (resetTables s))))
  { s1 with
    clock := Clock.reset
    pipelines := s1.pipelines.map (Pipeline.pinReset s.now)
    controllers := s1.controllers.map Controller.pinReset
    engine := s1.engine.pinReset
    flagUnit := FlagUnit.reset }

/-- RESET_PIN (R179). -/
def execResetPin (t : Nat) (s : State) : Host.Outcome State Fault Refusal := .next (pinReset (s.advance t))

/-! ### Release and initialisation -/

/-- RESET_RELEASE (R59, R72): the generator counts to its first start from here (log entry 27), and the ports send
blanking. A reset that is not held cannot be released. -/
def execResetRelease (t : Nat) (s : State) : Host.Outcome State Fault Refusal :=
  let s0 := s.advance t
  if clockRuns s then .next s0
  else
    .next { s0 with
      clock := { s0.clock with released := some s0.now, lastStart := ⟨s0.now, false⟩ }
      pipelines := s0.pipelines.map fun p => { p with raster := none } }

/-- The part becomes READY, the receivers are enabled, and the idle timer may start (R126, R179, R182). -/
def endInitialisation (s : State) : State :=
  keepIdleTimer (enableReceiver .b (enableReceiver .a (s.setPartState .ready)))

/-- INITIALISATION_END (R179). It follows a release, in INITIALIZING. -/
def execInitialisationEnd (t : Nat) (s : State) : Host.Outcome State Fault Refusal :=
  let s0 := s.advance t
  if clockRuns s && s.part.state == .initializing then .next (latchEdges s0 (endInitialisation s0)) else .next s0

/-! ### SOFT_RESET (R162, R163) -/

/-- The option byte: true for KEEP_SETTINGS (R162). -/
def keepSettingsOf (b : Byte) : Option Bool :=
  match b.toNat with
  | 0 => some false
  | 1 => some true
  | _ => none

/-- The engine's queues, results and reserved places are emptied (R162). -/
def Engine.emptyQueues (e : Engine) : Engine :=
  { e with commands := ⟨[], []⟩, results := ⟨[], []⟩, reserved := ⟨0, 0⟩ }

/-- The enables after SOFT_RESET; every flag is clear (R163, R169, R178). -/
def FlagUnit.softReset (keep : Bool) (u : FlagUnit) : FlagUnit := if keep then { u with flags := 0 } else FlagUnit.reset

/-- An accepted SOFT_RESET on every block. The flags are cleared after every other effect, and the edges of the event
leave none set (R163, R178). -/
def softReset (keep : Bool) (s : State) : State :=
  let s1 := softResetPart keep (softResetScheduler (resetTables s))
  { s1 with engine := s1.engine.emptyQueues, flagUnit := s1.flagUnit.softReset keep }

/-- SOFT_RESET (R162). -/
def softResetOwner (_ : Link) (p : Packet) (s : State) : Reply :=
  match keepSettingsOf (p.u8 0) with
  | none => .refuse .badParam []
  | some keep => .accept (softReset keep s) []

/-- A taken SOFT_RESET packet and its result. A refusal changes no level and an acceptance clears every flag, so no edge
is left to latch. -/
def runSoftReset (l : Link) (p : Packet) (s : State) : State :=
  settle l p s (generalChecks (p.payload.length == 1) false p (softResetOwner l p s))

/-- SOFT_RESET (R162, R156). -/
def execSoftReset (t : Nat) (s : State) : Host.Outcome State Fault Refusal :=
  match nextPacket s with
  | none => .next (s.advance t)
  | some (l, p, rest) =>
    if p.code == 0x7E#8 then .next (runSoftReset l p (dequeue l rest (s.advance t))) else .next (s.advance t)

end Sys2Proof.Machine
end

