-- ==== Sys2Proof/Machine/LineSampling.lean ====
section
/-!
DEFINITION. The samplers of the sync line (R56, R57) and of the service line (R188). A sample that ends a sync word or
that changes the taken level of the service line puts its event on the command queue (log entry 6).
-/
namespace Sys2Proof.Machine

open Sys2Proof

/-- The samples that must agree before a taken level changes (R56, R188). -/
def agreeing : Nat := 4

/-- A taken level and the number of samples in a row that differ from it, after one more sample. -/
def filterSample (level : Bool) (differing : Nat) (sample : Bool) : Bool × Nat :=
  if sample = level then (level, 0)
  else if differing + 1 < agreeing then (level, differing + 1)
  else (sample, 0)

/-! ### The sync line, 10 MHz -/

/-- 8 µs in samples (R57). -/
def restSamples : Nat := 80

/-- 1 µs in samples. -/
def cellSamples : Nat := 10

/-- 48 µs in samples: the mark, counted from the start of cell 0. -/
def wordSamples : Nat := 480

/-- How long the taken level has been low, up to the 8 µs of rest, after a sample that leaves it at `level`. -/
def lowRunAfter (d : LineDecoder) (level : Bool) : Nat :=
  if level || d.level then 0 else min restSamples (d.lowRun + 1)

/-- The cells of a word, the latest first, as its 48 bits. -/
def cellsWord (cells : List Bool) : BitVec 48 := (BitVec.ofBoolListLE cells).setWidth 48

/-- The reception state after a sample that leaves the taken level at `level` and the low run at `lowRun`, with the word
that ends at this sample (R57). -/
def receptionAfter (d : LineDecoder) (level : Bool) (lowRun : Nat) : Reception × Option (BitVec 48) :=
  match d.reception with
  | .waitingForRest => (if restSamples ≤ lowRun then .ready else .waitingForRest, none)
  | .ready => (if level && !d.level then .receiving 0 [] else .ready, none)
  | .receiving elapsed cells =>
    let e := elapsed + 1
    let taken := if e % cellSamples = 5 then level :: cells else cells
    if e < wordSamples then (.receiving e taken, none) else (.waitingForRest, some (cellsWord taken))

/-- One sample of the sync line. While reset is held it is not sampled. -/
def sampleSync (sample : Bool) (s : State) : State :=
  if clockRuns s then
    let d := s.clock.line
    let (level, differing) := filterSample d.level d.differing sample
    let lowRun := lowRunAfter d level
    let (reception, word) := receptionAfter d level lowRun
    let s1 := { s with clock := { s.clock with line := ⟨level, differing, lowRun, reception⟩ } }
    match word with
    | none => s1
    | some w => { s1 with pending := .syncWord s.now w :: s1.pending }
  else s

/-! ### The service line, 1 kHz -/

/-- One sample of the service line. The decoder is held in INITIALIZING. -/
def sampleService (sample : Bool) (s : State) : State :=
  if decoderRuns s then
    let d := s.part.decoder
    let (level, differing) := filterSample d.level d.differing sample
    let s1 := s.setDecoder { d with differing := differing }
    match d.level, level with
    | true, false => { s1 with pending := .serviceTakenFall s.now :: s1.pending }
    | false, true => { s1 with pending := .serviceTakenRise s.now :: s1.pending }
    | true, true | false, false => s1
  else s

/-- What a step does when no command waits: it takes one line sample, or nothing if none waits (log entry 6). -/
def sampleTick (s : State) : State :=
  match s.samples with
  | [] => s
  | x :: rest =>
    let s1 := ({ s with samples := rest } : State).advance x.time
    match x.line with
    | .sync => sampleSync x.level s1
    | .service => sampleService x.level s1

end Sys2Proof.Machine
end

