-- ==== Sys2Proof/Machine/Render.lean ====
section
/-!
DEFINITION. What an output port sends: the choice of source, the pixel path and the patterns, in exact arithmetic, and
the code sent for every component of every pixel of a raster (R72, R76 to R89). Nothing here is state: it is a function
of the raster record that each period start makes.
-/
namespace Sys2Proof.Machine

open Sys2Proof

/-! ### The source of an image (R78) -/

/-- What a whole raster shows. -/
inductive Source where
  | black
  | content
  | pattern (kind : PatternKind) (level : Word16)
deriving DecidableEq, Repr

/-- The first row of the table of R78 that applies. -/
def Snapshot.source (n : Snapshot) : Source :=
  match n.part, n.service, n.pattern with
  | .initializing, _, _ | .standby _, _, _ | .waking _, _, _ => .black
  | .ready, .dark _, _ => .black
  | .ready, .grid _, _ => .pattern .dotGrid 0xFFFF#16
  | .ready, .none, some p => .pattern p.kind p.level
  | .ready, .none, none => if n.output.showing then .content else .black

/-! ### Grids over the raster (R11, R80) -/

/-- The nearest whole number, halves upward. -/
def roundHalfUp (q : Rat) : Int := (q + 1 / 2).floor

/-- The cell of a pixel: its top-left node and the place within it (R80). -/
structure GridCell where
  i0 : Nat
  j0 : Nat
  fx : Rat
  fy : Rat

/-- The position of a pixel coordinate among the nodes of one axis: x·(GX − 1)/(W − 1). -/
def nodePosition (x nodes size : Nat) : Rat := (x : Rat) * ((nodes : Rat) - 1) / ((size : Rat) - 1)

/-- The node at or before a position, not the last node of the axis (R80). -/
def lowerNode (p : Rat) (nodes : Nat) : Nat := min p.floor.toNat (nodes - 2)

def gridCell (g : Grid) (f : Format) (x y : Nat) : GridCell :=
  let px := nodePosition x g.gx f.width
  let py := nodePosition y g.gy f.height
  let i0 := lowerNode px g.gx
  let j0 := lowerNode py g.gy
  ⟨i0, j0, px - i0, py - j0⟩

/-- The bilinear weights of R81 over the corners of a cell. -/
def GridCell.blend (c : GridCell) (v : Nat → Nat → Rat) : Rat :=
  (1 - c.fx) * (1 - c.fy) * v c.i0 c.j0 + c.fx * (1 - c.fy) * v (c.i0 + 1) c.j0
    + (1 - c.fx) * c.fy * v c.i0 (c.j0 + 1) + c.fx * c.fy * v (c.i0 + 1) (c.j0 + 1)

/-- Some corner of the cell has the property. -/
def GridCell.anyCorner (c : GridCell) (p : Nat → Nat → Bool) : Bool :=
  p c.i0 c.j0 || p (c.i0 + 1) c.j0 || p c.i0 (c.j0 + 1) || p (c.i0 + 1) (c.j0 + 1)

/-! ### Node records (R9, R10, R196) -/

/-- The bytes of a field of node (i, j), nodes of `size` bytes. -/
def Table.field (t : Table) (size i j offset width : Nat) : List Byte :=
  (t.bytes.drop ((j * t.grid.gx + i) * size + offset)).take width

/-- The u code of a warp node. -/
def Table.uCode (t : Table) (i j : Nat) : Int := (BitVec.ofNat 32 (beNat (t.field 8 i j 0 4))).toInt

/-- The v code of a warp node. -/
def Table.vCode (t : Table) (i j : Nat) : Int := (BitVec.ofNat 32 (beNat (t.field 8 i j 4 4))).toInt

/-- The node is masked (R9). -/
def Table.masked (t : Table) (i j : Nat) : Bool := t.uCode i j == -(2 ^ 31)

/-- The gain of a blend node. -/
def Table.gain (t : Table) (i j : Nat) : Rat := (beNat (t.field 4 i j 0 2) : Rat) / 65535

/-- The lift of a blend node. -/
def Table.lift (t : Table) (i j : Nat) : Rat := (beNat (t.field 4 i j 2 2) : Rat) / 65535 / 16

/-! ### Warp (R80, R81) -/

/-- The source point of a pixel; none in a masked cell. -/
def sourcePoint (n : Snapshot) (x y : Nat) : Option (Rat × Rat) :=
  match n.warp with
  | none => some (x, y)
  | some t =>
    let c := gridCell t.grid n.format x y
    if c.anyCorner t.masked then none
    else
      some ((roundHalfUp (c.blend fun i j => t.uCode i j) : Rat) / 256,
        (roundHalfUp (c.blend fun i j => t.vCode i j) : Rat) / 256)

/-! ### Sampling (R82) -/

/-- The sample at (u, v) of a source of the given size: 0 outside the source raster. -/
def sampleAt (width height : Nat) (code : Nat → Nat → Rat) (u v : Rat) : Rat :=
  if u < 0 ∨ (width : Rat) - 1 < u ∨ v < 0 ∨ (height : Rat) - 1 < v then 0
  else GridCell.blend ⟨u.floor.toNat, v.floor.toNat, u - u.floor, v - v.floor⟩ code

/-- The three colour components. -/
inductive Component where
  | red
  | green
  | blue
deriving DecidableEq, Repr

def Pixel.code (p : Pixel) : Component → Word16
  | .red => p.red
  | .green => p.green
  | .blue => p.blue

/-- The code of a source pixel of a frame. A pixel outside the frame is not read: its weight is 0 (R82). -/
def Frame.code (f : Frame) (c : Component) (a b : Nat) : Rat :=
  (((f.lines.getD b []).getD a ⟨0, 0, 0⟩).code c).toNat

/-- The sample of the shown frame. A snapshot that shows content has one. -/
def frameSample (n : Snapshot) (c : Component) (u v : Rat) : Rat :=
  match n.frame with
  | none => 0
  | some f => sampleAt f.width f.height (f.code c) u v

/-- The linear value of a sampled code (R83). -/
noncomputable def linearOf (e : FrameEncoding) (code : Rat) : ℝ :=
  match e with
  | .gamma10 => ((code : ℝ) / 1023) ^ (2.4 : ℝ)
  | .lin16 => (code : ℝ) / 65535

/-- The linear sample of the shown frame. -/
noncomputable def frameLinear (n : Snapshot) (c : Component) (u v : Rat) : ℝ :=
  match n.frame with
  | none => 0
  | some f => linearOf f.encoding (frameSample n c u v)

/-- The linear value of a level code. -/
def levelValue (level : Word16) : Rat := (level.toNat : Rat) / 65535

/-- The synthetic frame of SOURCE_GRID: lines one pixel wide, 64 pixels apart (R88). -/
def gridSourceValue (level : Word16) (a b : Nat) : Rat := if a % 64 = 0 ∨ b % 64 = 0 then levelValue level else 0

/-! ### Blend (R84) -/

/-- The gain of one bank at a pixel; 1 for an EMPTY bank (R12). -/
def gainOf (t : Option Table) (f : Format) (x y : Nat) : Rat :=
  match t with
  | none => 1
  | some t => (gridCell t.grid f x y).blend t.gain

/-- The lift of one bank at a pixel; 0 for an EMPTY bank (R12). -/
def liftOf (t : Option Table) (f : Format) (x y : Nat) : Rat :=
  match t with
  | none => 0
  | some t => (gridCell t.grid f x y).blend t.lift

/-- The value of the active bank mixed with that of the shadow by the fade weight k/N. -/
def mixFade (fade : Option FadeMix) (value : Option Table → Rat) (active : Option Table) : Rat :=
  match fade with
  | none => value active
  | some m =>
    let w := (m.fade.step : Rat) / m.fade.length
    w * value active + (1 - w) * value m.shadow

/-- The blend gain g. -/
def blendGain (n : Snapshot) (x y : Nat) : Rat := mixFade n.fade (fun t => gainOf t n.format x y) n.blend

/-- The lift l. -/
def blendLift (n : Snapshot) (x y : Nat) : Rat := mixFade n.fade (fun t => liftOf t n.format x y) n.blend

/-! ### Combination and encoding (R85, R86) -/

/-- Clamped to 0 to 1. -/
noncomputable def clampLinear (l : ℝ) : ℝ := max 0 (min 1 l)

/-- The linear output value of a pixel from its linear sample and a source weight. -/
noncomputable def combine (n : Snapshot) (x y : Nat) (sample : ℝ) (ws : Rat) : ℝ :=
  clampLinear ((sample * blendGain n x y * ((n.gain.toNat : ℝ) / 65535) + blendLift n x y) * ws)

/-- The highest code of an output encoding. -/
def maxCode : OutputEncoding → Nat
  | .gamma10 => 1023
  | .gamma12 => 4095

/-- The code that exact arithmetic gives. -/
noncomputable def exactCode (e : OutputEncoding) (l : ℝ) : Nat := ⌊(maxCode e : ℝ) * l ^ (1 / 2.4 : ℝ) + 1 / 2⌋₊

/-- The code sent: the exact one, or one that differs from it by one (R86, log entry 3). -/
noncomputable def sentCode (e : OutputEncoding) (l : ℝ) : Nat :=
  min (maxCode e) (exactCode e l + (Config.codeOffset (e == .gamma12) l).val - 1)

/-! ### Patterns (R87 to R89) -/

/-- The node grid whose dots DOT_GRID draws: the warp grid, or 8 × 8 (R87). -/
def dotGridOf (n : Snapshot) : Grid :=
  match n.warp with
  | some t => t.grid
  | none => ⟨8, 8⟩

/-- The pixel coordinate nearest to node `i` of an axis. -/
def dotCentre (i nodes size : Nat) : Int := roundHalfUp ((i : Rat) * ((size : Rat) - 1) / ((nodes : Rat) - 1))

/-- A coordinate lies on a dot of an axis: on a node's pixel or beside it. -/
def onDot (x nodes size : Nat) : Bool :=
  (List.range nodes).any fun i => decide (((x : Int) - dotCentre i nodes size).natAbs ≤ 1)

/-- The pixel lies on a dot. -/
def inDots (n : Snapshot) (x y : Nat) : Bool :=
  onDot x (dotGridOf n).gx n.format.width && onDot y (dotGridOf n).gy n.format.height

/-- The linear value of a pixel of a pattern; none where the pixel is code 0. -/
noncomputable def patternLinear (n : Snapshot) (kind : PatternKind) (level : Word16) (x y : Nat) : Option ℝ :=
  match kind with
  | .dotGrid => if inDots n x y then some (levelValue level) else none
  | .sourceGrid =>
    (sourcePoint n x y).map fun (u, v) =>
      combine n x y (sampleAt n.format.width n.format.height (gridSourceValue level) u v) 1
  | .flat => some (combine n x y (levelValue level) 1)
  | .blendView => some (clampLinear (blendGain n x y))

/-- The linear value of a component of a pixel; none where the pixel is code 0 (R78, R80). -/
noncomputable def pixelLinear (n : Snapshot) (c : Component) (x y : Nat) : Option ℝ :=
  match n.source with
  | .black => none
  | .content => (sourcePoint n x y).map fun (u, v) => combine n x y (frameLinear n c u v) n.ws
  | .pattern kind level => patternLinear n kind level x y

/-- The code sent for a component of a pixel of an image. -/
noncomputable def Snapshot.code (n : Snapshot) (c : Component) (x y : Nat) : Nat :=
  match pixelLinear n c x y with
  | none => 0
  | some l => sentCode n.format.encoding l

/-! ### The raster as sent (R72, R76, R77) -/

/-- A line is at or after a marked line. -/
def fromLine (mark : Option Nat) (y : Nat) : Bool :=
  match mark with
  | none => false
  | some m => m ≤ y

/-- The snapshot with which line `y` is rendered: without the fade mix from the line of R77 on. -/
def Raster.lineSnapshot (r : Raster) (y : Nat) : Snapshot :=
  if fromLine r.unmixedFrom y then { r.snapshot with fade := none } else r.snapshot

/-- The code sent for a component of pixel (x, y) of a raster: 0 from the line of R76 on. -/
noncomputable def Raster.code (r : Raster) (c : Component) (x y : Nat) : Nat :=
  if fromLine r.blackFrom y then 0 else (r.lineSnapshot y).code c x y

/-- What an output port sends at a moment: a line of its raster, or blanking (R72). -/
inductive PortOutput where
  | blanking
  | line (y : Nat)
deriving DecidableEq, Repr

/-- What output port `o` sends at the present time. -/
def portOutput (s : State) (o : Out) : PortOutput :=
  match (s.pipelines.get o).raster with
  | none => .blanking
  | some r => if r.lineAt s.now < r.snapshot.format.height then .line (r.lineAt s.now) else .blanking

end Sys2Proof.Machine
end

