-- ==== Sys2Proof/Machine/Dispatch.lean ====
section
/-!
DEFINITION. `exec`: one arm for every row of the opcode table, each one call of its meaning.
-/
namespace Sys2Proof.Machine

open Sys2Proof

def exec (i : Instr) (s : State) : Host.Outcome State Fault Refusal :=
  match i with
  | .tableOpen t => Sys2Proof.Machine.execTableOpen t s
  | .tableData t => Sys2Proof.Machine.execTableData t s
  | .tableClose t => Sys2Proof.Machine.execTableClose t s
  | .tableDiscard t => Sys2Proof.Machine.execTableDiscard t s
  | .swap t => Sys2Proof.Machine.execSwap t s
  | .gain t => Sys2Proof.Machine.execGain t s
  | .cueAdd t => Sys2Proof.Machine.execCueAdd t s
  | .cueCancel t => Sys2Proof.Machine.execCueCancel t s
  | .cueFlush t => Sys2Proof.Machine.execCueFlush t s
  | .report t => Sys2Proof.Machine.execReport t s
  | .route t => Sys2Proof.Machine.execRoute t s
  | .select t => Sys2Proof.Machine.execSelect t s
  | .configLock t => Sys2Proof.Machine.execConfigLock t s
  | .configUnlock t => Sys2Proof.Machine.execConfigUnlock t s
  | .setOutput t => Sys2Proof.Machine.execSetOutput t s
  | .flagsArm t => Sys2Proof.Machine.execFlagsArm t s
  | .flagsClear t => Sys2Proof.Machine.execFlagsClear t s
  | .status t => Sys2Proof.Machine.execStatus t s
  | .pattern t => Sys2Proof.Machine.execPattern t s
  | .patternEnd t => Sys2Proof.Machine.execPatternEnd t s
  | .standbyEnter t => Sys2Proof.Machine.execStandbyEnter t s
  | .standbyExit t => Sys2Proof.Machine.execStandbyExit t s
  | .standbyDelay t => Sys2Proof.Machine.execStandbyDelay t s
  | .softReset t => Sys2Proof.Machine.execSoftReset t s
  | .unknownCommand t => Sys2Proof.Machine.execUnknownCommand t s
  | .powerOnReset t => Sys2Proof.Machine.execPowerOnReset t s
  | .resetPin t => Sys2Proof.Machine.execResetPin t s
  | .resetRelease t => Sys2Proof.Machine.execResetRelease t s
  | .initialisationEnd t => Sys2Proof.Machine.execInitialisationEnd t s
  | .syncWord t cells => Sys2Proof.Machine.execSyncWord t cells s
  | .generatorStart => Sys2Proof.Machine.execGeneratorStart s
  | .trackingWindowClose => Sys2Proof.Machine.execTrackingWindowClose s
  | .syncAcquisitionTimeout => Sys2Proof.Machine.execSyncAcquisitionTimeout s
  | .douserTimerExpiry o => Sys2Proof.Machine.execDouserTimerExpiry o s
  | .openTimerExpiry o => Sys2Proof.Machine.execOpenTimerExpiry o s
  | .signalPresent t l => Sys2Proof.Machine.execSignalPresent t l s
  | .signalAbsent t l => Sys2Proof.Machine.execSignalAbsent t l s
  | .signalLost l => Sys2Proof.Machine.execSignalLost l s
  | .frameDelimiter t l => Sys2Proof.Machine.execFrameDelimiter t l s
  | .frameHeader t l bytes => Sys2Proof.Machine.execFrameHeader t l bytes s
  | .pixelLine t l bytes => Sys2Proof.Machine.execPixelLine t l bytes s
  | .managementPacket t l bytes => Sys2Proof.Machine.execManagementPacket t l bytes s
  | .linkAcquisitionTimeout l => Sys2Proof.Machine.execLinkAcquisitionTimeout l s
  | .lossLimitExpiry l => Sys2Proof.Machine.execLossLimitExpiry l s
  | .quietTimerExpiry l => Sys2Proof.Machine.execQuietTimerExpiry l s
  | .verificationEnd t o k => Sys2Proof.Machine.execVerificationEnd t o k s
  | .idleTimerExpiry => Sys2Proof.Machine.execIdleTimerExpiry s
  | .wakingTimerExpiry => Sys2Proof.Machine.execWakingTimerExpiry s
  | .patternExpiry o => Sys2Proof.Machine.execPatternExpiry o s
  | .groupTimerExpiry => Sys2Proof.Machine.execGroupTimerExpiry s
  | .overrideTimerExpiry => Sys2Proof.Machine.execOverrideTimerExpiry s
  | .serviceTakenFall t => Sys2Proof.Machine.execServiceTakenFall t s
  | .serviceTakenRise t => Sys2Proof.Machine.execServiceTakenRise t s

end Sys2Proof.Machine
end

