-- ==== Sys2Proof/Machine/Step.lean ====
section
/-!
DEFINITION. One step of the part: the command at the front of the queue, or one line sample, or nothing.
-/
namespace Sys2Proof.Machine

open Sys2Proof

/-- One step. The command at the front of the queue is taken and executed on the state with the rest of the queue. With
no command waiting, one line sample is taken, or the part idles (log entry 6). -/
def step (s : State) : Host.Outcome State Fault Refusal :=
  match s.pending with
  | c :: rest => exec c { s with pending := rest }
  | [] => .next (sampleTick s)

/-- The state with the command that a table word spells at the front of its queue; unchanged where the word spells
none. -/
def State.withFetchWord (s : State) (nbits w : Nat) : State :=
  match decodeTableWord nbits w with
  | none => s
  | some c => { s with pending := c :: s.pending }

end Sys2Proof.Machine
end

