-- ==== Sys2Proof/Safety.lean ====
section
/-!
DEFINITION. What the statements name beside the model: what stands on the lines, bit by bit, the codes of the fields, the
sizes and the check of a table image, the invariants that the part keeps in every step, and what it means for an event to
be taken on time.
-/
namespace Sys2Proof.Machine

open Sys2Proof

/-! ### What stands on the lines (R58, R107, R193, R194) -/

/-- The bits of a field in the order in which they are sent, most significant first. -/
def bitsSent {w : Nat} (x : BitVec w) : List Bool := (List.range w).map x.getMsbD

/-- One bit enters a check register: the register shifts by one place, and takes the generator polynomial when the bit
that leaves it differs from the one that enters. -/
def checkStep {w : Nat} (polynomial register : BitVec w) (bit : Bool) : BitVec w :=
  if register.msb = bit then register <<< 1 else (register <<< 1) ^^^ polynomial

/-- The CRC-8 of R58, over bits in the order sent: x^8 + x^2 + x + 1, from 0. -/
def wordCheck (bits : List Bool) : Byte := bits.foldl (checkStep 0x07#8) 0#8

/-- The CRC-16 of R107, over bits in the order sent: x^16 + x^12 + x^5 + 1, from 0xFFFF. -/
def streamCheck (bits : List Bool) : Word16 := bits.foldl (checkStep 0x1021#16) 0xFFFF#16

/-- The 48 cells of the sync word with number `n`: the preamble, the number and the check (R58, R193). -/
def syncWordOf (n : Period) : BitVec 48 := 0xB5#8 ++ n ++ wordCheck (bitsSent (0xB5#8 ++ n))

/-- The code of a frame encoding (R192). -/
def FrameEncoding.code : FrameEncoding → Byte
  | .gamma10 => 0
  | .lin16 => 1

/-- The twelve bytes are the good header `h`: its fields within their ranges, each at its offset, and the check over them
(R107, R193). -/
def Header.carriedBy (h : Header) (bytes : BitVec 96) : Prop :=
  640 ≤ h.width ∧ h.width ≤ 4096 ∧ 480 ≤ h.height ∧ h.height ≤ 2400 ∧ h.packets ≤ 24 ∧
    let fields : BitVec 80 := h.target ++ BitVec.ofNat 16 h.width ++ BitVec.ofNat 16 h.height
      ++ h.encoding.code ++ BitVec.ofNat 8 h.packets
    bytes = fields ++ streamCheck (bitsSent fields)

/-- Bytes with the check behind them that closes every packet (R119, R194). -/
def withCheck (head : List Byte) : List Byte := head ++ beBytes 2 (streamCheck (head.flatMap bitsSent)).toNat

/-- The bytes of a packet before its check (R194). -/
def Packet.head (p : Packet) : List Byte :=
  [p.code, p.mask] ++ beBytes 2 p.tag.toNat ++ beBytes 2 p.payload.length ++ p.payload

/-! ### The codes of the fields of a command (R192) -/

/-- The table kind that a byte names. -/
def tableKindOf (b : Byte) : Option Kind := [(1, .warp), (2, .blend)].lookup b.toNat

/-- The kinds that a byte names: bit 0 is WARP, bit 1 is BLEND, and a byte that names neither is no kinds. -/
def swapKindsOf (b : Byte) : Option Kinds :=
  [(1, ⟨true, false⟩), (2, ⟨false, true⟩), (3, ⟨true, true⟩)].lookup b.toNat

/-- The route link that a byte names; NONE is a link that is absent. -/
def routeLinkNamed (b : Byte) : Option (Option Link) := [(0, none), (1, some .a), (2, some .b)].lookup b.toNat

/-- The revert policy that a byte names. -/
def revertNamed (b : Byte) : Option RevertPolicy := [(0, .auto), (1, .manual)].lookup b.toNat

/-- The role that a byte of SELECT names. -/
def roleNamed (b : Byte) : Option Role := [(1, .primary), (2, .backup)].lookup b.toNat

/-- The mode that a byte of CONFIG_LOCK names; the code of NONE names none (R194). -/
def lockNamed (b : Byte) : Option Lock := [(1, .normal), (2, .oneWay)].lookup b.toNat

/-- The output encoding that a byte names. -/
def outputEncodingNamed (b : Byte) : Option OutputEncoding := [(0, .gamma10), (1, .gamma12)].lookup b.toNat

/-- The pattern kind that a byte names. -/
def patternKindNamed (b : Byte) : Option PatternKind :=
  [(1, .dotGrid), (2, .sourceGrid), (3, .flat), (4, .blendView)].lookup b.toNat

/-! ### Table images (R5, R9, R10, R18, R196) -/

/-- The largest number of nodes a side for the kind. -/
def gridMost : Kind → Nat
  | .warp => 65
  | .blend => 129

/-- A grid size that the kind may have. -/
abbrev gridSizeOk (k : Kind) (g : Grid) : Prop := 2 ≤ g.gx ∧ g.gx ≤ gridMost k ∧ 2 ≤ g.gy ∧ g.gy ≤ gridMost k

/-- The number of bytes of an image: 8 a node for WARP, 4 for BLEND. -/
def imageSize (k : Kind) (g : Grid) : Nat :=
  match k with
  | .warp => g.gx * g.gy * 8
  | .blend => g.gx * g.gy * 4

/-- The check register of R18 after the bytes of an image: from all ones, the least significant bit of each byte first.
-/
def imageRegister (bytes : List Byte) : Word32 :=
  (bytes.flatMap fun b => (bitsSent b).reverse).foldl (checkStep 0x04C11DB7#32) 0xFFFFFFFF#32

/-- The CRC-32 of an image: the register complemented. As the least significant bit of a byte enters first, the
coefficient of the highest power is the least significant bit of the result: R196 gives the CRC of a text. -/
def imageCheck (bytes : List Byte) : Word32 := ~~~(imageRegister bytes).reverse

/-! ### Queues and lists (R38, R49, R151, R159, R160) -/

/-- The bank is VERIFYING with the link as loader. -/
def Bank.verifyingBy (l : Link) : Bank → Bool
  | .verifying ld _ _ => ld.loader == l
  | .empty | .loading _ | .ready _ => false

/-- The number of a pair's banks that are VERIFYING with the link as loader. -/
def BankPair.verifications (l : Link) (p : BankPair) : Nat :=
  (if p.bank0.verifyingBy l then 1 else 0) + (if p.bank1.verifyingBy l then 1 else 0)

/-- The number of verifications whose results the link awaits. -/
def verifications (l : Link) (s : State) : Nat :=
  (s.pair .out0 .warp).verifications l + (s.pair .out0 .blend).verifications l
    + (s.pair .out1 .warp).verifications l + (s.pair .out1 .blend).verifications l

/-- A cue entry within the ranges of R38. -/
def Cue.ok (c : Cue) : Prop :=
  c.id ≠ 0 ∧ (c.mask.out0 || c.mask.out1) = true ∧
    match c.action with
    | .swap ks fade => (ks.warp || ks.blend) = true ∧ fade ≤ 250 ∧ (fade ≠ 0 → ks.warp = false)
    | .gain _ ramp => ramp ≤ 1000

/-- Every queue and list keeps within its places, each link has one reserved place for each of its closes whose
verification has not ended, the cues are within their ranges, and no two of them share a cue id. -/
def QueuesOk (s : State) : Prop :=
  (∀ l : Link, (s.engine.commands.get l).length ≤ commandPlaces
    ∧ (s.engine.results.get l).length + s.engine.reserved.get l ≤ resultPlaces
    ∧ s.engine.reserved.get l = verifications l s)
  ∧ s.cues.length ≤ cuePlaces ∧ s.outcomes.length ≤ outcomePlaces
  ∧ (∀ c ∈ s.cues, c.ok) ∧ (s.cues.map Cue.id).Nodup

/-! ### Banks, pins, swaps and fades (R4, R5, R7, R30, R32) -/

/-- A bank record is as R5 has it for its state. -/
def Bank.ok (k : Kind) : Bank → Prop
  | .empty => True
  | .loading ld => gridSizeOk k ld.grid ∧ ld.bytes.length ≤ imageSize k ld.grid
  | .verifying ld _ _ => gridSizeOk k ld.grid ∧ ld.bytes.length = imageSize k ld.grid
  | .ready t => gridSizeOk k t.grid ∧ t.bytes.length = imageSize k t.grid ∧ imageCheck t.bytes = t.imageCrc

/-- A blend fade in flight on the pair; a WARP pair has none. -/
def fadeOn (s : State) (o : Out) (k : Kind) : Bool :=
  match k with
  | .warp => false
  | .blend => (s.fades.get o).isSome

/-- One pair: its active bank is EMPTY or READY, its pin is held exactly while a pending swap or a blend fade is in
flight, never both, a pending swap has a READY shadow, and a pinned shadow is not in a load. -/
def PairOk (s : State) (o : Out) (k : Kind) : Prop :=
  (s.pair o k).bank0.ok k ∧ (s.pair o k).bank1.ok k
  ∧ (s.pair o k).activeBank.inLoad = false
  ∧ (s.pair o k).pin = ((s.pendingSwaps.at2 o k).isSome || fadeOn s o k)
  ∧ ((s.pendingSwaps.at2 o k).isSome && fadeOn s o k) = false
  ∧ ((s.pendingSwaps.at2 o k).isSome = true → (s.pair o k).shadow.table.isSome = true)
  ∧ ((s.pair o k).pin = true → (s.pair o k).shadow.inLoad = false)

/-- A blend fade has a length of 1 to 250 and a step of 1 to its length (R32). -/
def Fade.ok (f : Fade) : Prop := 1 ≤ f.step ∧ f.step ≤ f.length ∧ f.length ≤ 250

def BanksOk (s : State) : Prop :=
  (∀ (o : Out) (k : Kind), PairOk s o k)
  ∧ (∀ (o : Out) (k : Kind), ∀ n ∈ s.pendingSwaps.at2 o k, n ≤ 250)
  ∧ (∀ o : Out, ∀ f ∈ s.fades.get o, f.ok)
  ∧ ∀ c ∈ s.cues, match c.action with
    | .swap _ fade => fade ≤ 250
    | .gain _ _ => True

/-! ### The Period Clock (R63 to R67) -/

/-- The clock in each of its states. -/
def ClockStateOk (c : Clock) : Prop :=
  match c.state with
  | .unsynced | .freerun _ => True
  | .acquiring _ mark expires => expires = mark + syncAcquisitionTime
  | .tracking _ opens closes =>
    c.misses < missLimit ∧ opens = c.lastStart.time + c.period - c.period / 16
      ∧ closes = c.lastStart.time + c.period + c.period / 16

/-- P lies in 4,000 to 42,000 µs, the miss count in 0 to 65,535, the tracking window is the one that R63 sets, the clock
keeps its reset values while reset is held, and neither the last start nor the release lies in the future. -/
def ClockOk (s : State) : Prop :=
  4000 ≤ s.clock.period ∧ s.clock.period ≤ 42000 ∧ s.clock.misses ≤ maxMisses
  ∧ ClockStateOk s.clock
  ∧ (s.clock.released = none → s.clock = Clock.reset)
  ∧ s.clock.lastStart.time ≤ s.now
  ∧ (∀ t ∈ s.clock.released, t ≤ s.now)

/-! ### The Frame Store (R90 to R96) -/

/-- The sizes that a header may name (R107). -/
def sizeOk (width height : Nat) : Prop := 640 ≤ width ∧ width ≤ 4096 ∧ 480 ≤ height ∧ height ≤ 2400

/-- Every line has one pixel for each column. -/
def Frame.linesOk (f : Frame) : Prop := ∀ line ∈ f.lines, line.length = f.width

/-- The frame body that a port is reading. -/
def FrameProgress.bodyOf : FrameProgress → Option FrameBody
  | .body b => some b
  | .none | .awaitingHeader | .headerLost | .skipping => Option.none

/-- A slot: a COMPLETE frame has all its lines; a FILLING one is the frame that its port, LOCKED, is reading, has as many
lines as the port has counted, and its target lies in D to D + 16. -/
def SlotOk (s : State) (i : SlotId) : Prop :=
  match s.slot i with
  | .free => True
  | .complete f _ => sizeOk f.width f.height ∧ f.linesOk ∧ f.lines.length = f.height
  | .filling f =>
    sizeOk f.width f.height ∧ f.linesOk ∧ f.lines.length < f.height
    ∧ (s.ports.get i.link).state.isLocked = true
    ∧ (match (s.ports.get i.link).frame.bodyOf with
      | none => False
      | some b => b.lines = f.lines.length ∧ b.header.width = f.width ∧ b.header.height = f.height)
    ∧ (match s.dome with
      | none => False
      | some d => (f.target - d).toNat ≤ 16)

/-- The frame that a port is reading came with a good header, and its counts keep within it. -/
def BodyOk (p : Port) : Prop :=
  ∀ b ∈ p.frame.bodyOf,
    sizeOk b.header.width b.header.height ∧ b.header.packets ≤ 24
    ∧ b.lines ≤ b.header.height ∧ b.packets ≤ b.header.packets

/-- While the part is INITIALIZING no port receives (R126). -/
def PortsHeld (s : State) : Prop :=
  s.part.state = .initializing → ∀ l : Link, (s.ports.get l).state = .off ∧ (s.ports.get l).frame = .none

/-- Slots hold what R90 gives them, a link fills one slot at a time (R91), no two slots of a link hold one target (R92),
and a lead history holds at most 64 leads of 1 to 16 (R96). -/
def StoreOk (s : State) : Prop :=
  PortsHeld s
  ∧ (∀ i : SlotId, SlotOk s i)
  ∧ (∀ l : Link, BodyOk (s.ports.get l))
  ∧ (∀ (l : Link) (i j : SlotIndex), (s.slot ⟨l, i⟩).isFilling = true → (s.slot ⟨l, j⟩).isFilling = true → i = j)
  ∧ (∀ (l : Link) (i j : SlotIndex), (s.slot ⟨l, i⟩).target.isSome = true →
      (s.slot ⟨l, i⟩).target = (s.slot ⟨l, j⟩).target → i = j)
  ∧ (∀ l : Link, (s.store.get l).leads.length ≤ leadPlaces ∧ ∀ n ∈ (s.store.get l).leads, 1 ≤ n ∧ n ≤ 16)

/-! ### Outputs, viewers and standby (R98, R127, R131 to R138, R142, R144, R148, R180) -/

/-- A route record within the ranges of R127, as R128 accepts it. -/
def Route.ok (r : Route) : Prop :=
  r.settle ≤ 60 ∧ 1 ≤ r.threshold ∧ r.threshold ≤ 8 ∧ 2 ≤ r.holdover ∧ r.holdover ≤ 250 ∧ r.fadeIn ≤ 250
  ∧ r.fadeOut ≤ 250 ∧ r.douserDelay ≤ 60000 ∧ r.douserOpen ≤ 5000 ∧ r.threshold ≤ r.holdover
  ∧ (r.primary = none → r.backup = none) ∧ (r.backup ≠ none → r.backup ≠ r.primary)

/-- What an output that shows nothing holds. -/
def Controller.showsNothing (c : Controller) : Prop := c.role = none ∧ c.held = none ∧ c.ws = 0 ∧ c.starved = 0

/-- What an output that shows a frame holds: a role whose link the route names, a held slot, and its request released. -/
def Controller.showsFrame (c : Controller) : Prop :=
  (∃ role, c.role = some role ∧ c.route.link role ≠ none) ∧ c.held.isSome = true ∧ c.douser = false
  ∧ c.douserTimer = none ∧ c.openTimer = .stopped

/-- The record would change the primary of an output that is not DARK, or the backup of one that shows it (R128). -/
def changesShown (r : Route) (c : Controller) : Bool :=
  c.state != .dark && (r.primary != c.route.primary || (c.role == some .backup && r.backup != c.route.backup))

/-- An output in each of its states; a pending route would still pass the NOT_DARK test of R128. -/
def Controller.ok (c : Controller) : Prop :=
  c.route.ok ∧ (∀ r ∈ c.pendingRoute, r.ok ∧ changesShown r c = false) ∧
    match c.state with
    | .dark => c.showsNothing ∧ c.openTimer = .stopped ∧ (c.douser = true → c.douserTimer = none)
    | .opening => c.showsNothing ∧ c.openTimer ≠ .stopped ∧ c.douser = false ∧ c.douserTimer = none
    | .live => c.showsFrame ∧ c.ws = 1 ∧ c.starved = 0
    | .holding => c.showsFrame ∧ c.ws = 1 ∧ 1 ≤ c.starved ∧ c.starved < 250
    | .fadingIn => c.showsFrame ∧ 0 < c.ws ∧ c.ws < 1 ∧ c.starved < 250
    | .fadingOut => c.showsFrame ∧ 0 < c.ws ∧ c.ws < 1 ∧ c.starved ≤ 250

/-- The output is a viewer of the slot. -/
def Slot.viewedBy (o : Out) : Slot → Bool
  | .complete _ v => v.get o
  | .free | .filling _ => false

/-- The output's douser timer runs only without a pattern, and the slots it views are the one it holds. -/
def OutputOk (s : State) (o : Out) : Prop :=
  (s.controllers.get o).ok
  ∧ ((s.part.patterns.get o).isSome = true → (s.controllers.get o).douserTimer = none)
  ∧ ∀ i : SlotId, ((s.slot i).viewedBy o = true ↔ (s.controllers.get o).held = some i)

/-- A DARK output whose request is released has a douser timer that will assert it, or a pattern on it (section 7.2).
Every event keeps this but SOFT_RESET, which ends the pattern and leaves the controller as it was (R149, log entry 10).
-/
def DouserTimed (s : State) (o : Out) : Prop :=
  (s.controllers.get o).state = .dark → (s.controllers.get o).douser = false →
    (s.controllers.get o).douserTimer.isSome = true ∨ (s.part.patterns.get o).isSome = true

/-- The outputs are DARK with their requests asserted, every slot is FREE and no pattern is on. -/
def AllDark (s : State) : Prop :=
  (∀ o : Out, (s.controllers.get o).isDark = true ∧ (s.controllers.get o).douser = true
    ∧ s.part.patterns.get o = none)
  ∧ ∀ i : SlotId, (s.slot i).isFree = true

/-- No command waits in the engine and no link is in use. -/
def LinksOff (s : State) : Prop :=
  ∀ l : Link, s.engine.commands.get l = [] ∧ (s.ports.get l).state = .off ∧ (s.ports.get l).frame = .none

/-- The part in each of its states, with the idle timer of R182. -/
def PartOk (s : State) : Prop :=
  s.part.standbyDelay ≤ 3600
  ∧ s.part.idleTimer.isSome = idleCondition s
  ∧ match s.part.state with
    | .initializing => AllDark s ∧ LinksOff s ∧ s.part.decoder = ServiceDecoder.reset ∧ s.part.service = .none
    | .standby _ | .waking _ => AllDark s
    | .ready => True

def OutputsOk (s : State) : Prop := PartOk s ∧ ∀ o : Out, OutputOk s o

/-! ### Time -/

/-- The times at which the running timers of the part expire. -/
def deadlines (s : State) : List Nat :=
  let clock := match s.clock.state with
    | .acquiring _ _ e => [e]
    | .tracking _ _ closes => [closes]
    | .unsynced | .freerun _ => []
  let link := fun l : Link =>
    (s.ports.get l).signalLoss.toList ++
      match (s.ports.get l).state with
      | .seeking e | .aligned e _ | .holdover e _ | .quiet e => [e]
      | .off | .locked _ _ => []
  let output := fun o : Out =>
    (s.controllers.get o).douserTimer.toList ++ ((s.part.patterns.get o).map Pattern.expires).toList ++
      match (s.controllers.get o).openTimer with
      | .running e => [e]
      | .stopped | .expired => []
  let part := match s.part.state with
    | .waking e => [e]
    | .initializing | .ready | .standby _ => []
  let service := match s.part.service with
    | .dark e | .grid e => [e]
    | .none => []
  clock ++ (generatorDue s.clock).toList ++ link .a ++ link .b ++ output .out0 ++ output .out1
    ++ s.part.idleTimer.toList ++ part ++ service ++ s.part.decoder.timer.toList

/-- An event at time `t` is taken on time: no running timer was due before it. A run in which every event is taken on
time is one in which every timer has its effect at its expiry (log entry 2). -/
def OnTime (s : State) (t : Nat) : Prop := s.now ≤ t ∧ ∀ e ∈ deadlines s, t ≤ e

end Sys2Proof.Machine
end

