-- ==== Sys2Proof/Certificates/Slice0/Obligations.lean ====
section
/-!
DEFINITION. The statements for the provers, each a proposition about `exec`, `step` or one named operation. Where a
statement says what a command answers, the answer is the whole next state: what it does not name is unchanged.
-/
namespace Sys2Proof.Machine

open Sys2Proof

/-! ### What the statements are written with -/

/-- The engine takes the packet `p` of link `l` and places the result `st` with `payload`; nothing else changes
(R154, R157, R158). -/
def answered (s : State) (t : Nat) (l : Link) (p : Packet) (rest : List Packet) (st : Status)
    (payload : List Byte) : State :=
  { s with
    now := max s.now t
    engine := { s.engine with
      commands := s.engine.commands.set l rest
      arbiter := l
      results := s.engine.results.set l (s.engine.results.get l ++ [⟨p.code, st, p.tag, payload⟩]) } }

/-- The engine takes a packet of link `l` and reserves a place for its result (R160). -/
def deferred (s : State) (t : Nat) (l : Link) (rest : List Packet) : State :=
  { s with
    now := max s.now t
    engine := { s.engine with
      commands := s.engine.commands.set l rest
      arbiter := l
      reserved := s.engine.reserved.set l (s.engine.reserved.get l + 1) } }

/-- A value for every bank pair. -/
def forPairs {α : Type} (f : Out → Kind → α) : PerOut (PerKind α) :=
  ⟨⟨f .out0 .warp, f .out0 .blend⟩, ⟨f .out1 .warp, f .out1 .blend⟩⟩

/-- A value for every output. -/
def forOuts {α : Type} (f : Out → α) : PerOut α := ⟨f .out0, f .out1⟩

/-- A mask and kinds name a pair (R29). -/
def namesPair (m : Mask) (ks : Kinds) (o : Out) (k : Kind) : Bool := m.get o && ks.has k

/-- Some pair has the property. -/
def somePair (f : Out → Kind → Bool) : Bool := f .out0 .warp || f .out0 .blend || f .out1 .warp || f .out1 .blend

/-- A row of the table of R156: the command, its code, the payload lengths it allows, and whether it is a channel
command. -/
structure CommandRow where
  command : Nat → Instr
  code : Byte
  allows : Nat → Bool
  channel : Bool

/-- The table of R156, with the codes of R194. The three actions of STANDBY are three rows of the opcode table. -/
def commandTable : List CommandRow :=
  [⟨.tableOpen, 0x11, (· == 11), true⟩, ⟨.tableData, 0x12, fun n => 6 ≤ n && n ≤ 240, true⟩,
   ⟨.tableClose, 0x13, (· == 1), true⟩, ⟨.tableDiscard, 0x14, (· == 1), true⟩, ⟨.swap, 0x21, (· == 2), true⟩,
   ⟨.gain, 0x22, (· == 4), true⟩, ⟨.cueAdd, 0x23, (· == 12), true⟩, ⟨.cueCancel, 0x24, (· == 1), false⟩,
   ⟨.cueFlush, 0x25, (· == 0), false⟩, ⟨.report, 0x26, (· == 0), false⟩] ++
  [⟨.route, 0x31, (· == 12), true⟩, ⟨.select, 0x32, (· == 1), true⟩, ⟨.configLock, 0x33, (· == 1), false⟩,
   ⟨.configUnlock, 0x34, (· == 0), false⟩, ⟨.setOutput, 0x38, (· == 5), true⟩, ⟨.flagsArm, 0x41, (· == 6), false⟩,
   ⟨.flagsClear, 0x42, (· == 3), false⟩, ⟨.status, 0x43, (· == 0), false⟩, ⟨.pattern, 0x51, (· == 5), true⟩,
   ⟨.patternEnd, 0x52, (· == 0), true⟩] ++
  [⟨.standbyEnter, 0x53, (· == 3), false⟩, ⟨.standbyExit, 0x53, (· == 3), false⟩,
   ⟨.standbyDelay, 0x53, (· == 3), false⟩, ⟨.softReset, 0x7E, (· == 1), false⟩]

/-- No cue is due when the dome count is `d`. -/
def noCueDue (d : Period) (s : State) : Prop := ∀ c ∈ s.cues, atOrBefore c.target d = false

/-- The flags after one event that raised the events whose condition numbers are listed: those, and the edges that the
event made in the levels, each by its enable (R167, R168, R170). -/
def flagsLatched (s s' : State) (events : List Nat) : Prop :=
  s'.flagUnit.rising = s.flagUnit.rising ∧ s'.flagUnit.falling = s.flagUnit.falling
  ∧ ∀ n : Nat, n < 24 → s'.flagUnit.flags.getLsbD n =
      (s.flagUnit.flags.getLsbD n
        || (s.flagUnit.rising.getLsbD n &&
            (events.contains n || (!(levels s).getLsbD n && (levels s').getLsbD n)))
        || (s.flagUnit.falling.getLsbD n && (levels s).getLsbD n && !(levels s').getLsbD n))

/-- The Frame Store after the FILLING slot of a link, if it has one, is freed with a cause (R95). -/
def fillingDropped (s : State) (l : Link) (cause : DropCause) : PerLink LinkStore :=
  match fillingIndex s l with
  | none => s.store
  | some i =>
    s.store.set l { s.store.get l with slots := (s.store.get l).slots.set i .free, lastDrop := cause }

/-- The events of a link's frame that ends: a packet being received is rejected, a frame being filled is dropped. -/
def rejectsAndDrops (s : State) (l : Link) : List Nat :=
  (if (s.ports.get l).frame.inPacket then [(Event.mgmtReject l).number] else [])
    ++ (if (fillingIndex s l).isSome then [(Event.frameDrop l).number] else [])

/-- The slot holds a frame that is COMPLETE and that the start keeps. -/
def Slot.kept (d : Period) : Slot → Bool
  | .free => false
  | .filling f => (f.target - d).toNat ≤ 16
  | .complete f v => !noViewers v || (f.target - d).toNat ≤ 16

/-- The idle timer at `s'` is the one that R182 leaves after an event that found it at `was`: it starts with the full
delay when its condition comes to hold, runs on while it holds, and is stopped when it does not. -/
def followsIdleRule (was : Option Nat) (s' : State) : Prop :=
  s'.part.idleTimer =
    if s'.part.state = .ready ∧ s'.ports.a.state.isIdle = true ∧ s'.ports.b.state.isIdle = true
        ∧ s'.part.standbyDelay ≠ 0 then
      match was with
      | some e => some e
      | none => some (s'.now + 1000000 * s'.part.standbyDelay)
    else none

/-- The port hears its line at `now`: its signal is present, or signal lost falls at this instant and is not yet taken
(R125, log entry 29). -/
def hearsLine (p : Port) (now : Nat) : Prop := p.signal = true ∨ ∃ e, p.signalLoss = some e ∧ e ≤ now

/-- The port hears its line and waits for a header that will be judged. -/
def awaitsHeader (p : Port) (now : Nat) : Prop := hearsLine p now ∧ p.frame = .awaitingHeader

/-- Twelve bytes are a bad header: they carry no good one (R107). -/
def badHeaderBytes (bytes : BitVec 96) : Prop := ∀ h : Header, ¬h.carriedBy bytes

/-- The port takes these bytes as a line of the frame body `b`: they are as long as a line, and the frame is whole and
has lines to come, or it is the frame's last line at the instant of signal lost, before that is taken (R94, R104, log
entry 29). -/
def lineTaken (p : Port) (now : Nat) (b : FrameBody) (bytes : List Byte) : Prop :=
  bytes.length = 6 * b.header.width ∧
    ((p.signal = true ∧ b.broken = false ∧ b.lines < b.header.height)
      ∨ (p.signal = false ∧ (∃ e, p.signalLoss = some e ∧ e ≤ now) ∧ b.parsed = true
        ∧ b.lines + 1 = b.header.height))

/-- The port takes bytes as those of the management area of the frame body `b` (R119). -/
def packetDue (p : Port) (b : FrameBody) : Prop :=
  p.frame = .body b ∧ p.signal = true ∧ b.parsed = true ∧ b.broken = false ∧ b.lines = b.header.height
  ∧ b.packets < b.header.packets

/-- A bank after the start's verifications: one that has seen no start has seen one, and one that has seen one has ended
by its CRC (R18, R19). -/
def verifiedBank : Bank → Bank
  | .verifying ld tag 0 => .verifying ld tag 1
  | .verifying ld _ (_ + 1) =>
    if imageCheck ld.bytes = ld.expected then .ready ⟨ld.grid, ld.label, imageCheck ld.bytes, ld.bytes⟩ else .empty
  | .empty => .empty
  | .loading ld => .loading ld
  | .ready w => .ready w

/-- A bank after the reset pin or SOFT_RESET: what was not READY is EMPTY (R26, R27). -/
def keptBank : Bank → Bank
  | .ready w => .ready w
  | .empty | .loading _ | .verifying _ _ _ => .empty

/-- The bank is LOADING from the link (R22). -/
def loadingFrom (l : Link) : Bank → Bool
  | .loading ld => decide (ld.loader = l)
  | .empty | .verifying _ _ _ | .ready _ => false

/-- A bank after its loader link has entered QUIET: a load from that link is lost, a verification goes on (R22). -/
def withoutLoad (l : Link) (b : Bank) : Bank := if loadingFrom l b then .empty else b

/-- The blend fade of an output after the fades' step and the pending swaps of a start (R30, R33). -/
def fadeAtStart (s : State) (o : Out) : Option Fade :=
  match s.pendingSwaps.at2 o .blend, s.fades.get o with
  | some n, _ => if n = 0 then none else some ⟨n, 1⟩
  | none, some f => if f.step < f.length then some { f with step := f.step + 1 } else none
  | none, none => none

/-- The pairs, fades and pending swaps as the Cue Scheduler's steps 1 and 2 leave them at a start that gives D, the
verifications ended before (R18, R28, R30, R33). -/
def fadesAndSwapsDone (s : State) : State :=
  { s with
    pairs := forPairs fun o k =>
      { bank0 := verifiedBank (s.pair o k).bank0
        bank1 := verifiedBank (s.pair o k).bank1
        active := if (s.pendingSwaps.at2 o k).isSome then (s.pair o k).active.other else (s.pair o k).active
        pin := k == .blend && (fadeAtStart s o).isSome }
    fades := forOuts (fadeAtStart s)
    pendingSwaps := forPairs fun _ _ => none }

/-- One ramp step of R36, with halves away from zero. -/
def rampStepped (r : Ramp) : Ramp :=
  if r.remaining = 0 then r
  else
    { r with
      gain := BitVec.ofInt 16 (r.gain.toNat + roundDiv ((r.target.toNat : Int) - r.gain.toNat) r.remaining)
      remaining := r.remaining - 1 }

/-- The line after the one that a raster is sending at `now`: H lines over the first 15/16 of P (R72, R76). -/
def lineAfter (r : Raster) (now : Nat) : Nat := (now - r.start) * 16 * r.snapshot.format.height / (15 * r.period) + 1

/-- The earlier of the line already marked, if there is one, and a new one. -/
def markedFrom (old : Option Nat) (line : Nat) : Option Nat := some ((old.map (min line)).getD line)

/-- A reset waits that falls at or before `now`: a start that falls at `now` is then not made (R71, log entry 28). -/
def resetDue (s : State) (now : Nat) : Bool :=
  s.pending.any fun c =>
    match c with
    | .powerOnReset t | .resetPin t => decide (t ≤ now)
    | _ => false

/-- The results, for link `l`, of the verifications that must end at a start: those that have already seen one, in pair
order (R18, log entries 11 and 25). -/
def endedAtStart (s : State) (l : Link) : List Result :=
  allPairs.filterMap fun ok =>
    match (s.pair ok.1 ok.2).shadow with
    | .verifying ld tag (_ + 1) =>
      if ld.loader = l then
        some ⟨0x13, if imageCheck ld.bytes = ld.expected then .ok else .crcMismatch, tag,
          beBytes 4 (imageCheck ld.bytes).toNat⟩
      else none
    | _ => none

/-- The controller of an output after its pattern has ended: a DARK one whose request is released starts its douser
timer (R144, R186), or asserts the request at once for a delay of 0 (the model's choice here, log entry 30). -/
def afterPattern (s : State) (now : Nat) (o : Out) : Controller :=
  let c := s.controllers.get o
  if (s.part.patterns.get o).isSome && c.state == .dark && !c.douser then
    if c.route.douserDelay = 0 then { c with douser := true, douserTimer := none }
    else { c with douserTimer := some (now + 1000 * c.route.douserDelay) }
  else c

/-- The controller as it enters DARK at a start: it shows nothing, and its douser timer starts, or its request is
asserted at once for a delay of 0, unless a pattern is on the output (R142, R144). -/
def enteredDark (v : StartView) (c : Controller) : Controller :=
  { c with
    state := .dark, role := none, held := none, ws := 0, starved := 0, openTimer := .stopped
    douser := !v.patternOn && decide (c.route.douserDelay = 0)
    douserTimer :=
      if v.patternOn = true ∨ c.route.douserDelay = 0 then none else some (v.now + 1000 * c.route.douserDelay) }

/-- The controller of an output after its three steps at a start, and whether it raises STARVED (R130, R138, R140,
R141): a pending route comes into force; a pending select comes into force on an output that shows a frame and whose new
route names the role, and is dropped otherwise; then the rule of the output's state, except in STANDBY and WAKING and at
a start that gives no D. -/
def controllerLeft (s : State) (o : Out) : Controller × Bool :=
  let c := s.controllers.get o
  let routed := match c.pendingRoute with
    | none => c
    | some r => { c with route := r, pendingRoute := none }
  let settled := match routed.route.primary with
    | none => false
    | some l =>
      match (s.ports.get l).state with
      | .locked _ since => decide (1000000 * routed.route.settle ≤ s.now - since)
      | _ => false
  let ruled := fun (x : Controller) (selected : Bool) =>
    if s.part.state.inStandby = true ∨ s.dome = none then (x, false)
    else
      x.stateRule
        { now := s.now, frames := ⟨frameForD s .a, frameForD s .b⟩, settled := settled
          patternOn := (s.part.patterns.get o).isSome, selected := selected }
  match c.pendingSelect with
  | none => ruled routed false
  | some role =>
    if c.state ≠ .dark ∧ c.state ≠ .opening ∧ (routed.route.link role).isSome = true then
      ruled { routed with pendingSelect := none, role := some role } true
    else ruled { routed with pendingSelect := none } false

/-- The table of a READY bank; a bank in another state is none (R4, R75). -/
def readyTable : Bank → Option Table
  | .ready w => some w
  | .empty | .loading _ | .verifying _ _ _ => none

/-- The snapshot of R75: every value as its owner's record holds it. -/
def snapshotAt (s : State) (o : Out) : Snapshot where
  format := (s.pipelines.get o).format
  output := (s.controllers.get o).state
  slot := (s.controllers.get o).held
  frame := match (s.controllers.get o).held with
    | none => none
    | some i =>
      match s.slot i with
      | .complete f _ => some f
      | _ => none
  ws := (s.controllers.get o).ws
  warp := readyTable ((s.pair o .warp).bank (s.pair o .warp).active)
  blend := readyTable ((s.pair o .blend).bank (s.pair o .blend).active)
  fade := match s.fades.get o with
    | none => none
    | some f => some ⟨f, readyTable ((s.pair o .blend).bank (s.pair o .blend).active.other)⟩
  gain := (s.ramps.get o).gain
  part := s.part.state
  service := s.part.service
  pattern := s.part.patterns.get o

/-- The codes with which the state word carries states (R192). -/
def stateWordCodes : Prop :=
  (∀ (k : StandbyKind) (e : Nat),
    [PartState.initializing, .ready, .standby k, .waking e].map PartState.code = [0, 1, 2, 3])
  ∧ (∀ (d : Period) (x y : Nat),
    [ClockState.unsynced, .acquiring d x y, .tracking d x y, .freerun d].map ClockState.code = [0, 1, 2, 3])
  ∧ (∀ x y : Nat,
    [LinkState.off, .seeking x, .aligned x y, .locked x y, .holdover x y, .quiet x].map LinkState.code = [0, 1, 2, 3, 4, 5])
  ∧ [OutputState.dark, .opening, .fadingIn, .live, .holding, .fadingOut].map OutputState.code = [0, 1, 2, 3, 4, 5]
  ∧ [none, some Role.primary, some .backup].map roleCode = [0, 1, 2]
  ∧ ∀ e : Nat, [Override.none, .dark e, .grid e].map Override.code = [0, 1, 2]

/-- The bytes from `offset` on begin with the field. -/
def fieldAt (bytes : List Byte) (offset : Nat) (field : List Byte) : Prop :=
  (bytes.drop offset).take field.length = field

/-- The 11 bytes of a bank block: state, GX, GY, label, image CRC; an absent field is 0 (R24, R196). -/
def bankFields : Bank → List Byte
  | .empty => List.replicate 11 0
  | .loading ld =>
    [1, BitVec.ofNat 8 ld.grid.gx, BitVec.ofNat 8 ld.grid.gy] ++ beBytes 4 ld.label.toNat ++ [0, 0, 0, 0]
  | .verifying ld _ _ =>
    [2, BitVec.ofNat 8 ld.grid.gx, BitVec.ofNat 8 ld.grid.gy] ++ beBytes 4 ld.label.toNat ++ [0, 0, 0, 0]
  | .ready w =>
    [3, BitVec.ofNat 8 w.grid.gx, BitVec.ofNat 8 w.grid.gy] ++ beBytes 4 w.label.toNat ++ beBytes 4 w.imageCrc.toNat

/-- The weighted sum of R81 over the corners of a cell. -/
def bilinear (c : GridCell) (value : Nat → Nat → Rat) : Rat :=
  (1 - c.fx) * (1 - c.fy) * value c.i0 c.j0 + c.fx * (1 - c.fy) * value (c.i0 + 1) c.j0
    + (1 - c.fx) * c.fy * value c.i0 (c.j0 + 1) + c.fx * c.fy * value (c.i0 + 1) (c.j0 + 1)

/-- The whole raster shows content (the last row of R78). -/
def showsContent (n : Snapshot) : Prop :=
  n.part = .ready ∧ n.service = .none ∧ n.pattern = none ∧ n.output.showing = true

/-- The whole raster shows a pattern: DOT_GRID at full level under the GRID override, or the pattern on the output
(R78). -/
def showsPattern (n : Snapshot) (kind : PatternKind) (level : Word16) : Prop :=
  n.part = .ready ∧
    (((∃ e, n.service = .grid e) ∧ kind = .dotGrid ∧ level = 0xFFFF#16)
      ∨ (n.service = .none ∧ ∃ p, n.pattern = some p ∧ p.kind = kind ∧ p.level = level))

/-- The linear output value of R85, from the linear sample and the source weight. -/
noncomputable def outputValue (n : Snapshot) (x y : Nat) (sample : ℝ) (ws : Rat) : ℝ :=
  max 0 (min 1 ((sample * blendGain n x y * ((n.gain.toNat : ℝ) / 65535) + blendLift n x y) * ws))

/-- Every output is DARK with its request asserted, nothing held, its timers stopped and no pattern on it. -/
def outputsForcedDark (s : State) : Prop :=
  ∀ o : Out, (s.controllers.get o).showsNothing ∧ (s.controllers.get o).state = .dark
    ∧ (s.controllers.get o).douser = true ∧ (s.controllers.get o).douserTimer = none
    ∧ (s.controllers.get o).openTimer = .stopped ∧ (s.controllers.get o).pendingSelect = none
    ∧ s.part.patterns.get o = none

end Sys2Proof.Machine

open Sys2Proof Sys2Proof.Machine

/-! ### The queue -/

/-- A step takes the command at the front of the queue; with none waiting it takes one line sample, or nothing. The
sampling half is the model's own form of the two line samplers (log entry 6). -/
def Obligations.StepTakesTheFrontCommand : Prop :=
  (∀ (s : State) (c : Instr) (rest : List Instr), s.pending = c :: rest → step s = exec c { s with pending := rest })
  ∧ (∀ s : State, s.pending = [] → s.samples = [] → step s = .next s)
  ∧ ∀ (s : State) (x : LineSample) (rest : List LineSample), s.pending = [] → s.samples = x :: rest →
      step s = .next (sampleTick s)

/-- Every command answers a next state in every state: the model never stops (log entry 1). No command touches the
waiting inputs, and time never goes back. -/
def Obligations.EveryCommandAnswersANextState : Prop :=
  ∀ (c : Instr) (s : State), ∃ s', exec c s = .next s' ∧ s'.pending = s.pending ∧ s'.samples = s.samples
    ∧ s.now ≤ s'.now

/-! ### The Management Engine -/

/-- The general checks come before the owner, in the order code, length, mask. The packet taken is the first of the
queue of the link that the arbiter chooses, and none in INITIALIZING. The arbiter takes from a link that may be served,
and from the link that its pointer does not name if both may. The outputs that a mask names, and the fields of a
payload, most significant byte first. -/
def Obligations.GeneralChecksComeFirst : Prop :=
  (∀ (s : State) (t : Nat) (l : Link) (p : Packet) (rest : List Packet), nextPacket s = some (l, p, rest) →
      (∀ row ∈ commandTable, p.code ≠ row.code) →
      exec (.unknownCommand t) s = .next (answered s t l p rest .unknownCommand []))
  ∧ (∀ row ∈ commandTable, ∀ (s : State) (t : Nat) (l : Link) (p : Packet) (rest : List Packet),
      nextPacket s = some (l, p, rest) → p.code = row.code →
      (row.allows p.payload.length = false → exec (row.command t) s = .next (answered s t l p rest .badLength []))
      ∧ (row.allows p.payload.length = true → row.channel = true → p.noOutput = true →
          exec (row.command t) s = .next (answered s t l p rest .badParam [])))
  ∧ (∀ s : State, (s.part.state = .initializing → nextPacket s = none)
    ∧ (s.part.state ≠ .initializing →
      (s.engine.choose = none → nextPacket s = none)
      ∧ ∀ (l : Link) (p : Packet) (rest : List Packet), s.engine.choose = some l → s.engine.commands.get l = p :: rest →
          nextPacket s = some (l, p, rest)))
  ∧ (∀ p : Packet, p.outputs = ⟨p.mask.getLsbD 0, p.mask.getLsbD 1⟩
    ∧ (p.noOutput = true ↔ p.outputs = ⟨false, false⟩)
    ∧ ∀ o : Out, p.oneOutput = some o ↔ p.outputs = PerOut.set ⟨false, false⟩ o true)
  ∧ (∀ (p : Packet) (i : Nat),
    (∀ x : Byte, fieldAt p.payload i [x] → p.u8 i = x)
    ∧ (∀ x : Word16, fieldAt p.payload i (beBytes 2 x.toNat) → p.u16 i = x)
    ∧ (∀ x : BitVec 24, fieldAt p.payload i (beBytes 3 x.toNat) → p.u24 i = x)
    ∧ ∀ x : Word32, fieldAt p.payload i (beBytes 4 x.toNat) → p.u32 i = x)
  ∧ ∀ e : Engine,
    (∀ l : Link, e.mayServe l = true ↔
      (e.commands.get l ≠ [] ∧ (e.results.get l).length + e.reserved.get l < 8))
    ∧ (e.mayServe .a = true → e.mayServe .b = true → e.choose = some (otherLink e.arbiter))
    ∧ (∀ l : Link, e.mayServe l = true → e.mayServe (otherLink l) = false → e.choose = some l)
    ∧ (e.mayServe .a = false → e.mayServe .b = false → e.choose = none)

/-- A refused command places its result, moves the arbiter pointer and changes nothing else. -/
def Obligations.RefusalPlacesOnlyItsResult : Prop :=
  ∀ row ∈ commandTable, ∀ (s s' : State) (t : Nat) (l : Link) (p : Packet) (rest : List Packet) (st : Status)
    (payload : List Byte),
    nextPacket s = some (l, p, rest) → exec (row.command t) s = .next s' →
    s'.engine.results.get l = s.engine.results.get l ++ [⟨p.code, st, p.tag, payload⟩] → st ≠ .ok →
    s' = answered s t l p rest st payload

/-! ### Correction tables -/

/-- TABLE_OPEN, with every refusal of its owner in order. -/
def Obligations.TableOpenStartsALoad : Prop :=
  ∀ (s : State) (t : Nat) (l : Link) (p : Packet) (rest : List Packet), nextPacket s = some (l, p, rest) →
    p.code = 0x11#8 → p.payload.length = 11 → p.noOutput = false →
    exec (.tableOpen t) s = .next (
      match p.oneOutput, tableKindOf (p.u8 0) with
      | some o, some k =>
        if ¬gridSizeOk k ⟨(p.u8 1).toNat, (p.u8 2).toNat⟩ then answered s t l p rest .badParam []
        else if (s.pair o k).shadow.inLoad then answered s t l p rest .busy []
        else if (s.pair o k).pin then answered s t l p rest .busy []
        else
          stopMixing o k { answered s t l p rest .ok [] with
            pairs := s.pairs.set2 o k ((s.pair o k).setShadow
              (.loading ⟨⟨(p.u8 1).toNat, (p.u8 2).toNat⟩, p.u32 3, p.u32 7, l, []⟩)) }
      | _, _ => answered s t l p rest .badParam [])

/-- TABLE_DATA, with every refusal of its owner in order. -/
def Obligations.TableDataStoresInOrder : Prop :=
  ∀ (s : State) (t : Nat) (l : Link) (p : Packet) (rest : List Packet), nextPacket s = some (l, p, rest) →
    p.code = 0x12#8 → 6 ≤ p.payload.length → p.payload.length ≤ 240 → p.noOutput = false →
    exec (.tableData t) s = .next (
      match p.oneOutput, tableKindOf (p.u8 0) with
      | some o, some k =>
        match (s.pair o k).shadow with
        | .loading ld =>
          if ld.loader ≠ l then answered s t l p rest .notOwner []
          else if (p.u32 1).toNat ≠ ld.bytes.length then
            answered s t l p rest .outOfOrder (beBytes 4 ld.bytes.length)
          else if imageSize k ld.grid < (p.u32 1).toNat + (p.payload.length - 5) then
            answered s t l p rest .badLength []
          else
            { answered s t l p rest .ok [] with
              pairs := s.pairs.set2 o k ((s.pair o k).setShadow
                (.loading { ld with bytes := ld.bytes ++ p.payload.drop 5 })) }
        | _ => answered s t l p rest .notLoading []
      | _, _ => answered s t l p rest .badParam [])

/-- TABLE_CLOSE: an accepted one reserves a place and its bank is VERIFYING. The first start after it finds the
verification running (the model's choice of when it ends by itself: log entry 11); one that a second start finds running
ends before that start, by its CRC. Where several end there, their results follow in pair order (log entry 25). -/
def Obligations.TableCloseStartsVerification : Prop :=
  (∀ (s : State) (t : Nat) (l : Link) (p : Packet) (rest : List Packet), nextPacket s = some (l, p, rest) →
    p.code = 0x13#8 → p.payload.length = 1 → p.noOutput = false →
    exec (.tableClose t) s = .next (
      match p.oneOutput, tableKindOf (p.u8 0) with
      | some o, some k =>
        match (s.pair o k).shadow with
        | .loading ld =>
          if ld.loader ≠ l then answered s t l p rest .notOwner []
          else if ld.bytes.length < imageSize k ld.grid then
            answered s t l p rest .lengthMismatch (beBytes 4 ld.bytes.length)
          else
            { deferred s t l rest with
              pairs := s.pairs.set2 o k ((s.pair o k).setShadow (.verifying ld p.tag 0)) }
        | _ => answered s t l p rest .notLoading []
      | _, _ => answered s t l p rest .badParam []))
  ∧ ∀ before s : State,
    let s' := periodStart before s
    (∀ (o : Out) (k : Kind) (ld : Load) (tag : Word16) (starts : Nat),
      (s.pair o k).shadow = .verifying ld tag starts →
      (s'.pair o k).bank (s.pair o k).active.other =
        if starts = 0 then .verifying ld tag 1
        else if imageCheck ld.bytes = ld.expected then .ready ⟨ld.grid, ld.label, imageCheck ld.bytes, ld.bytes⟩
        else .empty)
    ∧ ∀ l : Link,
      s'.engine.results.get l = (s.engine.results.get l ++ endedAtStart s l).drop 4
      ∧ s'.engine.reserved.get l = s.engine.reserved.get l - (endedAtStart s l).length

/-- TABLE_DISCARD, for every state of the shadow. -/
def Obligations.TableDiscardEmptiesTheShadow : Prop :=
  ∀ (s : State) (t : Nat) (l : Link) (p : Packet) (rest : List Packet), nextPacket s = some (l, p, rest) →
    p.code = 0x14#8 → p.payload.length = 1 → p.noOutput = false →
    exec (.tableDiscard t) s = .next (
      match p.oneOutput, tableKindOf (p.u8 0) with
      | some o, some k =>
        let emptied := { answered s t l p rest .ok [] with
          pairs := s.pairs.set2 o k ((s.pair o k).setShadow .empty) }
        match (s.pair o k).shadow with
        | .empty => answered s t l p rest .ok []
        | .loading ld => if ld.loader ≠ l then answered s t l p rest .notOwner [] else emptied
        | .verifying _ _ _ => answered s t l p rest .busy []
        | .ready _ => if (s.pair o k).pin then answered s t l p rest .busy [] else stopMixing o k emptied
      | _, _ => answered s t l p rest .badParam [])

/-- VERIFICATION_END: READY by an equal CRC, EMPTY by another, and the deferred result in its reserved place. -/
def Obligations.VerificationEndDecidesByCrc : Prop :=
  ∀ (s : State) (t : Nat) (o : Out) (k : Kind) (ld : Load) (tag : Word16) (starts : Nat),
    (s.pair o k).shadow = .verifying ld tag starts →
    exec (.verificationEnd t o k) s = .next { s with
      now := max s.now t
      pairs := s.pairs.set2 o k ((s.pair o k).setShadow (
        if imageCheck ld.bytes = ld.expected then .ready ⟨ld.grid, ld.label, imageCheck ld.bytes, ld.bytes⟩ else .empty))
      engine := { s.engine with
        results := s.engine.results.set ld.loader (s.engine.results.get ld.loader ++
          [⟨0x13, if imageCheck ld.bytes = ld.expected then .ok else .crcMismatch, tag,
            beBytes 4 (imageCheck ld.bytes).toNat⟩])
        reserved := s.engine.reserved.set ld.loader (s.engine.reserved.get ld.loader - 1) } }

/-! ### Swaps, gains and cues -/

/-- SWAP: a pending-swap record and a pin for every pair that the mask and the kinds name. -/
def Obligations.SwapBooksEveryNamedPair : Prop :=
  ∀ (s : State) (t : Nat) (l : Link) (p : Packet) (rest : List Packet), nextPacket s = some (l, p, rest) →
    p.code = 0x21#8 → p.payload.length = 2 → p.noOutput = false →
    exec (.swap t) s = .next (
      match swapKindsOf (p.u8 0) with
      | none => answered s t l p rest .badParam []
      | some ks =>
        if 250 < (p.u8 1).toNat ∨ ((p.u8 1).toNat ≠ 0 ∧ ks.warp = true) then answered s t l p rest .badParam []
        else if somePair fun o k => namesPair p.outputs ks o k &&
            ((s.pendingSwaps.at2 o k).isSome || fadeOn s o k) then answered s t l p rest .busy []
        else if somePair fun o k => namesPair p.outputs ks o k && (s.pair o k).shadow.table.isNone then
          answered s t l p rest .notReady []
        else
          { answered s t l p rest .ok [] with
            pairs := forPairs fun o k =>
              if namesPair p.outputs ks o k then { s.pair o k with pin := true } else s.pair o k
            pendingSwaps := forPairs fun o k =>
              if namesPair p.outputs ks o k then some (if k = .blend then (p.u8 1).toNat else 0)
              else s.pendingSwaps.at2 o k })

/-- GAIN: the target and the remaining count of every output in the mask, G unchanged. -/
def Obligations.GainStartsARamp : Prop :=
  ∀ (s : State) (t : Nat) (l : Link) (p : Packet) (rest : List Packet), nextPacket s = some (l, p, rest) →
    p.code = 0x22#8 → p.payload.length = 4 → p.noOutput = false →
    exec (.gain t) s = .next (
      if 1000 < (p.u16 2).toNat then answered s t l p rest .badParam []
      else
        { answered s t l p rest .ok [] with
          ramps := forOuts fun o =>
            if p.outputs.get o then
              { s.ramps.get o with
                target := p.u16 0, remaining := if (p.u16 2).toNat = 0 then 1 else (p.u16 2).toNat }
            else s.ramps.get o })

/-- CUE_ADD, with every refusal of its owner in order; an inserted cue stands before the first entry with a later target,
and the others keep their order. The actions that R39 accepts, with their ranges, and the conflict of R41. -/
def Obligations.CueAddInsertsByTarget : Prop :=
  (∀ (s : State) (t : Nat) (l : Link) (p : Packet) (rest : List Packet), nextPacket s = some (l, p, rest) →
    p.code = 0x23#8 → p.payload.length = 12 → p.noOutput = false →
    exec (.cueAdd t) s = .next (
      match cueActionOf p with
      | none => answered s t l p rest .badParam []
      | some action =>
        let cue : Cue := ⟨p.u8 0, p.u32 1, p.outputs, action, l⟩
        if p.u8 0 = 0 then answered s t l p rest .badParam []
        else if 16 ≤ s.cues.length then answered s t l p rest .listFull []
        else if s.cues.any fun c => c.id == p.u8 0 then answered s t l p rest .duplicateId []
        else if (match s.dome with
            | some d => atOrBefore (p.u32 1) d
            | none => false) then answered s t l p rest .past []
        else if s.cues.any fun c => cue.conflicts c then answered s t l p rest .conflict []
        else { answered s t l p rest .ok [] with cues := insertCue cue s.cues }))
  ∧ (∀ (cue : Cue) (cues : List Cue), ∃ before after : List Cue,
      cues = before ++ after ∧ insertCue cue cues = before ++ cue :: after
      ∧ (∀ c ∈ before, laterThan c.target cue.target = false)
      ∧ ∀ c ∈ after.head?, laterThan c.target cue.target = true)
  ∧ (∀ p : Packet, cueActionOf p =
      if (p.u8 5).toNat = 1 then
        match swapKindsOf (p.u8 6) with
        | none => none
        | some ks =>
          if 250 < (p.u8 7).toNat ∨ ((p.u8 7).toNat ≠ 0 ∧ ks.warp = true) then none
          else some (.swap ks (p.u8 7).toNat)
      else if (p.u8 5).toNat = 2 then
        if 1000 < (p.u16 10).toNat then none else some (.gain (p.u16 8) (p.u16 10).toNat)
      else none)
  ∧ (∀ a b : Period, (atOrBefore a b = true ↔ (b - a).toNat < 2 ^ 31)
      ∧ (laterThan a b = true ↔ atOrBefore a b = false))
  ∧ ∀ x y : Cue, x.conflicts y = true ↔
      x.target = y.target ∧ (∃ o : Out, x.mask.get o = true ∧ y.mask.get o = true)
      ∧ ((∃ (a b : Kinds) (m n : Nat), x.action = .swap a m ∧ y.action = .swap b n
            ∧ ∃ k : Kind, a.has k = true ∧ b.has k = true)
        ∨ ∃ (g h : Word16) (m n : Nat), x.action = .gain g m ∧ y.action = .gain h n)

/-- CUE_CANCEL removes the entry with its id; CUE_FLUSH removes every entry. -/
def Obligations.CueCancelAndFlushRemoveEntries : Prop :=
  ∀ (s : State) (t : Nat) (l : Link) (p : Packet) (rest : List Packet), nextPacket s = some (l, p, rest) →
    (p.code = 0x24#8 → p.payload.length = 1 →
      exec (.cueCancel t) s = .next (
        if s.cues.any fun c => c.id == p.u8 0 then
          { answered s t l p rest .ok [] with cues := s.cues.filter fun c => c.id != p.u8 0 }
        else answered s t l p rest .noCue []))
    ∧ (p.code = 0x25#8 → p.payload.length = 0 →
      exec (.cueFlush t) s = .next { answered s t l p rest .ok [] with cues := [] })

/-- REPORT removes up to 8 records from the head of the outcome queue and returns them. An appended outcome goes to the
tail: the oldest of 16 is lost, and CUE_OUTCOME, CUE_FAULT and REPORT_LOST are raised as they apply. The 12 bytes of a
record, field by field. -/
def Obligations.OutcomesAreKeptAndReported : Prop :=
  (∀ (s : State) (t : Nat) (l : Link) (p : Packet) (rest : List Packet), nextPacket s = some (l, p, rest) →
    p.code = 0x26#8 → p.payload.length = 0 →
    exec (.report t) s = .next
      { answered s t l p rest .ok
          (BitVec.ofNat 8 (min 8 s.outcomes.length) :: (s.outcomes.take 8).flatMap CueRecord.bytes) with
        outcomes := s.outcomes.drop 8 })
  ∧ (∀ (r : CueRecord) (s : State), s.outcomes.length ≤ 16 →
      let s' := appendOutcome r s
      s'.outcomes = (if s.outcomes.length < 16 then s.outcomes else s.outcomes.drop 1) ++ [r]
      ∧ s'.outcomes.length ≤ 16
      ∧ s' = { s with outcomes := s'.outcomes, flagUnit := { s.flagUnit with flags := s'.flagUnit.flags } }
      ∧ ∀ n : Nat, n < 24 → s'.flagUnit.flags.getLsbD n =
          (s.flagUnit.flags.getLsbD n || (s.flagUnit.rising.getLsbD n &&
            (n == 19 || (n == 20 && r.result != .done) || (n == 21 && decide (s.outcomes.length = 16))))))
  ∧ ∀ r : CueRecord,
    let bit := fun (n : Nat) (applied : Bool) => if applied then 2 ^ n else 0
    r.bytes.length = 12
    ∧ fieldAt r.bytes 0 [r.id] ∧ fieldAt r.bytes 1 (beBytes 4 r.target.toNat)
    ∧ fieldAt r.bytes 5 (beBytes 4 r.fired.toNat)
    ∧ fieldAt r.bytes 9 [match r.origin with
        | .a => 1
        | .b => 2]
    ∧ fieldAt r.bytes 10 [BitVec.ofNat 8 (bit 0 r.applied.out0.warp + bit 1 r.applied.out0.blend
        + bit 2 r.applied.out1.warp + bit 3 r.applied.out1.blend)]
    ∧ fieldAt r.bytes 11 [match r.result with
        | .done => 0
        | .late => 1
        | .partly => 2
        | .notReady => 3]

/-! ### Routes, selection, lock and format -/

/-- ROUTE: the pending route of every output in the mask. A route record is accepted exactly within the ranges of R127,
and every field of an accepted one is the packet's. -/
def Obligations.RouteSetsThePendingRoute : Prop :=
  (∀ (s : State) (t : Nat) (l : Link) (p : Packet) (rest : List Packet), nextPacket s = some (l, p, rest) →
    p.code = 0x31#8 → p.payload.length = 12 → p.noOutput = false →
    exec (.route t) s = .next (
      match routeOf p with
      | none => answered s t l p rest .badParam []
      | some r =>
        if s.engine.lock ≠ .none then answered s t l p rest .locked []
        else if (p.outputs.out0 && changesShown r s.controllers.out0)
            || (p.outputs.out1 && changesShown r s.controllers.out1) then answered s t l p rest .notDark []
        else
          { answered s t l p rest .ok [] with
            controllers := forOuts fun o =>
              if p.outputs.get o then { s.controllers.get o with pendingRoute := some r } else s.controllers.get o }))
  ∧ (∀ (p : Packet) (r : Route), routeOf p = some r →
    r.ok ∧ routeLinkNamed (p.u8 0) = some r.primary ∧ routeLinkNamed (p.u8 1) = some r.backup
    ∧ revertNamed (p.u8 2) = some r.revert ∧ r.settle = (p.u8 3).toNat ∧ r.threshold = (p.u8 4).toNat
    ∧ r.holdover = (p.u8 5).toNat ∧ r.fadeIn = (p.u8 6).toNat ∧ r.fadeOut = (p.u8 7).toNat
    ∧ r.douserDelay = (p.u16 8).toNat ∧ r.douserOpen = (p.u16 10).toNat)
  ∧ ∀ (p : Packet) (primary backup : Option Link) (revert : RevertPolicy),
      routeLinkNamed (p.u8 0) = some primary → routeLinkNamed (p.u8 1) = some backup →
      revertNamed (p.u8 2) = some revert →
      Route.ok ⟨primary, backup, revert, (p.u8 3).toNat, (p.u8 4).toNat, (p.u8 5).toNat, (p.u8 6).toNat,
        (p.u8 7).toNat, (p.u16 8).toNat, (p.u16 10).toNat⟩ → (routeOf p).isSome = true

/-- SELECT, with every refusal of its owner in order. -/
def Obligations.SelectSetsThePendingSelect : Prop :=
  ∀ (s : State) (t : Nat) (l : Link) (p : Packet) (rest : List Packet), nextPacket s = some (l, p, rest) →
    p.code = 0x32#8 → p.payload.length = 1 → p.noOutput = false →
    exec (.select t) s = .next (
      match roleNamed (p.u8 0) with
      | none => answered s t l p rest .badParam []
      | some role =>
        if s.controllers.anyWhere p.outputs fun c => c.state == .dark || c.state == .opening then
          answered s t l p rest .wrongState []
        else if s.controllers.anyWhere p.outputs fun c => c.route.link role == none then
          answered s t l p rest .badParam []
        else if s.controllers.anyWhere p.outputs fun c =>
            match c.route.link role with
            | none => true
            | some x =>
              match (s.ports.get x).state with
              | .locked _ _ => false
              | _ => true then
          answered s t l p rest .notReady []
        else
          { answered s t l p rest .ok [] with
            controllers := forOuts fun o =>
              if p.outputs.get o then { s.controllers.get o with pendingSelect := some role }
              else s.controllers.get o })

/-- CONFIG_LOCK and CONFIG_UNLOCK, for every mode in force; the edges of CONFIG_LOCKED are latched. -/
def Obligations.ConfigLockFollowsItsTable : Prop :=
  ∀ (s : State) (t : Nat) (l : Link) (p : Packet) (rest : List Packet), nextPacket s = some (l, p, rest) →
    let pending := [Out.out0, .out1].any fun o =>
      (s.controllers.get o).pendingRoute.isSome || (s.pipelines.get o).pendingFormat.isSome
    let locked := fun m : Lock =>
      let s1 := answered s t l p rest .ok []
      latchEdges s { s1 with engine := { s1.engine with lock := m } }
    (p.code = 0x33#8 → p.payload.length = 1 →
      exec (.configLock t) s = .next (
        match lockNamed (p.u8 0), s.engine.lock with
        | none, _ => answered s t l p rest .badParam []
        | some m, .none => if pending then answered s t l p rest .busy [] else locked m
        | some m, .normal => locked m
        | some .oneWay, .oneWay => answered s t l p rest .ok []
        | some _, .oneWay => answered s t l p rest .locked []))
    ∧ (p.code = 0x34#8 → p.payload.length = 0 →
      exec (.configUnlock t) s = .next (
        match s.engine.lock with
        | .none => answered s t l p rest .ok []
        | .normal => locked .none
        | .oneWay => answered s t l p rest .locked []))

/-- SET_OUTPUT: the pending format of every output in the mask. -/
def Obligations.SetOutputSetsThePendingFormat : Prop :=
  ∀ (s : State) (t : Nat) (l : Link) (p : Packet) (rest : List Packet), nextPacket s = some (l, p, rest) →
    p.code = 0x38#8 → p.payload.length = 5 → p.noOutput = false →
    exec (.setOutput t) s = .next (
      match outputEncodingNamed (p.u8 4) with
      | none => answered s t l p rest .badParam []
      | some e =>
        if (p.u16 0).toNat < 640 ∨ 4096 < (p.u16 0).toNat ∨ (p.u16 2).toNat < 480 ∨ 2400 < (p.u16 2).toNat then
          answered s t l p rest .badParam []
        else if s.engine.lock ≠ .none then answered s t l p rest .locked []
        else if s.controllers.anyWhere p.outputs fun c => c.state != .dark then answered s t l p rest .notDark []
        else
          { answered s t l p rest .ok [] with
            pipelines := forOuts fun o =>
              if p.outputs.get o then
                { s.pipelines.get o with pendingFormat := some ⟨(p.u16 0).toNat, (p.u16 2).toNat, e⟩ }
              else s.pipelines.get o })

/-! ### Flags and STATUS -/

/-- FLAGS_ARM replaces both masks and changes no flag; FLAGS_CLEAR clears the flags its mask names. -/
def Obligations.FlagCommandsWriteTheFlagUnit : Prop :=
  ∀ (s : State) (t : Nat) (l : Link) (p : Packet) (rest : List Packet), nextPacket s = some (l, p, rest) →
    (p.code = 0x41#8 → p.payload.length = 6 →
      exec (.flagsArm t) s = .next { answered s t l p rest .ok [] with
        flagUnit := ⟨s.flagUnit.flags, p.u24 0, (p.u24 3).setWidth 12⟩ })
    ∧ (p.code = 0x42#8 → p.payload.length = 3 →
      exec (.flagsClear t) s = .next { answered s t l p rest .ok [] with
        flagUnit := { s.flagUnit with flags := s.flagUnit.flags &&& ~~~p.u24 0 } })

/-- What the twelve levels are, and the numbers of the twelve events. An edge sets its flag when its enable is set, an
event likewise; a flag that is set stays set through every command but FLAGS_CLEAR, SOFT_RESET and the two resets, and
only they and FLAGS_ARM change an enable. -/
def Obligations.FlagsLatchEnabledEdgesAndStay : Prop :=
  (∀ s : State,
    let level := fun n : Nat => (levels s).getLsbD n = true
    let onBackup := fun c : Controller => c.role = some .backup ∧ c.state ≠ .dark ∧ c.state ≠ .opening
    (level 0 ↔ ∃ bad since, s.ports.a.state = .locked bad since)
    ∧ (level 1 ↔ ∃ bad since, s.ports.b.state = .locked bad since)
    ∧ (level 2 ↔ ∃ d opens closes, s.clock.state = .tracking d opens closes)
    ∧ (level 3 ↔ onBackup s.controllers.out0) ∧ (level 4 ↔ onBackup s.controllers.out1)
    ∧ (level 5 ↔ s.controllers.out0.state = .dark) ∧ (level 6 ↔ s.controllers.out1.state = .dark)
    ∧ (level 7 ↔ (∃ kind, s.part.state = .standby kind) ∨ ∃ e, s.part.state = .waking e)
    ∧ (level 8 ↔ ∃ e, s.part.service = .dark e ∨ s.part.service = .grid e)
    ∧ (level 9 ↔ s.part.patterns.out0 ≠ none) ∧ (level 10 ↔ s.part.patterns.out1 ≠ none)
    ∧ (level 11 ↔ s.engine.lock = .normal ∨ s.engine.lock = .oneWay))
  ∧ [Event.syncJump, .linkFail .a, .linkFail .b, .mgmtReject .a, .mgmtReject .b, .frameDrop .a, .frameDrop .b, .cueOutcome,
      .cueFault, .reportLost, .loadLost, .starved].map Event.number = [12, 13, 14, 15, 16, 17, 18, 19, 20, 21, 22, 23]
  ∧ (∀ (s s' : State) (n : Nat), n < 24 →
    (latchEdges s s').flagUnit.flags.getLsbD n =
      (s'.flagUnit.flags.getLsbD n || (decide (n < 12) &&
        ((!(levels s).getLsbD n && (levels s').getLsbD n && s'.flagUnit.rising.getLsbD n)
          || ((levels s).getLsbD n && !(levels s').getLsbD n && s'.flagUnit.falling.getLsbD n)))))
  ∧ (∀ (s : State) (e : Event) (n : Nat), n < 24 → (s.raise e).flagUnit.flags.getLsbD n =
      (s.flagUnit.flags.getLsbD n || (n == e.number && s.flagUnit.rising.getLsbD n)))
  ∧ ∀ (c : Instr) (s s' : State), exec c s = .next s' →
      (∀ t : Nat, c ≠ .flagsClear t ∧ c ≠ .softReset t ∧ c ≠ .powerOnReset t ∧ c ≠ .resetPin t) →
      (∀ n : Nat, s.flagUnit.flags.getLsbD n = true → s'.flagUnit.flags.getLsbD n = true)
      ∧ ((∀ t : Nat, c ≠ .flagsArm t) →
          s'.flagUnit.rising = s.flagUnit.rising ∧ s'.flagUnit.falling = s.flagUnit.falling)

/-- STATUS returns its record and changes nothing; the record has 148 bytes, and every field of R196 at its offset. -/
def Obligations.StatusReturnsItsRecord : Prop :=
  (∀ (s : State) (t : Nat) (l : Link) (p : Packet) (rest : List Packet), nextPacket s = some (l, p, rest) →
    p.code = 0x43#8 → p.payload.length = 0 →
    exec (.status t) s = .next (answered s t l p rest .ok (statusRecord s)))
  ∧ (∀ s : State,
    let bytes := statusRecord s
    let link := fun (offset : Nat) (l : Link) =>
      fieldAt bytes offset [(s.store.get l).lastDrop.code]
      ∧ fieldAt bytes (offset + 1) (beBytes 4 (smallestLead (s.store.get l).leads))
    let pair := fun (offset : Nat) (o : Out) (k : Kind) =>
      fieldAt bytes offset [if (s.pair o k).active = .bank0 then 0 else 1]
      ∧ fieldAt bytes (offset + 1) (bankFields (s.pair o k).bank0)
      ∧ fieldAt bytes (offset + 12) (bankFields (s.pair o k).bank1)
    let output := fun (offset : Nat) (o : Out) =>
      fieldAt bytes offset (beBytes 2 (s.ramps.get o).gain.toNat)
      ∧ fieldAt bytes (offset + 2) (beBytes 2 (s.ramps.get o).target.toNat)
      ∧ fieldAt bytes (offset + 4) (beBytes 2 (s.ramps.get o).remaining)
      ∧ fieldAt bytes (offset + 6) (beBytes 1 (((s.fades.get o).map Fade.step).getD 0))
      ∧ fieldAt bytes (offset + 7) (beBytes 1 (((s.fades.get o).map Fade.length).getD 0))
      ∧ fieldAt bytes (offset + 8) (beBytes 2 ((s.controllers.get o).ws * 65535 + 1 / 2).floor.toNat)
      ∧ fieldAt bytes (offset + 10) (beBytes 1 (s.controllers.get o).starved)
      ∧ fieldAt bytes (offset + 11) (beBytes 4
          ((((s.controllers.get o).held.bind fun i => (s.slot i).target).map BitVec.toNat).getD 0))
    bytes.length = 148
    ∧ fieldAt bytes 0 [0x01] ∧ fieldAt bytes 1 (beBytes 2 s.clock.period) ∧ fieldAt bytes 3 (beBytes 2 s.clock.misses)
    ∧ link 5 .a ∧ link 10 .b
    ∧ pair 15 .out0 .warp ∧ pair 38 .out0 .blend ∧ pair 61 .out1 .warp ∧ pair 84 .out1 .blend
    ∧ output 107 .out0 ∧ output 122 .out1
    ∧ fieldAt bytes 137 (beBytes 1 s.cues.length) ∧ fieldAt bytes 138 (beBytes 1 s.outcomes.length)
    ∧ fieldAt bytes 139 (beBytes 2 s.part.standbyDelay) ∧ fieldAt bytes 141 (beBytes 3 s.flagUnit.rising.toNat)
    ∧ fieldAt bytes 144 (beBytes 3 s.flagUnit.falling.toNat) ∧ fieldAt bytes 147 [s.engine.lock.code])
  ∧ [DropCause.none, .noClock, .standby, .stale, .early, .duplicate, .storeFull, .late, .incomplete].map DropCause.code =
      [0, 1, 2, 3, 4, 5, 6, 7, 8]
  ∧ [Lock.none, .normal, .oneWay].map Lock.code = [0, 1, 2]
  ∧ ∀ leads : List Nat, (leads = [] → smallestLead leads = 0)
    ∧ (leads ≠ [] → smallestLead leads ∈ leads ∧ ∀ n ∈ leads, smallestLead leads ≤ n)

/-! ### Patterns, standby and SOFT_RESET -/

/-- PATTERN: the record of every output in the mask, and the released request of those that had none. -/
def Obligations.PatternStartsOrRenews : Prop :=
  ∀ (s : State) (t : Nat) (l : Link) (p : Packet) (rest : List Packet), nextPacket s = some (l, p, rest) →
    p.code = 0x51#8 → p.payload.length = 5 → p.noOutput = false →
    exec (.pattern t) s = .next (
      match patternKindNamed (p.u8 0) with
      | none => answered s t l p rest .badParam []
      | some kind =>
        if (p.u16 3).toNat = 0 ∨ 600 < (p.u16 3).toNat then answered s t l p rest .badParam []
        else if s.engine.lock ≠ .none then answered s t l p rest .locked []
        else if s.part.service ≠ .none then answered s t l p rest .overridden []
        else if s.part.state.inStandby then answered s t l p rest .standby []
        else
          latchEdges s { answered s t l p rest .ok [] with
            part := { s.part with patterns := forOuts fun o =>
              (if p.outputs.get o then some ⟨kind, p.u16 1, max s.now t + 1000000 * (p.u16 3).toNat⟩
              else s.part.patterns.get o) }
            controllers := forOuts fun o =>
              (if p.outputs.get o && (s.part.patterns.get o).isNone then
                { s.controllers.get o with douser := false, douserTimer := none }
              else s.controllers.get o) })

/-- PATTERN_END and the expiry of a pattern's time: the record becomes absent, and a DARK output whose request is
released starts its douser timer. That a douser delay of 0 asserts the request within the same event is the model's
choice (log entry 30). -/
def Obligations.PatternEndsByCommandOrTime : Prop :=
  (∀ (s : State) (t : Nat) (l : Link) (p : Packet) (rest : List Packet), nextPacket s = some (l, p, rest) →
    p.code = 0x52#8 → p.payload.length = 0 → p.noOutput = false →
    exec (.patternEnd t) s = .next (latchEdges s { answered s t l p rest .ok [] with
      part := { s.part with patterns := forOuts fun o => if p.outputs.get o then none else s.part.patterns.get o }
      controllers := forOuts fun o => if p.outputs.get o then afterPattern s (max s.now t) o else s.controllers.get o }))
  ∧ ∀ (s : State) (o : Out) (pat : Pattern), s.part.patterns.get o = some pat →
      exec (.patternExpiry o) s = .next (latchEdges s { s with
        now := max s.now pat.expires
        part := { s.part with patterns := s.part.patterns.set o none }
        controllers := s.controllers.set o (afterPattern s (max s.now pat.expires) o) })

/-- Standby entry, by STANDBY ENTER from READY or WAKING and by the idle timer: the outputs are forced DARK, patterns
end, every slot is freed with STANDBY as the cause of a FILLING one, and the images in progress go to code 0 from the
line after the one being sent. -/
def Obligations.StandbyEntryDarkensThePart : Prop :=
  let entered := fun (s s' : State) (kind : StandbyKind) (now : Nat) (e : Engine) =>
    s' = { s with
      now := now
      engine := e
      part := { s.part with state := .standby kind, idleTimer := none, patterns := ⟨none, none⟩ }
      controllers := s'.controllers
      store := s'.store
      pipelines := s.pipelines.map (fun q => { q with raster := q.raster.map (Raster.blacken now) })
      flagUnit := s'.flagUnit }
    ∧ outputsForcedDark s'
    ∧ (∀ o : Out, (s'.controllers.get o).route = (s.controllers.get o).route
        ∧ (s'.controllers.get o).pendingRoute = (s.controllers.get o).pendingRoute)
    ∧ (∀ l : Link, s'.store.get l =
        ⟨⟨.free, .free, .free, .free⟩, (s.store.get l).leads,
          if (fillingIndex s l).isSome then .standby else (s.store.get l).lastDrop⟩)
    ∧ flagsLatched s s' ((if (fillingIndex s .a).isSome then [17] else [])
        ++ (if (fillingIndex s .b).isSome then [18] else []))
  (∀ (s : State) (t : Nat) (l : Link) (p : Packet) (rest : List Packet), nextPacket s = some (l, p, rest) →
    p.code = 0x53#8 → p.payload.length = 3 → (p.u8 0).toNat = 1 →
    (s.part.state = .ready ∨ ∃ e, s.part.state = .waking e) →
    ∃ s', exec (.standbyEnter t) s = .next s'
      ∧ entered s s' .commanded (max s.now t) (answered s t l p rest .ok []).engine)
  ∧ ∀ (s : State) (e : Nat), s.part.idleTimer = some e →
      ∃ s', exec .idleTimerExpiry s = .next s' ∧ entered s s' .automatic (max s.now e) s.engine

/-- STANDBY EXIT and the end of waking: STANDBY passes to WAKING for 200 ms, and WAKING to READY. STANDBY ENTER in
STANDBY makes the kind COMMANDED, DELAY restarts the idle timer, and an action that is none of the three is refused
by whichever row takes it (log entry 9). The link states that let the idle timer run, and the part states that are
standby. -/
def Obligations.StandbyIsLeftThroughWaking : Prop :=
  (∀ (s : State) (t : Nat) (l : Link) (p : Packet) (rest : List Packet), nextPacket s = some (l, p, rest) →
    p.code = 0x53#8 → p.payload.length = 3 → (p.u8 0).toNat = 2 →
    exec (.standbyExit t) s = .next (
      match s.part.state with
      | .standby _ =>
        { answered s t l p rest .ok [] with part := { s.part with state := .waking (max s.now t + 200000) } }
      | _ => answered s t l p rest .ok []))
  ∧ (∀ (s : State) (e : Nat), s.part.state = .waking e →
      exec .wakingTimerExpiry s = .next (latchEdges s { s with
        now := max s.now e
        part := { s.part with
          state := .ready
          idleTimer :=
            if s.ports.a.state.isIdle && s.ports.b.state.isIdle && s.part.standbyDelay != 0 then
              (match s.part.idleTimer with
              | some x => some x
              | none => some (max s.now e + 1000000 * s.part.standbyDelay))
            else none } }))
  ∧ (∀ x : LinkState, x.isIdle = true ↔ x = .off ∨ (∃ e, x = .seeking e) ∨ ∃ e, x = .quiet e)
  ∧ (∀ x : PartState, x.inStandby = true ↔ (∃ kind, x = .standby kind) ∨ ∃ e, x = .waking e)
  ∧ ∀ (s : State) (t : Nat) (l : Link) (p : Packet) (rest : List Packet), nextPacket s = some (l, p, rest) →
    p.code = 0x53#8 → p.payload.length = 3 →
    ((p.u8 0).toNat = 1 → ∀ kind : StandbyKind, s.part.state = .standby kind →
      exec (.standbyEnter t) s = .next { answered s t l p rest .ok [] with
        part := { s.part with state := .standby .commanded } })
    ∧ ((p.u8 0).toNat = 3 → exec (.standbyDelay t) s = .next (
        if 3600 < (p.u16 1).toNat then answered s t l p rest .badParam []
        else
          { answered s t l p rest .ok [] with
            part := { s.part with
              standbyDelay := (p.u16 1).toNat
              idleTimer :=
                if s.part.state = .ready ∧ s.ports.a.state.isIdle = true ∧ s.ports.b.state.isIdle = true
                    ∧ (p.u16 1).toNat ≠ 0 then
                  some (max s.now t + 1000000 * (p.u16 1).toNat)
                else none } }))
    ∧ (¬(1 ≤ (p.u8 0).toNat ∧ (p.u8 0).toNat ≤ 3) →
        exec (.standbyEnter t) s = .next (answered s t l p rest .badParam [])
        ∧ exec (.standbyExit t) s = .next (answered s t l p rest .badParam [])
        ∧ exec (.standbyDelay t) s = .next (answered s t l p rest .badParam []))

/-- SOFT_RESET on every record of the part. It ends the patterns and leaves the controllers as they were, by R149 and
R163; R186 alone would have the end of a pattern start a douser timer here too, and the model does not follow it there
(log entry 10). -/
def Obligations.SoftResetClearsTheSchedule : Prop :=
  ∀ (s : State) (t : Nat) (l : Link) (p : Packet) (rest : List Packet), nextPacket s = some (l, p, rest) →
    p.code = 0x7E#8 → p.payload.length = 1 →
    (1 < (p.u8 0).toNat → exec (.softReset t) s = .next (answered s t l p rest .badParam []))
    ∧ ((p.u8 0).toNat ≤ 1 → ∃ s', exec (.softReset t) s = .next s'
      ∧ s'.now = max s.now t
      ∧ s'.engine = ⟨⟨[], []⟩, PerLink.set ⟨[], []⟩ l [⟨p.code, .ok, p.tag, []⟩], ⟨0, 0⟩, l, s.engine.lock⟩
      ∧ s'.pairs = forPairs (fun o k =>
          { s.pair o k with bank0 := keptBank (s.pair o k).bank0, bank1 := keptBank (s.pair o k).bank1, pin := false })
      ∧ s'.cues = [] ∧ s'.outcomes = [] ∧ s'.fades = ⟨none, none⟩ ∧ s'.pendingSwaps = forPairs (fun _ _ => none)
      ∧ (∀ o : Out, (s'.ramps.get o).gain =
            (if (s.ramps.get o).remaining = 0 then (s.ramps.get o).gain else (s.ramps.get o).target)
          ∧ (s'.ramps.get o).target = (s.ramps.get o).target ∧ (s'.ramps.get o).remaining = 0)
      ∧ s'.part.patterns = ⟨none, none⟩
      ∧ s'.part.state = (match s.part.state with
          | .standby _ => .waking (max s.now t + 200000)
          | other => other)
      ∧ s'.part.standbyDelay = (if (p.u8 0).toNat = 1 then s.part.standbyDelay else 600)
      ∧ s'.part.idleTimer = (if (p.u8 0).toNat = 1 then s.part.idleTimer
          else if s.part.state = .ready ∧ s.ports.a.state.isIdle = true ∧ s.ports.b.state.isIdle = true then
            some (max s.now t + 600000000)
          else none)
      ∧ s'.part.service = s.part.service ∧ s'.part.decoder = s.part.decoder
      ∧ s'.flagUnit = (if (p.u8 0).toNat = 1 then { s.flagUnit with flags := 0 } else FlagUnit.reset)
      ∧ s'.clock = s.clock ∧ s'.pipelines = s.pipelines ∧ s'.store = s.store ∧ s'.ports = s.ports
      ∧ s'.controllers = s.controllers
      ∧ s'.samples = s.samples ∧ s'.pending = s.pending)

/-! ### Resets -/

/-- Power-on reset puts every record at its value after power-on reset; the last start, of which the manual gives none,
is the model's own (log entry 27), and so is the record of how LOCKED was entered, the last of each port, which is false
(log entry 29). What stands outside the part is kept: the time, the waiting inputs, and the signal of each line (log
entry 7). -/
def Obligations.PowerOnResetResetsEveryBlock : Prop :=
  ∀ (s : State) (t : Nat), exec (.powerOnReset t) s = .next
    { now := max s.now t
      pairs := forPairs fun _ _ => ⟨.empty, .empty, .bank0, false⟩
      cues := []
      outcomes := []
      pendingSwaps := forPairs fun _ _ => none
      fades := forOuts fun _ => none
      ramps := forOuts fun _ => ⟨0xFFFF, 0xFFFF, 0⟩
      clock := ⟨.unsynced, 16667, 0, ⟨0, false⟩, none, ⟨false, 0, 0, .waitingForRest⟩⟩
      pipelines := forOuts fun _ => ⟨⟨1920, 1080, .gamma10⟩, none, none⟩
      store := ⟨⟨⟨.free, .free, .free, .free⟩, [], .none⟩, ⟨⟨.free, .free, .free, .free⟩, [], .none⟩⟩
      ports := ⟨⟨.off, s.ports.a.signal, none, .none, none, none, false⟩,
        ⟨.off, s.ports.b.signal, none, .none, none, none, false⟩⟩
      controllers := forOuts fun _ =>
        ⟨⟨none, none, .auto, 5, 2, 12, 24, 24, 2000, 500⟩, none, none, .dark, none, 0, 0, none, true, none, .stopped⟩
      engine := ⟨⟨[], []⟩, ⟨[], []⟩, ⟨0, 0⟩, .b, .none⟩
      flagUnit := ⟨0, 0xFFFFFF, 0xFFF⟩
      part := ⟨.initializing, 600, none, ⟨none, none⟩, .none, ⟨true, 0, none, none⟩⟩
      samples := s.samples
      pending := s.pending }

/-- The reset pin keeps READY banks, active indexes, formats, routes and the lock, and resets the rest; an image in
progress is code 0 from the line after the one being sent. What a port's receiver reports of its line, and the last
return frame it has sent, are kept (log entry 7). The clock takes its reset values; that of the last start, time 0 and
by the generator, is the model's choice, since the manual gives none (log entry 27), and so is the value false of the
model's own record of how a port entered LOCKED (log entry 29). -/
def Obligations.ResetPinKeepsTablesAndSettings : Prop :=
  ∀ (s : State) (t : Nat), ∃ s', exec (.resetPin t) s = .next s'
    ∧ s'.now = max s.now t
    ∧ (∀ (o : Out) (k : Kind), (s'.pair o k).active = (s.pair o k).active ∧ (s'.pair o k).pin = false
        ∧ (s'.pair o k).bank0 = keptBank (s.pair o k).bank0 ∧ (s'.pair o k).bank1 = keptBank (s.pair o k).bank1)
    ∧ (∀ o : Out, (s'.pipelines.get o).format = (s.pipelines.get o).format
        ∧ (s'.pipelines.get o).pendingFormat = none
        ∧ (s'.pipelines.get o).raster = (s.pipelines.get o).raster.map (Raster.blacken (max s.now t))
        ∧ (s'.controllers.get o).route = (s.controllers.get o).route
        ∧ (s'.controllers.get o).pendingRoute = none)
    ∧ outputsForcedDark s'
    ∧ s'.engine = { Engine.reset with lock := s.engine.lock }
    ∧ s'.cues = [] ∧ s'.outcomes = [] ∧ s'.pendingSwaps = forPairs (fun _ _ => none) ∧ s'.fades = ⟨none, none⟩
    ∧ s'.ramps = ⟨Ramp.reset, Ramp.reset⟩ ∧ s'.clock = Clock.reset ∧ s'.store = ⟨LinkStore.reset, LinkStore.reset⟩
    ∧ (∀ l : Link, s'.ports.get l =
        { Port.reset with signal := (s.ports.get l).signal, sent := (s.ports.get l).sent })
    ∧ s'.flagUnit = FlagUnit.reset ∧ s'.part = PartControl.reset ∧ s'.samples = s.samples ∧ s'.pending = s.pending

/-- The release starts the generator, whose first start is due 16,667 µs later (the release stands as the last start:
log entry 27; a passing word may make a start before that: log entry 32), and the ports send blanking; the end of
initialisation makes the part READY, a port with signal SEEKING, and starts the idle timer. -/
def Obligations.ReleaseAndInitialisationEndBringThePartUp : Prop :=
  (∀ (s : State) (t : Nat), s.clock.released = none →
    exec (.resetRelease t) s = .next { s with
      now := max s.now t
      clock := { s.clock with released := some (max s.now t), lastStart := ⟨max s.now t, false⟩ }
      pipelines := s.pipelines.map fun q => { q with raster := none } })
  ∧ (∀ (s s' : State) (t : Nat), s.clock = Clock.reset → exec (.resetRelease t) s = .next s' →
    generatorDue s'.clock = some (max s.now t + 16667))
  ∧ ∀ (s : State) (t : Nat), s.clock.released.isSome = true → PartOk s → s.part.state = .initializing →
      exec (.initialisationEnd t) s = .next { s with
        now := max s.now t
        part := { s.part with
          state := .ready
          idleTimer := if s.part.standbyDelay = 0 then none else some (max s.now t + 1000000 * s.part.standbyDelay) }
        ports := s.ports.map fun q =>
          if q.signal then { q with state := .seeking (max s.now t + 5000000), previous := none, frame := .none }
          else q }

/-! ### The Period Clock -/

/-- Sync words with the reset released. A word is accepted exactly when it is the preamble, a number and their CRC-8,
each most significant bit first. No start: a word that fails these tests, a word outside the tracking window, and a word
that becomes the reference. A start at the mark: the passing word of ACQUIRING (also where it comes before the
generator's first start after a release, which R59 and R71 call the first: the model follows R62 there, log entry 32), a
word inside the tracking window, and any word in FREERUN; each sets D to its number, the miss count to 0 and the window
from its mark, and raises SYNC_JUMP where D had a value and the number is not the next. A start that falls at the moment
of a reset is not made (log entry 28). In FREERUN also the word whose mark is the window close of the third miss makes a
start, by R66, where R68 has it ignored: that is the model's choice (log entry 26). The decoder goes back to waiting for
rest in each case. D is the number that TRACKING and FREERUN hold. -/
def Obligations.SyncWordsAreJudgedAtTheirMark : Prop :=
  (∀ (s : State) (d : Period), s.dome = some d ↔
    (∃ opens closes, s.clock.state = .tracking d opens closes) ∨ s.clock.state = .freerun d)
  ∧ ∀ (s : State) (t : Nat), s.clock.released.isSome = true →
    let m := max s.now t
    let heard := { s with
      now := m, clock := { s.clock with line := { s.clock.line with reception := .waitingForRest } } }
    let reference := fun (n : Period) =>
      { heard with clock := { heard.clock with state := .acquiring n m (m + 100000) } }
    let started := fun (n : Period) (p : Nat) (jump : Bool) =>
      if resetDue s m then heard
      else periodStart heard (State.raiseIf
        { heard with clock := { heard.clock with
            state := .tracking n (m + p - p / 16) (m + p + p / 16), period := p, misses := 0
            lastStart := ⟨m, true⟩ } } jump .syncJump)
    (∀ cells : BitVec 48, (∀ n : Period, cells ≠ syncWordOf n) → exec (.syncWord t cells) s = .next heard)
    ∧ (∀ n : Period,
      let answer := exec (.syncWord t (syncWordOf n)) s
      (s.clock.state = .unsynced → answer = .next (reference n))
      ∧ (∀ (r : Period) (mark e : Nat), s.clock.state = .acquiring r mark e →
        (¬(n = r + 1 ∧ 4000 ≤ m - mark ∧ m - mark ≤ 42000) → answer = .next (reference n))
        ∧ (n = r + 1 → 4000 ≤ m - mark → m - mark ≤ 42000 → answer = .next (started n (m - mark) false)))
      ∧ (∀ (d : Period) (opens closes : Nat), s.clock.state = .tracking d opens closes →
        (m < opens ∨ closes < m → answer = .next heard)
        ∧ (opens ≤ m → m ≤ closes → answer = .next (started n
          (if s.clock.lastStart.atMark = true then max 4000 (min 42000 (m - s.clock.lastStart.time)) else s.clock.period)
          (n != d + 1))))
      ∧ ∀ d : Period, s.clock.state = .freerun d →
        answer = .next (started n s.clock.period (n != d + 1)))

/-- The generator's starts with the reset released: P after the last start, which after a release is the release itself
(log entry 27); D advances in FREERUN alone. A start that falls at the moment of a reset is not made (log entry 28). -/
def Obligations.GeneratorPacesStarts : Prop :=
  ∀ (s : State) (e : Nat), s.clock.released.isSome = true → e = max s.now (s.clock.lastStart.time + s.clock.period) →
    let found := { s with now := e }
    (∀ d : Period, s.clock.state = .freerun d → exec .generatorStart s = .next (
      if resetDue s e then found
      else periodStart found { found with
        clock := { s.clock with
          state := .freerun (d + 1), misses := min 65535 (s.clock.misses + 1), lastStart := ⟨e, false⟩ } }))
    ∧ ((s.clock.state = .unsynced ∨ ∃ r mark x, s.clock.state = .acquiring r mark x) →
      exec .generatorStart s = .next (
        if resetDue s e then found
        else periodStart found { found with clock := { s.clock with lastStart := ⟨e, false⟩ } }))

/-- A window that closes without a start: the generator makes the start, D advances by one, P is kept, and the third
miss enters FREERUN; at the moment of a reset it is not made (log entry 28). The acquisition timer returns the clock to
UNSYNCED and makes no start. -/
def Obligations.WindowCloseAndAcquisitionTimeout : Prop :=
  (∀ (s : State) (d : Period) (opens closes : Nat), s.clock.state = .tracking d opens closes →
    let m := max s.now closes
    let found := { s with now := m }
    exec .trackingWindowClose s = .next (
      if resetDue s m then found
      else periodStart found { found with
        clock := { s.clock with
          state := (if s.clock.misses + 1 < 3 then
              .tracking (d + 1) (m + s.clock.period - s.clock.period / 16) (m + s.clock.period + s.clock.period / 16)
            else .freerun (d + 1))
          misses := s.clock.misses + 1
          lastStart := ⟨m, false⟩ } }))
  ∧ ∀ (s : State) (r : Period) (mark e : Nat), s.clock.state = .acquiring r mark e →
      exec .syncAcquisitionTimeout s = .next { s with
        now := max s.now e, clock := { s.clock with state := .unsynced } }

/-! ### What a period start does -/

/-- A period start leaves these records alone, and at a start that gives no D the Cue Scheduler takes none of its steps.
The flags of the levels take the edges from the levels before the start to those that it leaves, each by its enable; no
start raises an event of the links or the loads, and SYNC_JUMP is raised beside it. That the first start after a reset is
no exception, between R175 and R178, is the model's choice (log entry 34). -/
def Obligations.PeriodStartFrame : Prop :=
  ∀ before s : State,
    let s' := periodStart before s
    s'.now = s.now ∧ s'.clock = s.clock ∧ s'.part = s.part ∧ s'.samples = s.samples ∧ s'.pending = s.pending
    ∧ s'.engine.commands = s.engine.commands ∧ s'.engine.arbiter = s.engine.arbiter ∧ s'.engine.lock = s.engine.lock
    ∧ s'.flagUnit.rising = s.flagUnit.rising ∧ s'.flagUnit.falling = s.flagUnit.falling
    ∧ (∀ l : Link, (s'.store.get l).leads = (s.store.get l).leads
        ∧ s'.ports.get l = { s.ports.get l with sent := (s'.ports.get l).sent })
    ∧ (∀ n : Nat, s.flagUnit.flags.getLsbD n = true → s'.flagUnit.flags.getLsbD n = true)
    ∧ (∀ n : Nat, n < 12 → s'.flagUnit.flags.getLsbD n =
        (s.flagUnit.flags.getLsbD n
          || (s.flagUnit.rising.getLsbD n && !(levels before).getLsbD n && (levels s').getLsbD n)
          || (s.flagUnit.falling.getLsbD n && (levels before).getLsbD n && !(levels s').getLsbD n)))
    ∧ (∀ n ∈ [12, 13, 14, 15, 16, 22], s'.flagUnit.flags.getLsbD n = s.flagUnit.flags.getLsbD n)
    ∧ (s.dome = none →
        s'.cues = s.cues ∧ s'.outcomes = s.outcomes ∧ s'.pendingSwaps = s.pendingSwaps ∧ s'.fades = s.fades
        ∧ s'.ramps = s.ramps ∧ ∀ (o : Out) (k : Kind), (s'.pair o k).active = (s.pair o k).active
            ∧ (s'.pair o k).pin = (s.pair o k).pin)

/-- At a start that gives D, without a due cue, every ramp in flight takes one step, rounded with halves away from zero;
fades step or end, and pending swaps are carried out. -/
def Obligations.RampsFadesAndSwapsAtAStart : Prop :=
  (∀ (before s : State) (d : Period) (o : Out), s.dome = some d → noCueDue d s →
    let r := s.ramps.get o
    let r' := (periodStart before s).ramps.get o
    r'.target = r.target ∧ r'.remaining = r.remaining - 1
    ∧ (r.remaining = 0 → r'.gain = r.gain)
    ∧ (r.remaining = 1 → r'.gain = r.target)
    ∧ (r.remaining ≠ 0 → (r'.gain.toNat : Int) =
        r.gain.toNat + roundDiv ((r.target.toNat : Int) - r.gain.toNat) r.remaining))
  ∧ (∀ (n : Int) (r : Nat), 0 < r →
      2 * (r * roundDiv n r - n).natAbs ≤ r
      ∧ (2 * (r * roundDiv n r - n).natAbs = r → n.natAbs < (r * roundDiv n r).natAbs))
  ∧ ∀ (before s : State) (d : Period), s.dome = some d → noCueDue d s → BanksOk s →
    let s' := periodStart before s
    s'.pendingSwaps = forPairs (fun _ _ => none)
    ∧ (∀ (o : Out) (k : Kind),
        (s'.pair o k).active =
          (if (s.pendingSwaps.at2 o k).isSome then (s.pair o k).active.other else (s.pair o k).active)
        ∧ (s'.pair o k).pin = fadeOn s' o k)
    ∧ ∀ o : Out, s'.fades.get o = fadeAtStart s o

/-- At a start that gives D every cue at or before D fires, in list order, on what the fades' step and the pending swaps
have left, the verifications that must end by this start ended before it (log entry 11), and leaves the list; each
appends one outcome, which names it, D and its origin, and may push the oldest out. The ramps then take their step. -/
def Obligations.DueCuesFireAndLeave : Prop :=
  ∀ (before s : State) (d : Period), s.dome = some d →
    let s' := periodStart before s
    let due := s.cues.filter fun c => atOrBefore c.target d
    s'.cues = s.cues.filter (fun c => !atOrBefore c.target d)
    ∧ (s.outcomes.length + due.length ≤ 16 →
        ∃ fired : List CueRecord, s'.outcomes = s.outcomes ++ fired
          ∧ fired.map (fun r => (r.id, r.target, r.fired, r.origin)) =
              due.map fun c => (c.id, c.target, d, c.origin))
    ∧ (BanksOk s →
        let fired := due.foldl (fireCue d) { fadesAndSwapsDone s with cues := s'.cues }
        s'.pairs = fired.pairs ∧ s'.fades = fired.fades ∧ s'.pendingSwaps = fired.pendingSwaps
        ∧ s'.outcomes = fired.outcomes ∧ s'.ramps = fired.ramps.map rampStepped
        ∧ ∀ n ∈ [19, 20, 21], s'.flagUnit.flags.getLsbD n = fired.flagUnit.flags.getLsbD n)

/-- A fired SWAP cue, on every pair that its mask and kinds name: the fade in flight ends, the exchange is made if the
shadow is READY, and a fade of its own starts; the other pairs and fades stay. Its outcome names the pairs exchanged:
DONE or LATE when all were, PARTIAL when some were, NOT_READY when none was. A fired GAIN cue starts a ramp on every
output of its mask and is DONE or LATE. -/
def Obligations.FiredCuesActOnWhatTheyName : Prop :=
  (∀ (s : State) (d : Period) (c : Cue) (ks : Kinds) (fade : Nat),
    c.action = .swap ks fade → (ks.warp = true → fade = 0) → BanksOk s →
    (∀ (o : Out) (k : Kind), namesPair c.mask ks o k = true → s.pendingSwaps.at2 o k = none) →
    let s' := fireCue d s c
    let named := namesPair c.mask ks
    let ready := fun (o : Out) (k : Kind) => (s.pair o k).shadow.table.isSome
    (∀ (o : Out) (k : Kind), s'.pair o k =
      if named o k then { s.pair o k with
        active := if ready o k then (s.pair o k).active.other else (s.pair o k).active
        pin := ready o k && decide (k = .blend ∧ fade ≠ 0) }
      else s.pair o k)
    ∧ (∀ o : Out, s'.fades.get o =
        if named o .blend then (if ready o .blend = true ∧ fade ≠ 0 then some ⟨fade, 1⟩ else none)
        else s.fades.get o)
    ∧ s'.outcomes = (if s.outcomes.length < 16 then s.outcomes else s.outcomes.drop 1) ++
        [⟨c.id, c.target, d, c.origin, forPairs fun o k => named o k && ready o k,
        if somePair fun o k => named o k && !ready o k then
          if somePair fun o k => named o k && ready o k then .partly else .notReady
        else if d = c.target then .done else .late⟩]
    ∧ s'.ramps = s.ramps ∧ s'.cues = s.cues)
  ∧ ∀ (s : State) (d : Period) (c : Cue) (target : Word16) (length : Nat), c.action = .gain target length →
    fireCue d s c = appendOutcome
      ⟨c.id, c.target, d, c.origin, ⟨⟨false, c.mask.out0⟩, ⟨false, c.mask.out1⟩⟩,
        if d = c.target then .done else .late⟩
      { s with ramps := forOuts fun o =>
          if c.mask.get o then
            { s.ramps.get o with target := target, remaining := if length = 0 then 1 else length }
          else s.ramps.get o }

/-- At a start that gives D, every slot that is left neither FREE nor viewed holds a target from D to D + 16, and no slot
with a target from D to D + 16 is freed. A FILLING slot whose target has passed is dropped LATE, one that lies beyond
D + 16 EARLY, each with FRAME_DROP; otherwise the last drop cause and that flag stay. A target that is both, after a jump
of about 2^31, is dropped LATE: that is the model's choice (log entry 33). -/
def Obligations.StartFreesPassedSlots : Prop :=
  ∀ (before s : State) (d : Period), s.dome = some d →
    (∀ (l : Link) (i j : SlotIndex), (s.slot ⟨l, i⟩).isFilling = true → (s.slot ⟨l, j⟩).isFilling = true → i = j) →
    let s' := periodStart before s
    (∀ i : SlotId, s'.slot i = .free ∨ (s'.slot i).kept d = true)
    ∧ (∀ (i : SlotId) (x : Period), (s.slot i).target = some x → (x - d).toNat ≤ 16 → (s'.slot i).target = some x)
    ∧ ∀ l : Link,
      let flag := (Event.frameDrop l).number
      let unchanged := (s'.store.get l).lastDrop = (s.store.get l).lastDrop
        ∧ s'.flagUnit.flags.getLsbD flag = s.flagUnit.flags.getLsbD flag
      let dropped := fun (i : SlotIndex) (cause : DropCause) => s'.slot ⟨l, i⟩ = .free
        ∧ (s'.store.get l).lastDrop = cause
        ∧ s'.flagUnit.flags.getLsbD flag = (s.flagUnit.flags.getLsbD flag || s.flagUnit.rising.getLsbD flag)
      (∀ (i : SlotIndex) (f : Frame), s.slot ⟨l, i⟩ = .filling f →
        let passed := atOrBefore f.target d = true ∧ f.target ≠ d
        (passed → dropped i .late)
        ∧ (¬passed → laterThan f.target (d + 16) = true → dropped i .early)
        ∧ (¬passed → laterThan f.target (d + 16) = false → unchanged))
      ∧ ((∀ i : SlotIndex, (s.slot ⟨l, i⟩).isFilling = false) → unchanged)

/-- Each controller takes its three steps at a start, from the state as the Period Clock's start has set it: a pending
route comes into force; a pending select comes into force on an output that shows a frame and whose new route names the
role, and is dropped otherwise; then the rule of the output's state, except in STANDBY and WAKING and at a start that
gives no D. Neither controller depends on the other's transition, on the release or on the other blocks' work. What the
rule reads: the frames for D, the settle test, the pattern on the output, and whether a select came into force. STARVED
is raised at a start at which either rule says so. -/
def Obligations.ControllersActIndependently : Prop :=
  (∀ before s : State,
    let s' := periodStart before s
    (∀ o : Out, s'.controllers.get o = (controllerLeft s o).1)
    ∧ s'.flagUnit.flags.getLsbD 23 = (s.flagUnit.flags.getLsbD 23
        || (s.flagUnit.rising.getLsbD 23 && ((controllerLeft s .out0).2 || (controllerLeft s .out1).2))))
  ∧ (∀ (s : State) (l : Link) (i : SlotId), frameForD s l = some i →
      i.link = l ∧ ∃ (f : Frame) (v : PerOut Bool), s.slot i = .complete f v ∧ s.dome = some f.target)
  ∧ ∀ (s : State) (l : Link) (j : SlotIndex) (f : Frame) (v : PerOut Bool),
      s.slot ⟨l, j⟩ = .complete f v → s.dome = some f.target → (frameForD s l).isSome = true

/-- Every port sends a return frame at a start: the state word, with every field of R195 at its offset, and the results
that were first, up to four, which leave with it. The results of verifications that had to end by this start are among
them (log entries 11 and 25). The bytes of a result. Every pipeline takes its snapshot, of the values as the start
leaves them, and begins its raster, which keeps the P that the start leaves (the model's reading, log entry 16). The
flags in the state word are those that stand, also in the first one after a reset, where R178 has every flag clear: that is
the model's choice (log entry 34). -/
def Obligations.StartSendsFramesAndBeginsRasters : Prop :=
  (∀ (before s : State) (l : Link),
    let s' := periodStart before s
    let waiting := s.engine.results.get l ++ endedAtStart s l
    s'.engine.results.get l = waiting.drop 4
    ∧ ∃ word : List Byte, (s'.ports.get l).sent = some ⟨word, (waiting.take 4).map Result.bytes⟩
      ∧ word.length = 23
      ∧ fieldAt word 0 [s.part.state.code] ∧ fieldAt word 1 [s.clock.state.code]
      ∧ fieldAt word 2 (beBytes 4 ((s.dome.map BitVec.toNat).getD 0))
      ∧ fieldAt word 6 [s.ports.a.state.code] ∧ fieldAt word 7 [s.ports.b.state.code]
      ∧ fieldAt word 8 [s'.controllers.out0.state.code] ∧ fieldAt word 9 [roleCode s'.controllers.out0.role]
      ∧ fieldAt word 10 [if s.part.patterns.out0.isSome then 1 else 0]
      ∧ fieldAt word 11 [s'.controllers.out1.state.code] ∧ fieldAt word 12 [roleCode s'.controllers.out1.role]
      ∧ fieldAt word 13 [if s.part.patterns.out1.isSome then 1 else 0]
      ∧ fieldAt word 14 [s.part.service.code]
      ∧ fieldAt word 15 [if s.part.state = .initializing then 0 else BitVec.ofNat 8 (16 - (s.engine.commands.get l).length)]
      ∧ fieldAt word 16 (beBytes 3 s'.flagUnit.flags.toNat)
      ∧ fieldAt word 19 [BitVec.ofNat 8 s'.outcomes.length]
      ∧ fieldAt word 20 [BitVec.ofNat 8 (min 4 waiting.length)]
      ∧ fieldAt word 21 (beBytes 2 (streamCheck ((word.take 21).flatMap bitsSent)).toNat))
  ∧ stateWordCodes
  ∧ (∀ r : Result, r.bytes = withCheck
      ([r.code, r.status.code] ++ beBytes 2 r.tag.toNat ++ beBytes 2 r.payload.length ++ r.payload))
  ∧ [Status.ok, .unknownCommand, .badLength, .badParam, .locked, .overridden, .busy, .notOwner, .notLoading, .outOfOrder,
      .lengthMismatch, .crcMismatch, .notReady, .listFull, .duplicateId, .past, .conflict, .noCue, .notDark, .standby,
      .wrongState].map Status.code = (List.range 21).map (BitVec.ofNat 8)
  ∧ ∀ (before s : State) (o : Out),
    let s' := periodStart before s
    s'.pipelines.get o =
      { format := ((s.pipelines.get o).pendingFormat).getD (s.pipelines.get o).format
        pendingFormat := none
        raster := some ⟨snapshotAt s' o, s.now, s.clock.period, none, none⟩ }

/-! ### The rules of the output states -/

/-- What a candidate is: the frame for D of the primary link first, with the role PRIMARY, then that of the backup link,
with the role BACKUP, and none on NONE. DARK and OPENING at a start that gives D. -/
def Obligations.DarkAndOpeningRules : Prop :=
  (∀ v : StartView, v.frameOn none = none ∧ ∀ l : Link, v.frameOn (some l) = v.frames.get l)
  ∧ (∀ (v : StartView) (r : Route),
    (∀ i, v.frameOn r.primary = some i → v.candidate r = some (.primary, i))
    ∧ (∀ i, v.frameOn r.primary = none → v.frameOn r.backup = some i → v.candidate r = some (.backup, i))
    ∧ (v.frameOn r.primary = none → v.frameOn r.backup = none → v.candidate r = none)
    ∧ r.link .primary = r.primary ∧ r.link .backup = r.backup)
  ∧ ∀ (v : StartView) (c : Controller), c.ok →
    let shown := fun (role : Role) (i : SlotId) =>
      if c.route.fadeIn ≤ 1 then { c with
        state := .live, role := some role, held := some i, ws := 1, douserTimer := none, openTimer := .stopped }
      else { c with
        state := .fadingIn, role := some role, held := some i, ws := 1 / (c.route.fadeIn : Rat), douserTimer := none
        openTimer := .stopped }
    (c.state = .dark → c.stateRule v =
      (match v.candidate c.route with
      | none => c
      | some (role, i) =>
        if c.douser then { c with
          state := .opening, douser := false
          openTimer := if c.route.douserOpen = 0 then .expired else .running (v.now + 1000 * c.route.douserOpen) }
        else shown role i, false))
    ∧ (c.state = .opening → (∀ e, c.openTimer = .running e → c.stateRule v = (c, false))
      ∧ (c.openTimer = .expired → c.stateRule v =
        (match v.candidate c.route with
        | some (role, i) => shown role i
        | none => enteredDark v c, false)))

/-- LIVE and HOLDING at a start that gives D: automatic revert, the role's frame, failover, the hold, and the holdover
limit. A select onto a link without a frame at threshold 1, with a frame on the other link, fails over (the model's
choice between R134 and R141, log entry 31). -/
def Obligations.LiveAndHoldingRules : Prop :=
  ∀ (v : StartView) (c : Controller) (role : Role), c.ok → c.role = some role →
    c.state = .live ∨ c.state = .holding →
    let down := if c.route.fadeOut = 0 then 0 else max 0 (1 - 1 / (c.route.fadeOut : Rat))
    let reverts := c.state = .live ∧ v.selected = false ∧ role = .backup ∧ c.route.revert = .auto ∧ v.settled = true
    (∀ i, reverts → v.frameOn c.route.primary = some i → c.stateRule v =
      ({ c with role := some .primary, held := some i, starved := 0 }, false))
    ∧ (∀ i, ¬(reverts ∧ (v.frameOn c.route.primary).isSome = true) → v.frameOn (c.route.link role) = some i →
        c.stateRule v = ({ c with state := .live, held := some i, starved := 0 }, false))
    ∧ (∀ i, v.frameOn (c.route.link role) = none → v.frameOn (c.route.link role.other) = some i →
        c.route.threshold ≤ c.starved + 1 → ¬reverts →
        c.stateRule v =
          ({ c with state := .live, role := some role.other, held := some i, starved := 0 }, c.starved == 0))
    ∧ (v.frameOn (c.route.link role) = none →
        (v.frameOn (c.route.link role.other) = none ∨ c.starved + 1 < c.route.threshold) →
        ¬(reverts ∧ (v.frameOn c.route.primary).isSome = true) →
        (c.starved + 1 < c.route.holdover →
          c.stateRule v = ({ c with state := .holding, starved := c.starved + 1 }, c.starved == 0))
        ∧ (c.route.holdover ≤ c.starved + 1 → down ≠ 0 →
          c.stateRule v = ({ c with state := .fadingOut, starved := c.starved + 1, ws := down }, c.starved == 0))
        ∧ (c.route.holdover ≤ c.starved + 1 → down = 0 → c.stateRule v = (enteredDark v c, c.starved == 0)))

/-- The fades of the source weight at a start that gives D: the role's frame raises it in FADING_IN, and so do a failover
and a hold; the holdover limit turns FADING_IN back. A candidate raises it in FADING_OUT, its absence lowers it, and DARK
is entered when it reaches 0. -/
def Obligations.SourceWeightFades : Prop :=
  ∀ (v : StartView) (c : Controller) (role : Role), c.ok → c.role = some role →
    let up := if c.route.fadeIn = 0 then 1 else min 1 (c.ws + 1 / (c.route.fadeIn : Rat))
    let down := if c.route.fadeOut = 0 then 0 else max 0 (c.ws - 1 / (c.route.fadeOut : Rat))
    (∀ i, c.state = .fadingIn → v.frameOn (c.route.link role) = some i → c.stateRule v =
      ({ c with held := some i, starved := 0, ws := up, state := if up = 1 then .live else .fadingIn }, false))
    ∧ (c.state = .fadingIn → v.frameOn (c.route.link role) = none →
        (v.frameOn (c.route.link role.other) = none ∨ c.starved + 1 < c.route.threshold) →
        c.starved + 1 < c.route.holdover → c.stateRule v =
          ({ c with starved := c.starved + 1, ws := up, state := if up = 1 then .holding else .fadingIn },
            c.starved == 0))
    ∧ (∀ i, c.state = .fadingIn → v.frameOn (c.route.link role) = none →
        v.frameOn (c.route.link role.other) = some i → c.route.threshold ≤ c.starved + 1 → c.stateRule v =
          ({ c with role := some role.other, held := some i, starved := 0, ws := up
                    state := if up = 1 then .live else .fadingIn }, c.starved == 0))
    ∧ (c.state = .fadingIn → v.frameOn (c.route.link role) = none →
        (v.frameOn (c.route.link role.other) = none ∨ c.starved + 1 < c.route.threshold) →
        c.route.holdover ≤ c.starved + 1 → c.stateRule v =
          (if down = 0 then enteredDark v c
            else { c with state := .fadingOut, starved := c.starved + 1, ws := down }, c.starved == 0))
    ∧ (∀ r i, c.state = .fadingOut → v.candidate c.route = some (r, i) → c.stateRule v =
        ({ c with role := some r, held := some i, starved := 0, ws := up
                  state := if up = 1 then .live else .fadingIn }, false))
    ∧ (c.state = .fadingOut → v.candidate c.route = none → down ≠ 0 →
        c.stateRule v = ({ c with ws := down }, false))
    ∧ (c.state = .fadingOut → v.candidate c.route = none → down = 0 → c.stateRule v = (enteredDark v c, false))

/-! ### Stream links -/

/-- The receiver's reports, and the signal-loss timer: SEEKING and ALIGNED go to OFF, LOCKED to HOLDOVER with its
FILLING slot freed INCOMPLETE, and HOLDOVER counts its good headers again from 0. A link that left ALIGNED for LOCKED at
the very instant of signal lost goes to OFF (R125; what becomes of its frame is the model's reading, log entry 29). A
header that had not come when the signal went is lost with its return. The link states in which headers are judged. -/
def Obligations.SignalReportsAndLoss : Prop :=
  (∀ x : LinkState, x.judges = true ↔ x ≠ .off ∧ ∀ e, x ≠ .quiet e)
  ∧ (∀ (s : State) (t : Nat) (l : Link),
    let now := max s.now t
    let p := s.ports.get l
    (p.signal = false → p.state = .off → s.part.state ≠ .initializing →
      ∃ s', exec (.signalPresent t l) s = .next s' ∧ s' = { s with
        now := now
        ports := s.ports.set l
          { p with signal := true, signalLoss := none, state := .seeking (now + 5000000), previous := none
                   frame := .none }
        part := { s.part with idleTimer := s'.part.idleTimer } } ∧ followsIdleRule s.part.idleTimer s')
    ∧ (p.signal = false → (p.state ≠ .off ∨ s.part.state = .initializing) →
      exec (.signalPresent t l) s = .next { s with
        now := now
        ports := s.ports.set l { p with
          signal := true
          signalLoss := none
          frame := (match p.frame with
            | .body b => .body { b with parsed := b.parsed && !b.broken }
            | .awaitingHeader => .headerLost
            | other => other) } })
    ∧ (p.signal = true → ∃ s', exec (.signalAbsent t l) s = .next s'
        ∧ s' = { s with
          now := now
          ports := s.ports.set l { p with
            signal := false
            frame := (match p.frame with
              | .body b => .body { b with buffer := [], broken := true }
              | other => other)
            signalLoss := if p.state.judges then some (now + 3000) else none }
          flagUnit := s'.flagUnit }
        ∧ flagsLatched s s' (if p.frame.inPacket then [(Event.mgmtReject l).number] else [])))
  ∧ ∀ (s : State) (l : Link) (e : Nat), (s.ports.get l).signalLoss = some e →
    let now := max s.now e
    let lost := fun (s' : State) (p : Port) => s' = { s with
      now := now, ports := s.ports.set l p, store := s'.store
      part := { s.part with idleTimer := s'.part.idleTimer }, flagUnit := s'.flagUnit }
      ∧ followsIdleRule s.part.idleTimer s'
    (∀ x : Nat, ((s.ports.get l).state = .seeking x ∨ ∃ g, (s.ports.get l).state = .aligned x g) →
      ∃ s', exec (.signalLost l) s = .next s' ∧ s'.store = s.store ∧ flagsLatched s s' []
        ∧ lost s' { s.ports.get l with state := .off, frame := .none, signalLoss := none })
    ∧ (∀ bad since : Nat, (s.ports.get l).state = .locked bad since → ∃ s', exec (.signalLost l) s = .next s'
        ∧ lost s' (if (s.ports.get l).fromAligned = true ∧ e ≤ since then
            { s.ports.get l with state := .off, frame := .none, signalLoss := none }
          else
            { s.ports.get l with state := .holdover (now + 600000) 0, frame := .skipping, signalLoss := none })
        ∧ s'.store = fillingDropped s l .incomplete
        ∧ flagsLatched s s' (rejectsAndDrops s l))
    ∧ (∀ x good : Nat, (s.ports.get l).state = .holdover x good → ∃ s', exec (.signalLost l) s = .next s'
        ∧ s'.store = s.store ∧ flagsLatched s s' []
        ∧ lost s' { s.ports.get l with state := .holdover x 0, signalLoss := none })

/-- A delimiter ends the frame in progress: a FILLING slot is freed INCOMPLETE, and a header is awaited. A bad header,
which is twelve bytes that are no header of R107, and a header that a delimiter cuts short: SEEKING stays, ALIGNED goes
to SEEKING, HOLDOVER counts from 0, a LOCKED link counts one bad header and enters HOLDOVER at the second. That the
cut-short header of a broken frame counts too is the model's reading (log entry 12). Where no header is awaited, as after
the return of a signal that was absent, none is judged up to the next delimiter. What arrives at the instant of
signal lost, and is taken before it, counts as well (log entry 29). -/
def Obligations.DelimitersAndBadHeaders : Prop :=
  (∀ (s : State) (t : Nat) (l : Link), hearsLine (s.ports.get l) (max s.now t) → (s.ports.get l).state.judges = true →
    (s.ports.get l).frame ≠ .awaitingHeader → (s.ports.get l).frame ≠ .headerLost →
    ∃ s', exec (.frameDelimiter t l) s = .next s'
      ∧ s' = { s with
        now := max s.now t
        ports := s.ports.set l { s.ports.get l with frame := .awaitingHeader }
        store := fillingDropped s l .incomplete
        part := { s.part with idleTimer := s'.part.idleTimer }
        flagUnit := s'.flagUnit }
      ∧ followsIdleRule s.part.idleTimer s'
      ∧ flagsLatched s s' (rejectsAndDrops s l))
  ∧ (∀ (s : State) (t : Nat) (l : Link) (bytes : BitVec 96),
    ¬((s.ports.get l).state.judges = true ∧ awaitsHeader (s.ports.get l) (max s.now t)) →
    exec (.frameHeader t l bytes) s = .next { s with now := max s.now t })
  ∧ ∀ (s : State) (t : Nat) (l : Link) (c : Instr) (y : FrameProgress),
    let p := s.ports.get l
    fillingIndex s l = none →
    ((∃ bytes, c = .frameHeader t l bytes ∧ badHeaderBytes bytes ∧ awaitsHeader p (max s.now t) ∧ y = .skipping)
      ∨ c = .frameDelimiter t l ∧ hearsLine p (max s.now t) ∧ (p.frame = .awaitingHeader ∨ p.frame = .headerLost)
        ∧ y = .awaitingHeader) →
    let becomes := fun (st : LinkState) => ∃ s', exec c s = .next s'
      ∧ s' = { s with
        now := max s.now t
        ports := s.ports.set l { p with state := st, frame := y }
        part := { s.part with idleTimer := s'.part.idleTimer }
        flagUnit := s'.flagUnit }
      ∧ followsIdleRule s.part.idleTimer s' ∧ flagsLatched s s' []
    (∀ e, p.state = .seeking e → becomes (.seeking e))
    ∧ (∀ e good, p.state = .aligned e good → becomes (.seeking e))
    ∧ (∀ since, p.state = .locked 0 since → becomes (.locked 1 since))
    ∧ (∀ bad since, 1 ≤ bad → p.state = .locked bad since → becomes (.holdover (max s.now t + 600000) 0))
    ∧ (∀ e good, p.state = .holdover e good → becomes (.holdover e 0))

/-- Good headers that do not lock the link: the first in SEEKING, a rising one and a falling one in ALIGNED and in
HOLDOVER. Each sets the previous target, and its frame is read and discarded. A header at the instant of signal lost that
is taken first counts as well, and its frame is broken (log entry 29). -/
def Obligations.GoodHeadersAlignALink : Prop :=
  ∀ (s : State) (t : Nat) (l : Link) (bytes : BitVec 96) (h : Header), h.carriedBy bytes →
    awaitsHeader (s.ports.get l) (max s.now t) →
    let p := s.ports.get l
    let rises := ∀ q, p.previous = some q → laterThan h.target q = true
    let counted := fun (x : LinkState) => ∃ s', exec (.frameHeader t l bytes) s = .next s' ∧ s' = { s with
      now := max s.now t
      ports := s.ports.set l { p with
        state := x, previous := some h.target, frame := .body ⟨h, 0, false, 0, [], (!p.signal)⟩ }
      part := { s.part with idleTimer := s'.part.idleTimer } } ∧ followsIdleRule s.part.idleTimer s'
    (∀ e, p.state = .seeking e → counted (.aligned e 1))
    ∧ (∀ e good, p.state = .aligned e good → good < 3 → rises → counted (.aligned e (good + 1)))
    ∧ (∀ e good, p.state = .aligned e good → ¬rises → counted (.aligned e 1))
    ∧ (∀ e good, p.state = .holdover e good → 1 ≤ good → good < 3 → rises → counted (.holdover e (good + 1)))
    ∧ (∀ e good, p.state = .holdover e good → (good = 0 ∨ ¬rises) → counted (.holdover e 1))

/-- The good header that makes the fourth locks the link and its frame is offered; a good header of a LOCKED link is
offered if its target rises and dropped DUPLICATE if it does not. The admission tests of the Frame Store, in order, and
the slot that a frame is taken into. A header at the instant of signal lost that is taken first counts as well, and its
frame is broken (log entry 29). -/
def Obligations.HeadersOfALockedLink : Prop :=
  (∀ (s : State) (t : Nat) (l : Link) (bytes : BitVec 96) (h : Header), h.carriedBy bytes →
    awaitsHeader (s.ports.get l) (max s.now t) →
    let p := s.ports.get l
    let now := max s.now t
    let read := fun (x : LinkState) (fromAligned : Bool) (st : PartState) => { s with
      now := now
      part := { s.part with state := st }
      ports := s.ports.set l { p with
        state := x, previous := some h.target, frame := .body ⟨h, 0, true, 0, [], (!p.signal)⟩
        fromAligned := fromAligned } }
    let rises := ∀ q, p.previous = some q → laterThan h.target q = true
    let answer := fun (x : State) => ∃ e, exec (.frameHeader t l bytes) s =
        .next (latchEdges s { x with part := { x.part with idleTimer := e } })
      ∧ followsIdleRule s.part.idleTimer { x with part := { x.part with idleTimer := e } }
    (∀ (e : Nat) (fromAligned : Bool),
      p.state = (if fromAligned then .aligned e 3 else .holdover e 3) → rises →
      answer (offerFrame l h (read (.locked 0 now) fromAligned
        (if s.part.state = .standby .automatic then .waking (now + 200000) else s.part.state))))
    ∧ (∀ bad since, p.state = .locked bad since → rises →
      answer (offerFrame l h (read (.locked 0 since) p.fromAligned s.part.state)))
    ∧ (∀ bad since, p.state = .locked bad since → ¬rises →
      answer (dropFrame l .duplicate (read (.locked 0 since) p.fromAligned s.part.state))))
  ∧ ∀ (s : State) (l : Link) (h : Header),
    let held := fun x : Period => ∃ i : SlotIndex, ((s.store.get l).slots.get i).target = some x
    let dropped := fun (cause : DropCause) => offerFrame l h s = dropFrame l cause s
    (∀ cause : DropCause, dropFrame l cause s =
        State.raise { s with store := s.store.set l { s.store.get l with lastDrop := cause } } (.frameDrop l))
    ∧ (s.dome = none → dropped .noClock)
    ∧ ∀ d : Period, s.dome = some d →
      (s.part.state.inStandby = true → dropped .standby)
      ∧ (s.part.state.inStandby = false →
        (atOrBefore h.target d = true → dropped .stale)
        ∧ (atOrBefore h.target d = false → laterThan h.target (d + 16) = true → dropped .early)
        ∧ (atOrBefore h.target d = false → laterThan h.target (d + 16) = false → held h.target → dropped .duplicate)
        ∧ (atOrBefore h.target d = false → laterThan h.target (d + 16) = false → ¬held h.target →
          (s.store.get l).slots.find Slot.isFree = none → dropped .storeFull)
        ∧ ∀ i : SlotIndex, atOrBefore h.target d = false → laterThan h.target (d + 16) = false → ¬held h.target →
          (s.store.get l).slots.find Slot.isFree = some i →
          offerFrame l h s = s.setSlot ⟨l, i⟩ (.filling ⟨h.target, h.width, h.height, h.encoding, []⟩))

/-- A pixel line of the frame being read is counted. It is stored in the FILLING slot, if the frame has one, and
discarded if it has none; the last line completes the frame or drops it LATE. The last line of a frame at the instant of
signal lost is taken too (R104, log entry 29). Bytes that are no line of the frame change nothing (the model's form of
the row, log entry 19). The pixels of a line. -/
def Obligations.PixelLinesFillAndComplete : Prop :=
  (∀ (s : State) (t : Nat) (l : Link) (bytes : List Byte) (b : FrameBody),
    (s.ports.get l).frame = .body b → lineTaken (s.ports.get l) (max s.now t) b bytes →
    let base := { s with
      now := max s.now t
      ports := s.ports.set l { s.ports.get l with frame := .body { b with lines := b.lines + 1 } } }
    (fillingIndex s l = none → exec (.pixelLine t l bytes) s = .next base)
    ∧ ∀ (i : SlotIndex) (f : Frame), fillingIndex s l = some i → s.slot ⟨l, i⟩ = .filling f →
      let f' := { f with lines := f.lines ++ [pixelsOf b.header.encoding bytes] }
      (f'.lines.length < f.height → exec (.pixelLine t l bytes) s = .next (base.setSlot ⟨l, i⟩ (.filling f')))
      ∧ (∀ d, f.height ≤ f'.lines.length → s.dome = some d → laterThan f.target d = true →
          exec (.pixelLine t l bytes) s = .next { base with
            store := s.store.set l { s.store.get l with
              slots := (s.store.get l).slots.set i (.complete f' ⟨false, false⟩)
              leads := ((f.target - d).toNat :: (s.store.get l).leads).take 64 } })
      ∧ (∀ d, f.height ≤ f'.lines.length → s.dome = some d → laterThan f.target d = false →
          exec (.pixelLine t l bytes) s = .next (dropFrame l .late (base.setSlot ⟨l, i⟩ .free))))
  ∧ (∀ (s : State) (t : Nat) (l : Link) (bytes : List Byte),
    (∀ b, (s.ports.get l).frame = .body b → ¬lineTaken (s.ports.get l) (max s.now t) b bytes) →
    exec (.pixelLine t l bytes) s = .next { s with now := max s.now t })
  ∧ ∀ (e : FrameEncoding) (r g b : Word16) (upper : BitVec 6) (rest : List Byte),
    let sent := fun x : Word16 => beBytes 2 x.toNat
    pixelsOf e [] = []
    ∧ pixelsOf .lin16 (sent r ++ sent g ++ sent b ++ rest) = ⟨r, g, b⟩ :: pixelsOf .lin16 rest
    ∧ ∀ x y z : BitVec 10,
      pixelsOf .gamma10 (sent (upper ++ x) ++ sent (upper ++ y) ++ sent (upper ++ z) ++ rest) =
        ⟨x.setWidth 16, y.setWidth 16, z.setWidth 16⟩ :: pixelsOf .gamma10 rest

/-- The bytes of a parsed management area. They are kept until they make a packet, in however many parts they come; the
whole packet `p` with the right check goes to the tail of its link's queue, or is dropped at a full one; with a wrong
check it is dropped; a length above 240 ends the area. Bytes behind a packet go on with the next (the parts and the
longer run are the model's form of the row, log entry 5). Bytes outside a parsed area change nothing. -/
def Obligations.ManagementPacketsReachTheirQueue : Prop :=
  (∀ (s : State) (t : Nat) (l : Link) (bytes : List Byte) (b : FrameBody), packetDue (s.ports.get l) b →
    let come := b.buffer ++ bytes
    let answer := exec (.managementPacket t l bytes) s
    let after := fun (x : FrameProgress) => { s with
      now := max s.now t, ports := s.ports.set l { s.ports.get l with frame := x } }
    let parsed := FrameProgress.body { b with packets := b.packets + 1, buffer := [] }
    let rejected := fun (x : FrameProgress) => (after x).raise (.mgmtReject l)
    (come.length < 6 → answer = .next (after (.body { b with buffer := come })))
    ∧ (∀ n : Nat, n < 65536 → fieldAt come 4 (beBytes 2 n) →
      (240 < n → answer = .next (rejected .skipping))
      ∧ (n ≤ 240 → come.length < n + 8 → answer = .next (after (.body { b with buffer := come }))))
    ∧ ∀ (p : Packet) (check : Word16), p.payload.length ≤ 240 → come = p.head ++ beBytes 2 check.toNat →
      (come ≠ withCheck p.head → answer = .next (rejected parsed))
      ∧ (come = withCheck p.head → answer = .next (
          if (s.engine.commands.get l).length < 16 then
            { after parsed with engine := { s.engine with
                commands := s.engine.commands.set l (s.engine.commands.get l ++ [p]) } }
          else rejected parsed))
      ∧ ∀ (rest : List Byte) (s' : State), answer = .next s' →
          exec (.managementPacket t l (bytes ++ rest)) s = exec (.managementPacket t l rest) s')
  ∧ ∀ (s : State) (t : Nat) (l : Link) (bytes : List Byte), (∀ b, ¬packetDue (s.ports.get l) b) →
      exec (.managementPacket t l bytes) s = .next { s with now := max s.now t }

/-- Entry into QUIET at the acquisition and loss-limit timers, with the loads it loses, and the end of QUIET at the quiet
timer. -/
def Obligations.QuietFollowsALinkFailure : Prop :=
  (∀ (s : State) (l : Link) (e : Nat) (c : Instr),
    ((c = .linkAcquisitionTimeout l ∧ ((s.ports.get l).state = .seeking e ∨ ∃ g, (s.ports.get l).state = .aligned e g))
      ∨ (c = .lossLimitExpiry l ∧ ∃ g, (s.ports.get l).state = .holdover e g)) →
    ∃ s', exec c s = .next s' ∧ s' = { s with
        now := max s.now e
        ports := s.ports.set l { s.ports.get l with
          state := .quiet (max s.now e + 250000), previous := none, frame := .none, signalLoss := none }
        pairs := forPairs (fun o k => { s.pair o k with
          bank0 := withoutLoad l (s.pair o k).bank0, bank1 := withoutLoad l (s.pair o k).bank1 })
        part := { s.part with idleTimer := s'.part.idleTimer }
        flagUnit := s'.flagUnit }
      ∧ followsIdleRule s.part.idleTimer s'
      ∧ flagsLatched s s' ((Event.linkFail l).number ::
          if somePair fun o k => loadingFrom l (s.pair o k).bank0 || loadingFrom l (s.pair o k).bank1 then [22] else []))
  ∧ ∀ (s : State) (l : Link) (e : Nat), (s.ports.get l).state = .quiet e →
      ∃ s', exec (.quietTimerExpiry l) s = .next s' ∧ s' = { s with
        now := max s.now e
        ports := s.ports.set l (
            if (s.ports.get l).signal then
              { s.ports.get l with state := .seeking (max s.now e + 5000000), previous := none, frame := .none }
            else { s.ports.get l with state := .off, frame := .none, signalLoss := none })
        part := { s.part with idleTimer := s'.part.idleTimer } }
      ∧ followsIdleRule s.part.idleTimer s'

/-! ### Douser lines, timers and the service line -/

/-- The douser timer asserts the request; the open timer is then found expired by the next start; the douser lines follow
the table of R143. -/
def Obligations.DouserTimersAndLines : Prop :=
  (∀ (s : State) (o : Out) (e : Nat), (s.controllers.get o).douserTimer = some e →
    exec (.douserTimerExpiry o) s = .next { s with
      now := max s.now e
      controllers := s.controllers.set o { s.controllers.get o with douser := true, douserTimer := none } })
  ∧ (∀ (s : State) (o : Out) (e : Nat), (s.controllers.get o).openTimer = .running e →
      exec (.openTimerExpiry o) s = .next { s with
        now := max s.now e, controllers := s.controllers.set o { s.controllers.get o with openTimer := .expired } })
  ∧ ∀ (s : State) (o : Out),
    (s.part.state.inStandby = true → douserLine s o = true)
    ∧ (∀ e, s.part.service = .dark e → douserLine s o = true)
    ∧ (∀ e, s.part.state.inStandby = false → s.part.service = .grid e → douserLine s o = false)
    ∧ (s.part.state.inStandby = false → s.part.service = .none → douserLine s o = (s.controllers.get o).douser)

/-- One line sample at a step with no command waiting: a taken level changes only at the fourth sample in a row that
differs from it. The decoder is ready after 80 samples of low without a break, a taken rise then starts cell 0, each
cell is taken 5 samples after it begins (log entry 15), and the word is judged 480 samples after cell 0 began. The cells
stand latest first, so that cell 0 is the most significant of the word's 48 bits. A change of the service line's taken
level is an event (the model's form of the two samplers, log entry 6). -/
def Obligations.TakenLevelsChangeAtTheFourthSample : Prop :=
  (∀ cells : List Bool, cells.length = 48 → ∀ i : Nat, i < 48 → cells[i]? = some ((cellsWord cells).getLsbD i))
  ∧ ∀ (s : State) (x : LineSample) (rest : List LineSample), s.pending = [] → s.samples = x :: rest →
    let now := max s.now x.time
    let line := s.clock.line
    let decoder := s.part.decoder
    (x.line = .sync → s.clock.released.isSome = true → ∃ s', step s = .next s' ∧ s' = { s with
        now := now, samples := rest, clock := { s.clock with line := s'.clock.line }, pending := s'.pending }
      ∧ (x.level = line.level → s'.clock.line.level = line.level ∧ s'.clock.line.differing = 0)
      ∧ (x.level ≠ line.level → line.differing + 1 < 4 →
          s'.clock.line.level = line.level ∧ s'.clock.line.differing = line.differing + 1)
      ∧ (x.level ≠ line.level → 4 ≤ line.differing + 1 →
          s'.clock.line.level = x.level ∧ s'.clock.line.differing = 0)
      ∧ s'.clock.line.lowRun = (if s'.clock.line.level || line.level then 0 else min 80 (line.lowRun + 1))
      ∧ (line.reception = .waitingForRest → s'.pending = [] ∧ s'.clock.line.reception =
          if s'.clock.line.lowRun = 80 then .ready else .waitingForRest)
      ∧ (line.reception = .ready → s'.pending = [] ∧ s'.clock.line.reception =
          if line.level = false ∧ s'.clock.line.level = true then .receiving 0 [] else .ready)
      ∧ (∀ elapsed cells, line.reception = .receiving elapsed cells →
          let taken := if (elapsed + 1) % 10 = 5 then s'.clock.line.level :: cells else cells
          (elapsed + 1 < 480 → s'.pending = [] ∧ s'.clock.line.reception = .receiving (elapsed + 1) taken)
          ∧ (elapsed + 1 = 480 →
              s'.pending = [.syncWord now (cellsWord cells)] ∧ s'.clock.line.reception = .waitingForRest)))
    ∧ (x.line = .service → s.part.state ≠ .initializing →
        let after := fun (differing : Nat) (events : List Instr) => step s = .next { s with
          now := now, samples := rest, part := { s.part with decoder := { decoder with differing := differing } }
          pending := events }
        (x.level = decoder.level → after 0 [])
        ∧ (x.level ≠ decoder.level → decoder.differing + 1 < 4 → after (decoder.differing + 1) [])
        ∧ (x.level ≠ decoder.level → 4 ≤ decoder.differing + 1 →
            after 0 [if x.level then .serviceTakenRise now else .serviceTakenFall now]))

/-- Falls and rises of the taken level count the pulses of a group. The decoded group acts on the service override by its
count, 6, 8 and 10 alone; the override timer ends it. That a group of 6 under DARK leaves the images in progress as they
are is the model's reading (log entry 22). -/
def Obligations.ServiceGroupsSetTheOverride : Prop :=
  (∀ (s : State) (t : Nat), s.part.state ≠ .initializing →
    (s.part.decoder.level = true → exec (.serviceTakenFall t) s = .next { s with
      now := max s.now t
      part := { s.part with decoder := ⟨false, 0, some (s.part.decoder.group.getD 0), none⟩ } })
    ∧ (s.part.decoder.level = false → exec (.serviceTakenRise t) s = .next { s with
      now := max s.now t
      part := { s.part with
        decoder := ⟨true, 0, some (min 255 (s.part.decoder.group.getD 0 + 1)), some (max s.now t + 500000)⟩ } }))
  ∧ (∀ (s : State) (e : Nat), s.part.decoder.timer = some e →
    let now := max s.now e
    let count := s.part.decoder.group.getD 0
    ∃ s', exec .groupTimerExpiry s = .next s' ∧ s' = { s with
        now := now
        part := { s.part with
          decoder := { s.part.decoder with group := none, timer := none }
          service := (if count = 6 then .dark (now + 300000000) else if count = 8 then .grid (now + 300000000)
            else if count = 10 then .none else s.part.service)
          state := (match s.part.state with
            | .standby kind => if count = 8 then .waking (now + 200000) else .standby kind
            | other => other) }
        pipelines := (match s.part.service with
          | .dark _ => s.pipelines
          | _ => if count = 6 then
              s.pipelines.map (fun q => { q with raster := q.raster.map (Raster.blacken now) }) else s.pipelines)
        flagUnit := s'.flagUnit }
      ∧ flagsLatched s s' [])
  ∧ ∀ (s : State) (e : Nat), (s.part.service = .dark e ∨ s.part.service = .grid e) →
      exec .overrideTimerExpiry s = .next (latchEdges s { s with
        now := max s.now e, part := { s.part with service := .none } })

/-! ### Rendering -/

/-- What an output shows, by the first row of R78 that applies: code 0, DOT_GRID under the GRID override, the pattern on
the output, or content. How each pattern is drawn (R87 to R89). How far the code sent may lie from the exact one (which
of the codes it is, is a free value: log entry 3). A line of a raster is that of its snapshot, without the fade from the
line on from which it is unmixed, and code 0 from the line on from which it is blackened; which line these events mark
(from the spread of the lines over P, the model's reading: log entry 16). -/
def Obligations.RenderedCodes : Prop :=
  (∀ (n : Snapshot) (c : Component) (x y : Nat),
    (n.part ≠ .ready → n.code c x y = 0)
    ∧ (n.part = .ready → (∃ e, n.service = .dark e) → n.code c x y = 0)
    ∧ (n.part = .ready → n.service = .none → n.pattern = none → (n.output = .dark ∨ n.output = .opening) →
        n.code c x y = 0)
    ∧ (showsContent n → sourcePoint n x y = none → n.code c x y = 0)
    ∧ (∀ u v : Rat, showsContent n → sourcePoint n x y = some (u, v) →
        n.code c x y = sentCode n.format.encoding (outputValue n x y (frameLinear n c u v) n.ws)))
  ∧ (∀ (n : Snapshot) (c : Component) (x y : Nat) (level : Word16),
    let grid : Grid := match n.warp with
      | none => ⟨8, 8⟩
      | some w => w.grid
    let centre := fun (i nodes size : Nat) => ((i : Rat) * ((size : Rat) - 1) / ((nodes : Rat) - 1) + 1 / 2).floor
    let onDot := ∃ i j : Nat, i < grid.gx ∧ j < grid.gy
      ∧ ((x : Int) - centre i grid.gx n.format.width).natAbs ≤ 1
      ∧ ((y : Int) - centre j grid.gy n.format.height).natAbs ≤ 1
    let line := fun a b : Nat => if a % 64 = 0 ∨ b % 64 = 0 then (level.toNat : Rat) / 65535 else 0
    (showsPattern n .dotGrid level →
      (onDot → n.code c x y = sentCode n.format.encoding ((level.toNat : ℝ) / 65535)) ∧ (¬onDot → n.code c x y = 0))
    ∧ (showsPattern n .sourceGrid level →
      (sourcePoint n x y = none → n.code c x y = 0)
      ∧ ∀ u v : Rat, sourcePoint n x y = some (u, v) → n.code c x y = sentCode n.format.encoding
          (outputValue n x y ((sampleAt n.format.width n.format.height line u v : Rat) : ℝ) 1))
    ∧ (showsPattern n .flat level →
      n.code c x y = sentCode n.format.encoding (outputValue n x y ((level.toNat : ℝ) / 65535) 1))
    ∧ (showsPattern n .blendView level →
      n.code c x y = sentCode n.format.encoding (max 0 (min 1 ((blendGain n x y : Rat) : ℝ)))))
  ∧ (∀ (e : OutputEncoding) (l : ℝ), 0 ≤ l → l ≤ 1 →
      exactCode e l = ⌊((match e with
        | .gamma10 => 1023
        | .gamma12 => 4095) : ℝ) * l ^ (1 / 2.4 : ℝ) + 1 / 2⌋₊
      ∧ exactCode e l ≤ maxCode e ∧ sentCode e l ≤ maxCode e
      ∧ sentCode e l ≤ exactCode e l + 1 ∧ exactCode e l ≤ sentCode e l + 1)
  ∧ (∀ (r : Raster) (c : Component) (x y : Nat),
    (∀ b, r.blackFrom = some b → b ≤ y → r.code c x y = 0)
    ∧ ((∀ b, r.blackFrom = some b → y < b) →
      ((∀ m, r.unmixedFrom = some m → y < m) → r.code c x y = r.snapshot.code c x y)
      ∧ ∀ m, r.unmixedFrom = some m → m ≤ y → r.code c x y = { r.snapshot with fade := none }.code c x y))
  ∧ (∀ (r : Raster) (now : Nat),
    r.blacken now = { r with blackFrom := markedFrom r.blackFrom (lineAfter r now) }
    ∧ (r.snapshot.fade = none → r.unmix now = r)
    ∧ (r.snapshot.fade ≠ none → r.unmix now = { r with unmixedFrom := markedFrom r.unmixedFrom (lineAfter r now) }))
  ∧ ∀ (s : State) (o : Out), stopMixing o .warp s = s
    ∧ stopMixing o .blend s = { s with pipelines := s.pipelines.set o { s.pipelines.get o with
        raster := (s.pipelines.get o).raster.map (Raster.unmix s.now) } }

/-- The pixel path as far as the combination, which is stated with the sources of an image: node records, the cell of a
pixel, the source point, the sample in linear light, and the blend gain and lift with the fade mix. -/
def Obligations.PixelPathOfContent : Prop :=
  (∀ (w : Table) (i j : Nat) (u v : Word32),
    fieldAt w.bytes ((j * w.grid.gx + i) * 8) (beBytes 4 u.toNat ++ beBytes 4 v.toNat) →
    w.uCode i j = u.toInt ∧ w.vCode i j = v.toInt ∧ (w.masked i j = true ↔ u = 0x80000000#32))
  ∧ (∀ (w : Table) (i j : Nat) (g l : Word16),
    fieldAt w.bytes ((j * w.grid.gx + i) * 4) (beBytes 2 g.toNat ++ beBytes 2 l.toNat) →
    w.gain i j = (g.toNat : Rat) / 65535 ∧ w.lift i j = (l.toNat : Rat) / 65535 / 16)
  ∧ (∀ (g : Grid) (f : Format) (x y : Nat), 2 ≤ g.gx → 2 ≤ g.gy → 2 ≤ f.width → 2 ≤ f.height → x < f.width → y < f.height →
    let cell := gridCell g f x y
    (cell.i0 : Rat) + cell.fx = (x : Rat) * ((g.gx : Rat) - 1) / ((f.width : Rat) - 1)
    ∧ (cell.j0 : Rat) + cell.fy = (y : Rat) * ((g.gy : Rat) - 1) / ((f.height : Rat) - 1)
    ∧ cell.i0 + 2 ≤ g.gx ∧ cell.j0 + 2 ≤ g.gy ∧ 0 ≤ cell.fx ∧ 0 ≤ cell.fy
    ∧ (cell.fx < 1 ∨ cell.fx = 1 ∧ cell.i0 + 2 = g.gx) ∧ (cell.fy < 1 ∨ cell.fy = 1 ∧ cell.j0 + 2 = g.gy))
  ∧ (∀ (n : Snapshot) (x y : Nat),
    (n.warp = none → sourcePoint n x y = some ((x : Rat), (y : Rat)))
    ∧ ∀ w : Table, n.warp = some w →
      let cell := gridCell w.grid n.format x y
      let masked := w.masked cell.i0 cell.j0 = true ∨ w.masked (cell.i0 + 1) cell.j0 = true
        ∨ w.masked cell.i0 (cell.j0 + 1) = true ∨ w.masked (cell.i0 + 1) (cell.j0 + 1) = true
      (masked → sourcePoint n x y = none)
      ∧ (¬masked → sourcePoint n x y = some
          (((bilinear cell (fun i j => w.uCode i j) + 1 / 2).floor : Rat) / 256,
            ((bilinear cell (fun i j => w.vCode i j) + 1 / 2).floor : Rat) / 256)))
  ∧ (∀ (width height : Nat) (code : Nat → Nat → Rat) (u v : Rat),
    let outside := u < 0 ∨ (width : Rat) - 1 < u ∨ v < 0 ∨ (height : Rat) - 1 < v
    (outside → sampleAt width height code u v = 0)
    ∧ (¬outside → sampleAt width height code u v =
        bilinear ⟨u.floor.toNat, v.floor.toNat, u - u.floor, v - v.floor⟩ code))
  ∧ (∀ (n : Snapshot) (c : Component) (f : Frame) (u v : Rat), n.frame = some f →
    let sample := sampleAt f.width f.height (f.code c) u v
    frameLinear n c u v = match f.encoding with
      | .gamma10 => ((sample : ℝ) / 1023) ^ (2.4 : ℝ)
      | .lin16 => (sample : ℝ) / 65535)
  ∧ (∀ (f : Frame) (row : List Pixel) (p : Pixel) (a b : Nat), f.lines[b]? = some row → row[a]? = some p →
    f.code .red a b = p.red.toNat ∧ f.code .green a b = p.green.toNat ∧ f.code .blue a b = p.blue.toNat)
  ∧ (∀ (f : Format) (x y : Nat) (w : Table),
    gainOf none f x y = 1 ∧ liftOf none f x y = 0
    ∧ gainOf (some w) f x y = bilinear (gridCell w.grid f x y) w.gain
    ∧ liftOf (some w) f x y = bilinear (gridCell w.grid f x y) w.lift)
  ∧ ∀ (n : Snapshot) (x y : Nat),
    (n.fade = none → blendGain n x y = gainOf n.blend n.format x y ∧ blendLift n x y = liftOf n.blend n.format x y)
    ∧ ∀ m : FadeMix, n.fade = some m →
      let k : Rat := (m.fade.step : Rat) / m.fade.length
      blendGain n x y = k * gainOf n.blend n.format x y + (1 - k) * gainOf m.shadow n.format x y
      ∧ blendLift n x y = k * liftOf n.blend n.format x y + (1 - k) * liftOf m.shadow n.format x y

/-! ### Invariants of every step -/

/-- The invariants hold right after power-on reset. -/
def Obligations.InvariantsHoldAtReset : Prop :=
  QueuesOk State.reset ∧ BanksOk State.reset ∧ ClockOk State.reset ∧ StoreOk State.reset ∧ OutputsOk State.reset
  ∧ ∀ o : Out, DouserTimed State.reset o

/-- Every step keeps the queues within their places, one reserved place for each awaited verification, and the cues of
the list in their ranges, with a cue id of its own each. -/
def Obligations.StepKeepsQueues : Prop := ∀ s s' : State, QueuesOk s → step s = .next s' → QueuesOk s'

/-- Every step keeps active banks out of loads and pins exactly where a swap or a fade is in flight. -/
def Obligations.StepKeepsBanks : Prop := ∀ s s' : State, BanksOk s → step s = .next s' → BanksOk s'

/-- Every step keeps P and the miss count in range and the tracking window where R63 sets it. That the clock keeps its
reset values while reset is held is the model's reading (log entry 13), and the last start among them its choice (log
entry 27). -/
def Obligations.StepKeepsTheClock : Prop := ∀ s s' : State, ClockOk s → step s = .next s' → ClockOk s'

/-- Every step keeps the slots, the frames being filled and the lead histories as R90 to R96 have them. -/
def Obligations.StepKeepsTheStore : Prop := ∀ s s' : State, StoreOk s → step s = .next s' → StoreOk s'

/-- Every step keeps each output as its state has it, viewing exactly its held slot, and the part dark in standby. A
DARK output with its request released keeps a douser timer or a pattern in every step but one that takes SOFT_RESET,
which ends the pattern and leaves the controller as it was (log entry 10). -/
def Obligations.StepKeepsOutputs : Prop :=
  (∀ s s' : State, OutputsOk s → step s = .next s' → OutputsOk s')
  ∧ ∀ (s s' : State) (o : Out), DouserTimed s o → (∀ t : Nat, s.pending.head? ≠ some (.softReset t)) →
      step s = .next s' → DouserTimed s' o
end

