-- ==== Sys2Proof/Laws/State.lean ====
section
/-!
SUPPORT. What each record update does to each field of State, one equation a field.
-/
namespace Sys2Proof.Machine

open Sys2Proof

/-! ### State.advance -/

@[simp] theorem State.advance_now (s : State) (t : Nat) :
    (s.advance t).now = max s.now t := rfl

@[simp] theorem State.advance_pairs (s : State) (t : Nat) :
    (s.advance t).pairs = s.pairs := rfl

@[simp] theorem State.advance_cues (s : State) (t : Nat) :
    (s.advance t).cues = s.cues := rfl

@[simp] theorem State.advance_outcomes (s : State) (t : Nat) :
    (s.advance t).outcomes = s.outcomes := rfl

@[simp] theorem State.advance_pendingSwaps (s : State) (t : Nat) :
    (s.advance t).pendingSwaps = s.pendingSwaps := rfl

@[simp] theorem State.advance_fades (s : State) (t : Nat) :
    (s.advance t).fades = s.fades := rfl

@[simp] theorem State.advance_ramps (s : State) (t : Nat) :
    (s.advance t).ramps = s.ramps := rfl

@[simp] theorem State.advance_clock (s : State) (t : Nat) :
    (s.advance t).clock = s.clock := rfl

@[simp] theorem State.advance_pipelines (s : State) (t : Nat) :
    (s.advance t).pipelines = s.pipelines := rfl

@[simp] theorem State.advance_store (s : State) (t : Nat) :
    (s.advance t).store = s.store := rfl

@[simp] theorem State.advance_ports (s : State) (t : Nat) :
    (s.advance t).ports = s.ports := rfl

@[simp] theorem State.advance_controllers (s : State) (t : Nat) :
    (s.advance t).controllers = s.controllers := rfl

@[simp] theorem State.advance_engine (s : State) (t : Nat) :
    (s.advance t).engine = s.engine := rfl

@[simp] theorem State.advance_flagUnit (s : State) (t : Nat) :
    (s.advance t).flagUnit = s.flagUnit := rfl

@[simp] theorem State.advance_part (s : State) (t : Nat) :
    (s.advance t).part = s.part := rfl

@[simp] theorem State.advance_samples (s : State) (t : Nat) :
    (s.advance t).samples = s.samples := rfl

@[simp] theorem State.advance_pending (s : State) (t : Nat) :
    (s.advance t).pending = s.pending := rfl

/-! ### State.setPair -/

@[simp] theorem State.setPair_now (s : State) (o : Out) (k : Kind) (p : BankPair) :
    (s.setPair o k p).now = s.now := rfl

@[simp] theorem State.setPair_pairs (s : State) (o : Out) (k : Kind) (p : BankPair) :
    (s.setPair o k p).pairs = s.pairs.set2 o k p := rfl

@[simp] theorem State.setPair_cues (s : State) (o : Out) (k : Kind) (p : BankPair) :
    (s.setPair o k p).cues = s.cues := rfl

@[simp] theorem State.setPair_outcomes (s : State) (o : Out) (k : Kind) (p : BankPair) :
    (s.setPair o k p).outcomes = s.outcomes := rfl

@[simp] theorem State.setPair_pendingSwaps (s : State) (o : Out) (k : Kind) (p : BankPair) :
    (s.setPair o k p).pendingSwaps = s.pendingSwaps := rfl

@[simp] theorem State.setPair_fades (s : State) (o : Out) (k : Kind) (p : BankPair) :
    (s.setPair o k p).fades = s.fades := rfl

@[simp] theorem State.setPair_ramps (s : State) (o : Out) (k : Kind) (p : BankPair) :
    (s.setPair o k p).ramps = s.ramps := rfl

@[simp] theorem State.setPair_clock (s : State) (o : Out) (k : Kind) (p : BankPair) :
    (s.setPair o k p).clock = s.clock := rfl

@[simp] theorem State.setPair_pipelines (s : State) (o : Out) (k : Kind) (p : BankPair) :
    (s.setPair o k p).pipelines = s.pipelines := rfl

@[simp] theorem State.setPair_store (s : State) (o : Out) (k : Kind) (p : BankPair) :
    (s.setPair o k p).store = s.store := rfl

@[simp] theorem State.setPair_ports (s : State) (o : Out) (k : Kind) (p : BankPair) :
    (s.setPair o k p).ports = s.ports := rfl

@[simp] theorem State.setPair_controllers (s : State) (o : Out) (k : Kind) (p : BankPair) :
    (s.setPair o k p).controllers = s.controllers := rfl

@[simp] theorem State.setPair_engine (s : State) (o : Out) (k : Kind) (p : BankPair) :
    (s.setPair o k p).engine = s.engine := rfl

@[simp] theorem State.setPair_flagUnit (s : State) (o : Out) (k : Kind) (p : BankPair) :
    (s.setPair o k p).flagUnit = s.flagUnit := rfl

@[simp] theorem State.setPair_part (s : State) (o : Out) (k : Kind) (p : BankPair) :
    (s.setPair o k p).part = s.part := rfl

@[simp] theorem State.setPair_samples (s : State) (o : Out) (k : Kind) (p : BankPair) :
    (s.setPair o k p).samples = s.samples := rfl

@[simp] theorem State.setPair_pending (s : State) (o : Out) (k : Kind) (p : BankPair) :
    (s.setPair o k p).pending = s.pending := rfl

/-! ### State.setSlot -/

@[simp] theorem State.setSlot_now (s : State) (i : SlotId) (x : Slot) :
    (s.setSlot i x).now = s.now := rfl

@[simp] theorem State.setSlot_pairs (s : State) (i : SlotId) (x : Slot) :
    (s.setSlot i x).pairs = s.pairs := rfl

@[simp] theorem State.setSlot_cues (s : State) (i : SlotId) (x : Slot) :
    (s.setSlot i x).cues = s.cues := rfl

@[simp] theorem State.setSlot_outcomes (s : State) (i : SlotId) (x : Slot) :
    (s.setSlot i x).outcomes = s.outcomes := rfl

@[simp] theorem State.setSlot_pendingSwaps (s : State) (i : SlotId) (x : Slot) :
    (s.setSlot i x).pendingSwaps = s.pendingSwaps := rfl

@[simp] theorem State.setSlot_fades (s : State) (i : SlotId) (x : Slot) :
    (s.setSlot i x).fades = s.fades := rfl

@[simp] theorem State.setSlot_ramps (s : State) (i : SlotId) (x : Slot) :
    (s.setSlot i x).ramps = s.ramps := rfl

@[simp] theorem State.setSlot_clock (s : State) (i : SlotId) (x : Slot) :
    (s.setSlot i x).clock = s.clock := rfl

@[simp] theorem State.setSlot_pipelines (s : State) (i : SlotId) (x : Slot) :
    (s.setSlot i x).pipelines = s.pipelines := rfl

@[simp] theorem State.setSlot_store (s : State) (i : SlotId) (x : Slot) :
    (s.setSlot i x).store = s.store.set i.link { s.store.get i.link with slots := (s.store.get i.link).slots.set i.index x } := rfl

@[simp] theorem State.setSlot_ports (s : State) (i : SlotId) (x : Slot) :
    (s.setSlot i x).ports = s.ports := rfl

@[simp] theorem State.setSlot_controllers (s : State) (i : SlotId) (x : Slot) :
    (s.setSlot i x).controllers = s.controllers := rfl

@[simp] theorem State.setSlot_engine (s : State) (i : SlotId) (x : Slot) :
    (s.setSlot i x).engine = s.engine := rfl

@[simp] theorem State.setSlot_flagUnit (s : State) (i : SlotId) (x : Slot) :
    (s.setSlot i x).flagUnit = s.flagUnit := rfl

@[simp] theorem State.setSlot_part (s : State) (i : SlotId) (x : Slot) :
    (s.setSlot i x).part = s.part := rfl

@[simp] theorem State.setSlot_samples (s : State) (i : SlotId) (x : Slot) :
    (s.setSlot i x).samples = s.samples := rfl

@[simp] theorem State.setSlot_pending (s : State) (i : SlotId) (x : Slot) :
    (s.setSlot i x).pending = s.pending := rfl

/-! ### State.setPort -/

@[simp] theorem State.setPort_now (s : State) (l : Link) (p : Port) :
    (s.setPort l p).now = s.now := rfl

@[simp] theorem State.setPort_pairs (s : State) (l : Link) (p : Port) :
    (s.setPort l p).pairs = s.pairs := rfl

@[simp] theorem State.setPort_cues (s : State) (l : Link) (p : Port) :
    (s.setPort l p).cues = s.cues := rfl

@[simp] theorem State.setPort_outcomes (s : State) (l : Link) (p : Port) :
    (s.setPort l p).outcomes = s.outcomes := rfl

@[simp] theorem State.setPort_pendingSwaps (s : State) (l : Link) (p : Port) :
    (s.setPort l p).pendingSwaps = s.pendingSwaps := rfl

@[simp] theorem State.setPort_fades (s : State) (l : Link) (p : Port) :
    (s.setPort l p).fades = s.fades := rfl

@[simp] theorem State.setPort_ramps (s : State) (l : Link) (p : Port) :
    (s.setPort l p).ramps = s.ramps := rfl

@[simp] theorem State.setPort_clock (s : State) (l : Link) (p : Port) :
    (s.setPort l p).clock = s.clock := rfl

@[simp] theorem State.setPort_pipelines (s : State) (l : Link) (p : Port) :
    (s.setPort l p).pipelines = s.pipelines := rfl

@[simp] theorem State.setPort_store (s : State) (l : Link) (p : Port) :
    (s.setPort l p).store = s.store := rfl

@[simp] theorem State.setPort_ports (s : State) (l : Link) (p : Port) :
    (s.setPort l p).ports = s.ports.set l p := rfl

@[simp] theorem State.setPort_controllers (s : State) (l : Link) (p : Port) :
    (s.setPort l p).controllers = s.controllers := rfl

@[simp] theorem State.setPort_engine (s : State) (l : Link) (p : Port) :
    (s.setPort l p).engine = s.engine := rfl

@[simp] theorem State.setPort_flagUnit (s : State) (l : Link) (p : Port) :
    (s.setPort l p).flagUnit = s.flagUnit := rfl

@[simp] theorem State.setPort_part (s : State) (l : Link) (p : Port) :
    (s.setPort l p).part = s.part := rfl

@[simp] theorem State.setPort_samples (s : State) (l : Link) (p : Port) :
    (s.setPort l p).samples = s.samples := rfl

@[simp] theorem State.setPort_pending (s : State) (l : Link) (p : Port) :
    (s.setPort l p).pending = s.pending := rfl

/-! ### State.setController -/

@[simp] theorem State.setController_now (s : State) (o : Out) (c : Controller) :
    (s.setController o c).now = s.now := rfl

@[simp] theorem State.setController_pairs (s : State) (o : Out) (c : Controller) :
    (s.setController o c).pairs = s.pairs := rfl

@[simp] theorem State.setController_cues (s : State) (o : Out) (c : Controller) :
    (s.setController o c).cues = s.cues := rfl

@[simp] theorem State.setController_outcomes (s : State) (o : Out) (c : Controller) :
    (s.setController o c).outcomes = s.outcomes := rfl

@[simp] theorem State.setController_pendingSwaps (s : State) (o : Out) (c : Controller) :
    (s.setController o c).pendingSwaps = s.pendingSwaps := rfl

@[simp] theorem State.setController_fades (s : State) (o : Out) (c : Controller) :
    (s.setController o c).fades = s.fades := rfl

@[simp] theorem State.setController_ramps (s : State) (o : Out) (c : Controller) :
    (s.setController o c).ramps = s.ramps := rfl

@[simp] theorem State.setController_clock (s : State) (o : Out) (c : Controller) :
    (s.setController o c).clock = s.clock := rfl

@[simp] theorem State.setController_pipelines (s : State) (o : Out) (c : Controller) :
    (s.setController o c).pipelines = s.pipelines := rfl

@[simp] theorem State.setController_store (s : State) (o : Out) (c : Controller) :
    (s.setController o c).store = s.store := rfl

@[simp] theorem State.setController_ports (s : State) (o : Out) (c : Controller) :
    (s.setController o c).ports = s.ports := rfl

@[simp] theorem State.setController_controllers (s : State) (o : Out) (c : Controller) :
    (s.setController o c).controllers = s.controllers.set o c := rfl

@[simp] theorem State.setController_engine (s : State) (o : Out) (c : Controller) :
    (s.setController o c).engine = s.engine := rfl

@[simp] theorem State.setController_flagUnit (s : State) (o : Out) (c : Controller) :
    (s.setController o c).flagUnit = s.flagUnit := rfl

@[simp] theorem State.setController_part (s : State) (o : Out) (c : Controller) :
    (s.setController o c).part = s.part := rfl

@[simp] theorem State.setController_samples (s : State) (o : Out) (c : Controller) :
    (s.setController o c).samples = s.samples := rfl

@[simp] theorem State.setController_pending (s : State) (o : Out) (c : Controller) :
    (s.setController o c).pending = s.pending := rfl

/-! ### State.setLinkStore -/

@[simp] theorem State.setLinkStore_now (s : State) (l : Link) (x : LinkStore) :
    (s.setLinkStore l x).now = s.now := rfl

@[simp] theorem State.setLinkStore_pairs (s : State) (l : Link) (x : LinkStore) :
    (s.setLinkStore l x).pairs = s.pairs := rfl

@[simp] theorem State.setLinkStore_cues (s : State) (l : Link) (x : LinkStore) :
    (s.setLinkStore l x).cues = s.cues := rfl

@[simp] theorem State.setLinkStore_outcomes (s : State) (l : Link) (x : LinkStore) :
    (s.setLinkStore l x).outcomes = s.outcomes := rfl

@[simp] theorem State.setLinkStore_pendingSwaps (s : State) (l : Link) (x : LinkStore) :
    (s.setLinkStore l x).pendingSwaps = s.pendingSwaps := rfl

@[simp] theorem State.setLinkStore_fades (s : State) (l : Link) (x : LinkStore) :
    (s.setLinkStore l x).fades = s.fades := rfl

@[simp] theorem State.setLinkStore_ramps (s : State) (l : Link) (x : LinkStore) :
    (s.setLinkStore l x).ramps = s.ramps := rfl

@[simp] theorem State.setLinkStore_clock (s : State) (l : Link) (x : LinkStore) :
    (s.setLinkStore l x).clock = s.clock := rfl

@[simp] theorem State.setLinkStore_pipelines (s : State) (l : Link) (x : LinkStore) :
    (s.setLinkStore l x).pipelines = s.pipelines := rfl

@[simp] theorem State.setLinkStore_store (s : State) (l : Link) (x : LinkStore) :
    (s.setLinkStore l x).store = s.store.set l x := rfl

@[simp] theorem State.setLinkStore_ports (s : State) (l : Link) (x : LinkStore) :
    (s.setLinkStore l x).ports = s.ports := rfl

@[simp] theorem State.setLinkStore_controllers (s : State) (l : Link) (x : LinkStore) :
    (s.setLinkStore l x).controllers = s.controllers := rfl

@[simp] theorem State.setLinkStore_engine (s : State) (l : Link) (x : LinkStore) :
    (s.setLinkStore l x).engine = s.engine := rfl

@[simp] theorem State.setLinkStore_flagUnit (s : State) (l : Link) (x : LinkStore) :
    (s.setLinkStore l x).flagUnit = s.flagUnit := rfl

@[simp] theorem State.setLinkStore_part (s : State) (l : Link) (x : LinkStore) :
    (s.setLinkStore l x).part = s.part := rfl

@[simp] theorem State.setLinkStore_samples (s : State) (l : Link) (x : LinkStore) :
    (s.setLinkStore l x).samples = s.samples := rfl

@[simp] theorem State.setLinkStore_pending (s : State) (l : Link) (x : LinkStore) :
    (s.setLinkStore l x).pending = s.pending := rfl

/-! ### State.setPartState -/

@[simp] theorem State.setPartState_now (s : State) (p : PartState) :
    (s.setPartState p).now = s.now := rfl

@[simp] theorem State.setPartState_pairs (s : State) (p : PartState) :
    (s.setPartState p).pairs = s.pairs := rfl

@[simp] theorem State.setPartState_cues (s : State) (p : PartState) :
    (s.setPartState p).cues = s.cues := rfl

@[simp] theorem State.setPartState_outcomes (s : State) (p : PartState) :
    (s.setPartState p).outcomes = s.outcomes := rfl

@[simp] theorem State.setPartState_pendingSwaps (s : State) (p : PartState) :
    (s.setPartState p).pendingSwaps = s.pendingSwaps := rfl

@[simp] theorem State.setPartState_fades (s : State) (p : PartState) :
    (s.setPartState p).fades = s.fades := rfl

@[simp] theorem State.setPartState_ramps (s : State) (p : PartState) :
    (s.setPartState p).ramps = s.ramps := rfl

@[simp] theorem State.setPartState_clock (s : State) (p : PartState) :
    (s.setPartState p).clock = s.clock := rfl

@[simp] theorem State.setPartState_pipelines (s : State) (p : PartState) :
    (s.setPartState p).pipelines = s.pipelines := rfl

@[simp] theorem State.setPartState_store (s : State) (p : PartState) :
    (s.setPartState p).store = s.store := rfl

@[simp] theorem State.setPartState_ports (s : State) (p : PartState) :
    (s.setPartState p).ports = s.ports := rfl

@[simp] theorem State.setPartState_controllers (s : State) (p : PartState) :
    (s.setPartState p).controllers = s.controllers := rfl

@[simp] theorem State.setPartState_engine (s : State) (p : PartState) :
    (s.setPartState p).engine = s.engine := rfl

@[simp] theorem State.setPartState_flagUnit (s : State) (p : PartState) :
    (s.setPartState p).flagUnit = s.flagUnit := rfl

@[simp] theorem State.setPartState_part (s : State) (p : PartState) :
    (s.setPartState p).part = { s.part with state := p } := rfl

@[simp] theorem State.setPartState_samples (s : State) (p : PartState) :
    (s.setPartState p).samples = s.samples := rfl

@[simp] theorem State.setPartState_pending (s : State) (p : PartState) :
    (s.setPartState p).pending = s.pending := rfl

/-! ### State.setDecoder -/

@[simp] theorem State.setDecoder_now (s : State) (d : ServiceDecoder) :
    (s.setDecoder d).now = s.now := rfl

@[simp] theorem State.setDecoder_pairs (s : State) (d : ServiceDecoder) :
    (s.setDecoder d).pairs = s.pairs := rfl

@[simp] theorem State.setDecoder_cues (s : State) (d : ServiceDecoder) :
    (s.setDecoder d).cues = s.cues := rfl

@[simp] theorem State.setDecoder_outcomes (s : State) (d : ServiceDecoder) :
    (s.setDecoder d).outcomes = s.outcomes := rfl

@[simp] theorem State.setDecoder_pendingSwaps (s : State) (d : ServiceDecoder) :
    (s.setDecoder d).pendingSwaps = s.pendingSwaps := rfl

@[simp] theorem State.setDecoder_fades (s : State) (d : ServiceDecoder) :
    (s.setDecoder d).fades = s.fades := rfl

@[simp] theorem State.setDecoder_ramps (s : State) (d : ServiceDecoder) :
    (s.setDecoder d).ramps = s.ramps := rfl

@[simp] theorem State.setDecoder_clock (s : State) (d : ServiceDecoder) :
    (s.setDecoder d).clock = s.clock := rfl

@[simp] theorem State.setDecoder_pipelines (s : State) (d : ServiceDecoder) :
    (s.setDecoder d).pipelines = s.pipelines := rfl

@[simp] theorem State.setDecoder_store (s : State) (d : ServiceDecoder) :
    (s.setDecoder d).store = s.store := rfl

@[simp] theorem State.setDecoder_ports (s : State) (d : ServiceDecoder) :
    (s.setDecoder d).ports = s.ports := rfl

@[simp] theorem State.setDecoder_controllers (s : State) (d : ServiceDecoder) :
    (s.setDecoder d).controllers = s.controllers := rfl

@[simp] theorem State.setDecoder_engine (s : State) (d : ServiceDecoder) :
    (s.setDecoder d).engine = s.engine := rfl

@[simp] theorem State.setDecoder_flagUnit (s : State) (d : ServiceDecoder) :
    (s.setDecoder d).flagUnit = s.flagUnit := rfl

@[simp] theorem State.setDecoder_part (s : State) (d : ServiceDecoder) :
    (s.setDecoder d).part = { s.part with decoder := d } := rfl

@[simp] theorem State.setDecoder_samples (s : State) (d : ServiceDecoder) :
    (s.setDecoder d).samples = s.samples := rfl

@[simp] theorem State.setDecoder_pending (s : State) (d : ServiceDecoder) :
    (s.setDecoder d).pending = s.pending := rfl

/-! ### State.setService -/

@[simp] theorem State.setService_now (s : State) (v : Override) :
    (s.setService v).now = s.now := rfl

@[simp] theorem State.setService_pairs (s : State) (v : Override) :
    (s.setService v).pairs = s.pairs := rfl

@[simp] theorem State.setService_cues (s : State) (v : Override) :
    (s.setService v).cues = s.cues := rfl

@[simp] theorem State.setService_outcomes (s : State) (v : Override) :
    (s.setService v).outcomes = s.outcomes := rfl

@[simp] theorem State.setService_pendingSwaps (s : State) (v : Override) :
    (s.setService v).pendingSwaps = s.pendingSwaps := rfl

@[simp] theorem State.setService_fades (s : State) (v : Override) :
    (s.setService v).fades = s.fades := rfl

@[simp] theorem State.setService_ramps (s : State) (v : Override) :
    (s.setService v).ramps = s.ramps := rfl

@[simp] theorem State.setService_clock (s : State) (v : Override) :
    (s.setService v).clock = s.clock := rfl

@[simp] theorem State.setService_pipelines (s : State) (v : Override) :
    (s.setService v).pipelines = s.pipelines := rfl

@[simp] theorem State.setService_store (s : State) (v : Override) :
    (s.setService v).store = s.store := rfl

@[simp] theorem State.setService_ports (s : State) (v : Override) :
    (s.setService v).ports = s.ports := rfl

@[simp] theorem State.setService_controllers (s : State) (v : Override) :
    (s.setService v).controllers = s.controllers := rfl

@[simp] theorem State.setService_engine (s : State) (v : Override) :
    (s.setService v).engine = s.engine := rfl

@[simp] theorem State.setService_flagUnit (s : State) (v : Override) :
    (s.setService v).flagUnit = s.flagUnit := rfl

@[simp] theorem State.setService_part (s : State) (v : Override) :
    (s.setService v).part = { s.part with service := v } := rfl

@[simp] theorem State.setService_samples (s : State) (v : Override) :
    (s.setService v).samples = s.samples := rfl

@[simp] theorem State.setService_pending (s : State) (v : Override) :
    (s.setService v).pending = s.pending := rfl

/-! ### State.setLock -/

@[simp] theorem State.setLock_now (s : State) (m : Lock) :
    (s.setLock m).now = s.now := rfl

@[simp] theorem State.setLock_pairs (s : State) (m : Lock) :
    (s.setLock m).pairs = s.pairs := rfl

@[simp] theorem State.setLock_cues (s : State) (m : Lock) :
    (s.setLock m).cues = s.cues := rfl

@[simp] theorem State.setLock_outcomes (s : State) (m : Lock) :
    (s.setLock m).outcomes = s.outcomes := rfl

@[simp] theorem State.setLock_pendingSwaps (s : State) (m : Lock) :
    (s.setLock m).pendingSwaps = s.pendingSwaps := rfl

@[simp] theorem State.setLock_fades (s : State) (m : Lock) :
    (s.setLock m).fades = s.fades := rfl

@[simp] theorem State.setLock_ramps (s : State) (m : Lock) :
    (s.setLock m).ramps = s.ramps := rfl

@[simp] theorem State.setLock_clock (s : State) (m : Lock) :
    (s.setLock m).clock = s.clock := rfl

@[simp] theorem State.setLock_pipelines (s : State) (m : Lock) :
    (s.setLock m).pipelines = s.pipelines := rfl

@[simp] theorem State.setLock_store (s : State) (m : Lock) :
    (s.setLock m).store = s.store := rfl

@[simp] theorem State.setLock_ports (s : State) (m : Lock) :
    (s.setLock m).ports = s.ports := rfl

@[simp] theorem State.setLock_controllers (s : State) (m : Lock) :
    (s.setLock m).controllers = s.controllers := rfl

@[simp] theorem State.setLock_engine (s : State) (m : Lock) :
    (s.setLock m).engine = { s.engine with lock := m } := rfl

@[simp] theorem State.setLock_flagUnit (s : State) (m : Lock) :
    (s.setLock m).flagUnit = s.flagUnit := rfl

@[simp] theorem State.setLock_part (s : State) (m : Lock) :
    (s.setLock m).part = s.part := rfl

@[simp] theorem State.setLock_samples (s : State) (m : Lock) :
    (s.setLock m).samples = s.samples := rfl

@[simp] theorem State.setLock_pending (s : State) (m : Lock) :
    (s.setLock m).pending = s.pending := rfl

/-! ### dequeue -/

@[simp] theorem dequeue_now (l : Link) (rest : List Packet) (s : State) :
    (dequeue l rest s).now = s.now := rfl

@[simp] theorem dequeue_pairs (l : Link) (rest : List Packet) (s : State) :
    (dequeue l rest s).pairs = s.pairs := rfl

@[simp] theorem dequeue_cues (l : Link) (rest : List Packet) (s : State) :
    (dequeue l rest s).cues = s.cues := rfl

@[simp] theorem dequeue_outcomes (l : Link) (rest : List Packet) (s : State) :
    (dequeue l rest s).outcomes = s.outcomes := rfl

@[simp] theorem dequeue_pendingSwaps (l : Link) (rest : List Packet) (s : State) :
    (dequeue l rest s).pendingSwaps = s.pendingSwaps := rfl

@[simp] theorem dequeue_fades (l : Link) (rest : List Packet) (s : State) :
    (dequeue l rest s).fades = s.fades := rfl

@[simp] theorem dequeue_ramps (l : Link) (rest : List Packet) (s : State) :
    (dequeue l rest s).ramps = s.ramps := rfl

@[simp] theorem dequeue_clock (l : Link) (rest : List Packet) (s : State) :
    (dequeue l rest s).clock = s.clock := rfl

@[simp] theorem dequeue_pipelines (l : Link) (rest : List Packet) (s : State) :
    (dequeue l rest s).pipelines = s.pipelines := rfl

@[simp] theorem dequeue_store (l : Link) (rest : List Packet) (s : State) :
    (dequeue l rest s).store = s.store := rfl

@[simp] theorem dequeue_ports (l : Link) (rest : List Packet) (s : State) :
    (dequeue l rest s).ports = s.ports := rfl

@[simp] theorem dequeue_controllers (l : Link) (rest : List Packet) (s : State) :
    (dequeue l rest s).controllers = s.controllers := rfl

@[simp] theorem dequeue_engine (l : Link) (rest : List Packet) (s : State) :
    (dequeue l rest s).engine = { s.engine with commands := s.engine.commands.set l rest, arbiter := l } := rfl

@[simp] theorem dequeue_flagUnit (l : Link) (rest : List Packet) (s : State) :
    (dequeue l rest s).flagUnit = s.flagUnit := rfl

@[simp] theorem dequeue_part (l : Link) (rest : List Packet) (s : State) :
    (dequeue l rest s).part = s.part := rfl

@[simp] theorem dequeue_samples (l : Link) (rest : List Packet) (s : State) :
    (dequeue l rest s).samples = s.samples := rfl

@[simp] theorem dequeue_pending (l : Link) (rest : List Packet) (s : State) :
    (dequeue l rest s).pending = s.pending := rfl

/-! ### placeResult -/

@[simp] theorem placeResult_now (l : Link) (r : Result) (s : State) :
    (placeResult l r s).now = s.now := rfl

@[simp] theorem placeResult_pairs (l : Link) (r : Result) (s : State) :
    (placeResult l r s).pairs = s.pairs := rfl

@[simp] theorem placeResult_cues (l : Link) (r : Result) (s : State) :
    (placeResult l r s).cues = s.cues := rfl

@[simp] theorem placeResult_outcomes (l : Link) (r : Result) (s : State) :
    (placeResult l r s).outcomes = s.outcomes := rfl

@[simp] theorem placeResult_pendingSwaps (l : Link) (r : Result) (s : State) :
    (placeResult l r s).pendingSwaps = s.pendingSwaps := rfl

@[simp] theorem placeResult_fades (l : Link) (r : Result) (s : State) :
    (placeResult l r s).fades = s.fades := rfl

@[simp] theorem placeResult_ramps (l : Link) (r : Result) (s : State) :
    (placeResult l r s).ramps = s.ramps := rfl

@[simp] theorem placeResult_clock (l : Link) (r : Result) (s : State) :
    (placeResult l r s).clock = s.clock := rfl

@[simp] theorem placeResult_pipelines (l : Link) (r : Result) (s : State) :
    (placeResult l r s).pipelines = s.pipelines := rfl

@[simp] theorem placeResult_store (l : Link) (r : Result) (s : State) :
    (placeResult l r s).store = s.store := rfl

@[simp] theorem placeResult_ports (l : Link) (r : Result) (s : State) :
    (placeResult l r s).ports = s.ports := rfl

@[simp] theorem placeResult_controllers (l : Link) (r : Result) (s : State) :
    (placeResult l r s).controllers = s.controllers := rfl

@[simp] theorem placeResult_engine (l : Link) (r : Result) (s : State) :
    (placeResult l r s).engine = { s.engine with results := s.engine.results.set l (s.engine.results.get l ++ [r]) } := rfl

@[simp] theorem placeResult_flagUnit (l : Link) (r : Result) (s : State) :
    (placeResult l r s).flagUnit = s.flagUnit := rfl

@[simp] theorem placeResult_part (l : Link) (r : Result) (s : State) :
    (placeResult l r s).part = s.part := rfl

@[simp] theorem placeResult_samples (l : Link) (r : Result) (s : State) :
    (placeResult l r s).samples = s.samples := rfl

@[simp] theorem placeResult_pending (l : Link) (r : Result) (s : State) :
    (placeResult l r s).pending = s.pending := rfl

/-! ### reservePlace -/

@[simp] theorem reservePlace_now (l : Link) (s : State) :
    (reservePlace l s).now = s.now := rfl

@[simp] theorem reservePlace_pairs (l : Link) (s : State) :
    (reservePlace l s).pairs = s.pairs := rfl

@[simp] theorem reservePlace_cues (l : Link) (s : State) :
    (reservePlace l s).cues = s.cues := rfl

@[simp] theorem reservePlace_outcomes (l : Link) (s : State) :
    (reservePlace l s).outcomes = s.outcomes := rfl

@[simp] theorem reservePlace_pendingSwaps (l : Link) (s : State) :
    (reservePlace l s).pendingSwaps = s.pendingSwaps := rfl

@[simp] theorem reservePlace_fades (l : Link) (s : State) :
    (reservePlace l s).fades = s.fades := rfl

@[simp] theorem reservePlace_ramps (l : Link) (s : State) :
    (reservePlace l s).ramps = s.ramps := rfl

@[simp] theorem reservePlace_clock (l : Link) (s : State) :
    (reservePlace l s).clock = s.clock := rfl

@[simp] theorem reservePlace_pipelines (l : Link) (s : State) :
    (reservePlace l s).pipelines = s.pipelines := rfl

@[simp] theorem reservePlace_store (l : Link) (s : State) :
    (reservePlace l s).store = s.store := rfl

@[simp] theorem reservePlace_ports (l : Link) (s : State) :
    (reservePlace l s).ports = s.ports := rfl

@[simp] theorem reservePlace_controllers (l : Link) (s : State) :
    (reservePlace l s).controllers = s.controllers := rfl

@[simp] theorem reservePlace_engine (l : Link) (s : State) :
    (reservePlace l s).engine = { s.engine with reserved := s.engine.reserved.set l (s.engine.reserved.get l + 1) } := rfl

@[simp] theorem reservePlace_flagUnit (l : Link) (s : State) :
    (reservePlace l s).flagUnit = s.flagUnit := rfl

@[simp] theorem reservePlace_part (l : Link) (s : State) :
    (reservePlace l s).part = s.part := rfl

@[simp] theorem reservePlace_samples (l : Link) (s : State) :
    (reservePlace l s).samples = s.samples := rfl

@[simp] theorem reservePlace_pending (l : Link) (s : State) :
    (reservePlace l s).pending = s.pending := rfl

/-! ### keepIdleTimer -/

@[simp] theorem keepIdleTimer_now (s : State) :
    (keepIdleTimer s).now = s.now := rfl

@[simp] theorem keepIdleTimer_pairs (s : State) :
    (keepIdleTimer s).pairs = s.pairs := rfl

@[simp] theorem keepIdleTimer_cues (s : State) :
    (keepIdleTimer s).cues = s.cues := rfl

@[simp] theorem keepIdleTimer_outcomes (s : State) :
    (keepIdleTimer s).outcomes = s.outcomes := rfl

@[simp] theorem keepIdleTimer_pendingSwaps (s : State) :
    (keepIdleTimer s).pendingSwaps = s.pendingSwaps := rfl

@[simp] theorem keepIdleTimer_fades (s : State) :
    (keepIdleTimer s).fades = s.fades := rfl

@[simp] theorem keepIdleTimer_ramps (s : State) :
    (keepIdleTimer s).ramps = s.ramps := rfl

@[simp] theorem keepIdleTimer_clock (s : State) :
    (keepIdleTimer s).clock = s.clock := rfl

@[simp] theorem keepIdleTimer_pipelines (s : State) :
    (keepIdleTimer s).pipelines = s.pipelines := rfl

@[simp] theorem keepIdleTimer_store (s : State) :
    (keepIdleTimer s).store = s.store := rfl

@[simp] theorem keepIdleTimer_ports (s : State) :
    (keepIdleTimer s).ports = s.ports := rfl

@[simp] theorem keepIdleTimer_controllers (s : State) :
    (keepIdleTimer s).controllers = s.controllers := rfl

@[simp] theorem keepIdleTimer_engine (s : State) :
    (keepIdleTimer s).engine = s.engine := rfl

@[simp] theorem keepIdleTimer_flagUnit (s : State) :
    (keepIdleTimer s).flagUnit = s.flagUnit := rfl

@[simp] theorem keepIdleTimer_part (s : State) :
    (keepIdleTimer s).part = { s.part with idleTimer := idleTimerAfter s } := rfl

@[simp] theorem keepIdleTimer_samples (s : State) :
    (keepIdleTimer s).samples = s.samples := rfl

@[simp] theorem keepIdleTimer_pending (s : State) :
    (keepIdleTimer s).pending = s.pending := rfl

/-! ### State.startClock -/

@[simp] theorem State.startClock_now (s : State) (c : ClockState) (p m : Nat) (b : Bool) :
    (s.startClock c p m b).now = s.now := rfl

@[simp] theorem State.startClock_pairs (s : State) (c : ClockState) (p m : Nat) (b : Bool) :
    (s.startClock c p m b).pairs = s.pairs := rfl

@[simp] theorem State.startClock_cues (s : State) (c : ClockState) (p m : Nat) (b : Bool) :
    (s.startClock c p m b).cues = s.cues := rfl

@[simp] theorem State.startClock_outcomes (s : State) (c : ClockState) (p m : Nat) (b : Bool) :
    (s.startClock c p m b).outcomes = s.outcomes := rfl

@[simp] theorem State.startClock_pendingSwaps (s : State) (c : ClockState) (p m : Nat) (b : Bool) :
    (s.startClock c p m b).pendingSwaps = s.pendingSwaps := rfl

@[simp] theorem State.startClock_fades (s : State) (c : ClockState) (p m : Nat) (b : Bool) :
    (s.startClock c p m b).fades = s.fades := rfl

@[simp] theorem State.startClock_ramps (s : State) (c : ClockState) (p m : Nat) (b : Bool) :
    (s.startClock c p m b).ramps = s.ramps := rfl

@[simp] theorem State.startClock_clock (s : State) (c : ClockState) (p m : Nat) (b : Bool) :
    (s.startClock c p m b).clock = { s.clock with state := c, period := p, misses := m, lastStart := ⟨s.now, b⟩ } := rfl

@[simp] theorem State.startClock_pipelines (s : State) (c : ClockState) (p m : Nat) (b : Bool) :
    (s.startClock c p m b).pipelines = s.pipelines := rfl

@[simp] theorem State.startClock_store (s : State) (c : ClockState) (p m : Nat) (b : Bool) :
    (s.startClock c p m b).store = s.store := rfl

@[simp] theorem State.startClock_ports (s : State) (c : ClockState) (p m : Nat) (b : Bool) :
    (s.startClock c p m b).ports = s.ports := rfl

@[simp] theorem State.startClock_controllers (s : State) (c : ClockState) (p m : Nat) (b : Bool) :
    (s.startClock c p m b).controllers = s.controllers := rfl

@[simp] theorem State.startClock_engine (s : State) (c : ClockState) (p m : Nat) (b : Bool) :
    (s.startClock c p m b).engine = s.engine := rfl

@[simp] theorem State.startClock_flagUnit (s : State) (c : ClockState) (p m : Nat) (b : Bool) :
    (s.startClock c p m b).flagUnit = s.flagUnit := rfl

@[simp] theorem State.startClock_part (s : State) (c : ClockState) (p m : Nat) (b : Bool) :
    (s.startClock c p m b).part = s.part := rfl

@[simp] theorem State.startClock_samples (s : State) (c : ClockState) (p m : Nat) (b : Bool) :
    (s.startClock c p m b).samples = s.samples := rfl

@[simp] theorem State.startClock_pending (s : State) (c : ClockState) (p m : Nat) (b : Bool) :
    (s.startClock c p m b).pending = s.pending := rfl

end Sys2Proof.Machine
end

