-- ==== Sys2Proof/Laws/Access.lean ====
section
/-!
SUPPORT. Reading back what has been written: links, outputs, kinds, slots and bank pairs.
-/
namespace Sys2Proof.Machine

open Sys2Proof

@[simp] theorem PerLink.get_set_same {α : Type} (p : PerLink α) (l : Link) (x : α) : (p.set l x).get l = x := by
  cases l <;> rfl

theorem PerLink.get_set_other {α : Type} (p : PerLink α) {l m : Link} (x : α) (h : m ≠ l) :
    (p.set l x).get m = p.get m := by
  cases l <;> cases m <;> first | rfl | exact absurd rfl h

@[simp] theorem PerLink.get_map {α β : Type} (p : PerLink α) (f : α → β) (l : Link) : (p.map f).get l = f (p.get l) := by
  cases l <;> rfl

@[simp] theorem PerOut.get_set_same {α : Type} (p : PerOut α) (o : Out) (x : α) : (p.set o x).get o = x := by
  cases o <;> rfl

theorem PerOut.get_set_other {α : Type} (p : PerOut α) {o q : Out} (x : α) (h : q ≠ o) :
    (p.set o x).get q = p.get q := by
  cases o <;> cases q <;> first | rfl | exact absurd rfl h

@[simp] theorem PerOut.get_map {α β : Type} (p : PerOut α) (f : α → β) (o : Out) : (p.map f).get o = f (p.get o) := by
  cases o <;> rfl

theorem PerOut.get_mapWhere {α : Type} (p : PerOut α) (m : Mask) (f : α → α) (o : Out) :
    (p.mapWhere m f).get o = if m.get o then f (p.get o) else p.get o := by
  cases o <;> rfl

@[simp] theorem PerKind.get_set_same {α : Type} (p : PerKind α) (k : Kind) (x : α) : (p.set k x).get k = x := by
  cases k <;> rfl

theorem PerKind.get_set_other {α : Type} (p : PerKind α) {k j : Kind} (x : α) (h : j ≠ k) :
    (p.set k x).get j = p.get j := by
  cases k <;> cases j <;> first | rfl | exact absurd rfl h

@[simp] theorem PerKind.get_map {α β : Type} (p : PerKind α) (f : α → β) (k : Kind) : (p.map f).get k = f (p.get k) := by
  cases k <;> rfl

@[simp] theorem Quad.get_set_same {α : Type} (q : Quad α) (i : SlotIndex) (x : α) : (q.set i x).get i = x := by
  cases i <;> rfl

theorem Quad.get_set_other {α : Type} (q : Quad α) {i j : SlotIndex} (x : α) (h : j ≠ i) :
    (q.set i x).get j = q.get j := by
  cases i <;> cases j <;> first | rfl | exact absurd rfl h

@[simp] theorem Quad.get_map {α β : Type} (q : Quad α) (f : α → β) (i : SlotIndex) : (q.map f).get i = f (q.get i) := by
  cases i <;> rfl

/-- What `Quad.find` finds has the property. -/
theorem Quad.find_some {α : Type} {q : Quad α} {f : α → Bool} {i : SlotIndex} (h : q.find f = some i) :
    f (q.get i) = true := by
  unfold Quad.find at h
  split_ifs at h <;> cases h <;> assumption

/-- Where `Quad.find` finds nothing, no entry has the property. -/
theorem Quad.find_none {α : Type} {q : Quad α} {f : α → Bool} (h : q.find f = none) (i : SlotIndex) :
    f (q.get i) = false := by
  unfold Quad.find at h
  split_ifs at h with h0 h1 h2 h3
  cases i <;> simp_all [Quad.get]

@[simp] theorem PerOut.at2_set2_same {α : Type} (p : PerOut (PerKind α)) (o : Out) (k : Kind) (x : α) :
    (p.set2 o k x).at2 o k = x := by
  cases o <;> cases k <;> rfl

theorem PerOut.at2_set2_other {α : Type} (p : PerOut (PerKind α)) {o q : Out} {k j : Kind} (x : α)
    (h : q ≠ o ∨ j ≠ k) : (p.set2 o k x).at2 q j = p.at2 q j := by
  cases o <;> cases q <;> cases k <;> cases j <;> first | rfl | simp at h

@[simp] theorem State.pair_setPair_same (s : State) (o : Out) (k : Kind) (p : BankPair) :
    (s.setPair o k p).pair o k = p := PerOut.at2_set2_same _ _ _ _

theorem State.pair_setPair_other (s : State) {o q : Out} {k j : Kind} (p : BankPair) (h : q ≠ o ∨ j ≠ k) :
    (s.setPair o k p).pair q j = s.pair q j := PerOut.at2_set2_other _ _ h

@[simp] theorem BankPair.shadow_setShadow (p : BankPair) (b : Bank) : (p.setShadow b).shadow = b := by
  rcases p with ⟨b0, b1, a, pin⟩
  cases a <;> rfl

@[simp] theorem BankPair.activeBank_setShadow (p : BankPair) (b : Bank) : (p.setShadow b).activeBank = p.activeBank := by
  rcases p with ⟨b0, b1, a, pin⟩
  cases a <;> rfl

@[simp] theorem BankPair.active_setShadow (p : BankPair) (b : Bank) : (p.setShadow b).active = p.active := by
  rcases p with ⟨b0, b1, a, pin⟩
  cases a <;> rfl

@[simp] theorem BankPair.pin_setShadow (p : BankPair) (b : Bank) : (p.setShadow b).pin = p.pin := by
  rcases p with ⟨b0, b1, a, pin⟩
  cases a <;> rfl

/-- An exchange makes the shadow active and the active bank the shadow, and keeps the pin (R8). -/
theorem BankPair.exchange_some {p q : BankPair} (h : p.exchange = some q) :
    q.activeBank = p.shadow ∧ q.shadow = p.activeBank ∧ q.pin = p.pin ∧ q.active = p.active.other := by
  rcases p with ⟨b0, b1, a, pin⟩
  cases a <;> cases b0 <;> cases b1 <;> simp [BankPair.exchange, BankPair.shadow, BankPair.bank, BankIndex.other] at h <;>
    subst h <;> simp [BankPair.activeBank, BankPair.shadow, BankPair.bank, BankIndex.other]

@[simp] theorem State.slot_setSlot_same (s : State) (i : SlotId) (x : Slot) : (s.setSlot i x).slot i = x := by
  simp [State.slot]

theorem State.slot_setSlot_other (s : State) {i j : SlotId} (x : Slot) (h : j ≠ i) :
    (s.setSlot i x).slot j = s.slot j := by
  rcases i with ⟨l, a⟩
  rcases j with ⟨m, b⟩
  by_cases hl : m = l
  · subst hl
    have hb : b ≠ a := fun e => h (by rw [e])
    simp [State.slot, Quad.get_set_other _ _ hb]
  · simp [State.slot, PerLink.get_set_other _ _ hl]

/-! ### Period numbers (R1) -/

theorem atOrBefore_refl (t : Period) : atOrBefore t t = true := by simp [atOrBefore]

theorem laterThan_iff (t d : Period) : laterThan t d = true ↔ atOrBefore t d = false := by simp [laterThan]

/-- The successor of a period number is later than it. -/
theorem laterThan_succ (d : Period) : laterThan (d + 1) d = true := by simp [laterThan, atOrBefore]

end Sys2Proof.Machine
end

