-- ==== Sys2Proof/Laws/Events.lean ====
section
/-!
SUPPORT. Everything that raising an event, latching edges and taking a command can do.
-/
namespace Sys2Proof.Machine

open Sys2Proof

/-! ### Raising an event -/

/-- Raising an event writes the flags and nothing else. -/
theorem raise_eq (s : State) (e : Event) :
    s.raise e = { s with flagUnit := { s.flagUnit with flags := (s.raise e).flagUnit.flags } } := by
  unfold State.raise; split <;> rfl

/-- An event whose rising enable is set sets its flag; the other flags stay (R170). -/
theorem raise_enabled {s : State} {e : Event} (h : s.flagUnit.rising.getLsbD e.number = true) :
    (s.raise e).flagUnit.flags = s.flagUnit.flags ||| (1#24 <<< e.number) := by
  simp [State.raise, h]

/-- An event whose rising enable is clear changes nothing (R170). -/
theorem raise_disabled {s : State} {e : Event} (h : s.flagUnit.rising.getLsbD e.number = false) : s.raise e = s := by
  simp [State.raise, h]

@[simp] theorem raise_part (s : State) (e : Event) : (s.raise e).part = s.part := by rw [raise_eq]
@[simp] theorem raise_now (s : State) (e : Event) : (s.raise e).now = s.now := by rw [raise_eq]
@[simp] theorem raise_pairs (s : State) (e : Event) : (s.raise e).pairs = s.pairs := by rw [raise_eq]
@[simp] theorem raise_cues (s : State) (e : Event) : (s.raise e).cues = s.cues := by rw [raise_eq]
@[simp] theorem raise_outcomes (s : State) (e : Event) : (s.raise e).outcomes = s.outcomes := by rw [raise_eq]
@[simp] theorem raise_pendingSwaps (s : State) (e : Event) : (s.raise e).pendingSwaps = s.pendingSwaps := by rw [raise_eq]
@[simp] theorem raise_fades (s : State) (e : Event) : (s.raise e).fades = s.fades := by rw [raise_eq]
@[simp] theorem raise_ramps (s : State) (e : Event) : (s.raise e).ramps = s.ramps := by rw [raise_eq]
@[simp] theorem raise_clock (s : State) (e : Event) : (s.raise e).clock = s.clock := by rw [raise_eq]
@[simp] theorem raise_pipelines (s : State) (e : Event) : (s.raise e).pipelines = s.pipelines := by rw [raise_eq]
@[simp] theorem raise_store (s : State) (e : Event) : (s.raise e).store = s.store := by rw [raise_eq]
@[simp] theorem raise_ports (s : State) (e : Event) : (s.raise e).ports = s.ports := by rw [raise_eq]
@[simp] theorem raise_controllers (s : State) (e : Event) : (s.raise e).controllers = s.controllers := by rw [raise_eq]
@[simp] theorem raise_engine (s : State) (e : Event) : (s.raise e).engine = s.engine := by rw [raise_eq]
@[simp] theorem raise_samples (s : State) (e : Event) : (s.raise e).samples = s.samples := by rw [raise_eq]
@[simp] theorem raise_pending (s : State) (e : Event) : (s.raise e).pending = s.pending := by rw [raise_eq]

/-- `raiseIf` raises or does nothing. -/
theorem raiseIf_cases (s : State) (b : Bool) (e : Event) :
    s.raiseIf b e = s.raise e ∨ s.raiseIf b e = s := by
  cases b
  · exact Or.inr rfl
  · exact Or.inl rfl

/-- `raiseIf` writes the flags and nothing else. -/
theorem raiseIf_eq (s : State) (b : Bool) (e : Event) :
    s.raiseIf b e = { s with flagUnit := { s.flagUnit with flags := (s.raiseIf b e).flagUnit.flags } } := by
  cases b
  · rfl
  · exact raise_eq s e

@[simp] theorem raiseIf_clock (s : State) (b : Bool) (e : Event) : (s.raiseIf b e).clock = s.clock := by
  cases b <;> simp [State.raiseIf]
@[simp] theorem raiseIf_now (s : State) (b : Bool) (e : Event) : (s.raiseIf b e).now = s.now := by
  cases b <;> simp [State.raiseIf]
@[simp] theorem raiseIf_part (s : State) (b : Bool) (e : Event) : (s.raiseIf b e).part = s.part := by
  cases b <;> simp [State.raiseIf]
@[simp] theorem raiseIf_engine (s : State) (b : Bool) (e : Event) : (s.raiseIf b e).engine = s.engine := by
  cases b <;> simp [State.raiseIf]
@[simp] theorem raiseIf_pairs (s : State) (b : Bool) (e : Event) : (s.raiseIf b e).pairs = s.pairs := by
  cases b <;> simp [State.raiseIf]

/-! ### Latching edges (R167, R170) -/

/-- Levels that do not change make no edge. -/
@[simp] theorem edgeFlags_same (u : FlagUnit) (x : BitVec 12) : edgeFlags u x x = 0#24 := by
  simp [edgeFlags]

/-- The flags that a change of the levels sets, one by one (R170). -/
theorem edgeFlags_getLsbD (u : FlagUnit) (old new : BitVec 12) (n : Nat) (h : n < 24) :
    (edgeFlags u old new).getLsbD n = (decide (n < 12) &&
      ((!old.getLsbD n && new.getLsbD n && u.rising.getLsbD n)
        || (old.getLsbD n && !new.getLsbD n && u.falling.getLsbD n))) := by
  by_cases h12 : n < 12
  · simp [edgeFlags, h12, h]
    cases old[n] <;> cases new[n] <;> simp
  · simp [edgeFlags, h12, h]

/-- Latching writes the flags and nothing else. -/
theorem latchEdges_eq (s s' : State) :
    latchEdges s s' = { s' with flagUnit := { s'.flagUnit with flags := (latchEdges s s').flagUnit.flags } } := rfl

/-- An event that leaves the levels as it found them latches nothing. -/
theorem latchEdges_of_levels_eq {s s' : State} (h : levels s = levels s') : latchEdges s s' = s' := by
  simp [latchEdges, h]

@[simp] theorem latchEdges_clock (s s' : State) : (latchEdges s s').clock = s'.clock := rfl
@[simp] theorem latchEdges_now (s s' : State) : (latchEdges s s').now = s'.now := rfl
@[simp] theorem latchEdges_pairs (s s' : State) : (latchEdges s s').pairs = s'.pairs := rfl
@[simp] theorem latchEdges_cues (s s' : State) : (latchEdges s s').cues = s'.cues := rfl
@[simp] theorem latchEdges_outcomes (s s' : State) : (latchEdges s s').outcomes = s'.outcomes := rfl
@[simp] theorem latchEdges_pendingSwaps (s s' : State) : (latchEdges s s').pendingSwaps = s'.pendingSwaps := rfl
@[simp] theorem latchEdges_fades (s s' : State) : (latchEdges s s').fades = s'.fades := rfl
@[simp] theorem latchEdges_ramps (s s' : State) : (latchEdges s s').ramps = s'.ramps := rfl
@[simp] theorem latchEdges_pipelines (s s' : State) : (latchEdges s s').pipelines = s'.pipelines := rfl
@[simp] theorem latchEdges_store (s s' : State) : (latchEdges s s').store = s'.store := rfl
@[simp] theorem latchEdges_ports (s s' : State) : (latchEdges s s').ports = s'.ports := rfl
@[simp] theorem latchEdges_controllers (s s' : State) : (latchEdges s s').controllers = s'.controllers := rfl
@[simp] theorem latchEdges_engine (s s' : State) : (latchEdges s s').engine = s'.engine := rfl
@[simp] theorem latchEdges_part (s s' : State) : (latchEdges s s').part = s'.part := rfl
@[simp] theorem latchEdges_samples (s s' : State) : (latchEdges s s').samples = s'.samples := rfl
@[simp] theorem latchEdges_pending (s s' : State) : (latchEdges s s').pending = s'.pending := rfl

/-- The levels are read from these parts of the state alone. -/
theorem levels_congr {s s' : State} (ports : s.ports = s'.ports) (clock : s.clock = s'.clock)
    (controllers : s.controllers = s'.controllers) (part : s.part = s'.part)
    (lock : s.engine.lock = s'.engine.lock) : levels s = levels s' := by
  rw [levels, levels, ports, clock, controllers, part, lock]

/-- Two states with the same twelve conditions have the same levels. -/
theorem levels_ext {s s' : State} (lockedA : s.ports.a.state.isLocked = s'.ports.a.state.isLocked)
    (lockedB : s.ports.b.state.isLocked = s'.ports.b.state.isLocked)
    (tracking : s.clock.state.isTracking = s'.clock.state.isTracking)
    (backup0 : s.controllers.out0.onBackup = s'.controllers.out0.onBackup)
    (backup1 : s.controllers.out1.onBackup = s'.controllers.out1.onBackup)
    (dark0 : s.controllers.out0.isDark = s'.controllers.out0.isDark)
    (dark1 : s.controllers.out1.isDark = s'.controllers.out1.isDark)
    (standby : s.part.state.inStandby = s'.part.state.inStandby)
    (service : s.part.service.active = s'.part.service.active)
    (pattern0 : s.part.patterns.out0.isSome = s'.part.patterns.out0.isSome)
    (pattern1 : s.part.patterns.out1.isSome = s'.part.patterns.out1.isSome)
    (lock : s.engine.lock.isSet = s'.engine.lock.isSet) : levels s = levels s' := by
  rw [levels, levels, levelsOf, levelsOf, lockedA, lockedB, tracking, backup0, backup1, dark0, dark1, standby, service,
    pattern0, pattern1, lock]

/-! ### Taking a command (R154 to R158) -/

/-- What it means that a packet is next: its queue holds it at the head, its link may be served, and the part is not
INITIALIZING. -/
theorem nextPacket_some {s : State} {l : Link} {p : Packet} {rest : List Packet}
    (h : nextPacket s = some (l, p, rest)) :
    s.engine.commands.get l = p :: rest ∧ s.engine.choose = some l ∧ s.part.state ≠ .initializing := by
  unfold nextPacket at h
  cases hp : s.part.state <;> simp only [hp] at h <;> try exact absurd h (by simp)
  all_goals
    cases hc : s.engine.choose with
    | none => simp [hc] at h
    | some m =>
      simp only [hc] at h
      cases hq : s.engine.commands.get m with
      | nil => simp [hq] at h
      | cons a as =>
        simp only [hq, Option.some.injEq, Prod.mk.injEq] at h
        obtain ⟨rfl, rfl, rfl⟩ := h
        exact ⟨hq, rfl, by simp⟩

/-- The arbiter chooses only a link that may be served. -/
theorem choose_mayServe {e : Engine} {l : Link} (h : e.choose = some l) : e.mayServe l = true := by
  unfold Engine.choose at h
  split_ifs at h with h1 h2
  · cases h; exact h1
  · cases h; exact h2

theorem takeCommand_none {names : Packet → Bool} {run : Link → Packet → State → State} {t : Nat} {s : State}
    (h : nextPacket s = none) : takeCommand names run t s = s.advance t := by
  simp [takeCommand, h]

theorem takeCommand_other {names : Packet → Bool} {run : Link → Packet → State → State} {t : Nat} {s : State}
    {l : Link} {p : Packet} {rest : List Packet} (h : nextPacket s = some (l, p, rest)) (hn : names p = false) :
    takeCommand names run t s = s.advance t := by
  simp [takeCommand, h, hn]

theorem takeCommand_taken {names : Packet → Bool} {run : Link → Packet → State → State} {t : Nat} {s : State}
    {l : Link} {p : Packet} {rest : List Packet} (h : nextPacket s = some (l, p, rest)) (hn : names p = true) :
    takeCommand names run t s = latchEdges (s.advance t) (run l p (dequeue l rest (s.advance t))) := by
  simp [takeCommand, h, hn]

/-- A packet that passes the general checks meets its owner (R156). -/
theorem generalChecks_pass {ok channel : Bool} {p : Packet} {owner : Reply} (hl : ok = true)
    (hm : (channel && p.noOutput) = false) : generalChecks ok channel p owner = owner := by
  simp [generalChecks, hl, hm]

theorem generalChecks_length {ok channel : Bool} {p : Packet} {owner : Reply} (hl : ok = false) :
    generalChecks ok channel p owner = .refuse .badLength [] := by
  simp [generalChecks, hl]

theorem generalChecks_mask {ok channel : Bool} {p : Packet} {owner : Reply} (hl : ok = true)
    (hm : (channel && p.noOutput) = true) : generalChecks ok channel p owner = .refuse .badParam [] := by
  simp [generalChecks, hl, hm]

/-- A command that passes the general checks: its owner's reply is settled and the edges are latched. -/
theorem takeOwned_passed {names : Packet → Bool} {lengthOk : Nat → Bool} {channel : Bool}
    {owner : Link → Packet → State → Reply} {t : Nat} {s : State} {l : Link} {p : Packet} {rest : List Packet}
    (h : nextPacket s = some (l, p, rest)) (hn : names p = true) (hl : lengthOk p.payload.length = true)
    (hm : (channel && p.noOutput) = false) :
    takeOwned names lengthOk channel owner t s =
      latchEdges s (settle l p (dequeue l rest (s.advance t)) (owner l p (dequeue l rest (s.advance t)))) := by
  rw [takeOwned, takeCommand_taken h hn, generalChecks_pass hl hm]
  rfl

/-- A refused command places its result and leaves everything else of the state that the taking left (R157). -/
theorem takeOwned_refused {names : Packet → Bool} {lengthOk : Nat → Bool} {channel : Bool}
    {owner : Link → Packet → State → Reply} {t : Nat} {s : State} {l : Link} {p : Packet} {rest : List Packet}
    {st : Status} {payload : List Byte} (h : nextPacket s = some (l, p, rest)) (hn : names p = true)
    (hr : generalChecks (lengthOk p.payload.length) channel p (owner l p (dequeue l rest (s.advance t)))
      = .refuse st payload) :
    takeOwned names lengthOk channel owner t s
      = placeResult l (resultOf p st payload) (dequeue l rest (s.advance t)) := by
  rw [takeOwned, takeCommand_taken h hn, hr]
  exact latchEdges_of_levels_eq (levels_congr rfl rfl rfl rfl rfl)

/-- An accepted command leaves its owner's state with its result placed, and the edges of the event latched (R157). -/
theorem takeOwned_accepted {names : Packet → Bool} {lengthOk : Nat → Bool} {channel : Bool}
    {owner : Link → Packet → State → Reply} {t : Nat} {s s' : State} {l : Link} {p : Packet} {rest : List Packet}
    {payload : List Byte} (h : nextPacket s = some (l, p, rest)) (hn : names p = true)
    (hl : lengthOk p.payload.length = true) (hm : (channel && p.noOutput) = false)
    (ho : owner l p (dequeue l rest (s.advance t)) = .accept s' payload) :
    takeOwned names lengthOk channel owner t s
      = latchEdges (s.advance t) (placeResult l (resultOf p .ok payload) s') := by
  rw [takeOwned, takeCommand_taken h hn, generalChecks_pass hl hm, ho]
  rfl

/-- An accepted command whose result is deferred leaves a reserved place (R160). -/
theorem takeOwned_deferred {names : Packet → Bool} {lengthOk : Nat → Bool} {channel : Bool}
    {owner : Link → Packet → State → Reply} {t : Nat} {s s' : State} {l : Link} {p : Packet} {rest : List Packet}
    (h : nextPacket s = some (l, p, rest)) (hn : names p = true)
    (hl : lengthOk p.payload.length = true) (hm : (channel && p.noOutput) = false)
    (ho : owner l p (dequeue l rest (s.advance t)) = .defer s') :
    takeOwned names lengthOk channel owner t s = latchEdges (s.advance t) (reservePlace l s') := by
  rw [takeOwned, takeCommand_taken h hn, generalChecks_pass hl hm, ho]
  rfl

end Sys2Proof.Machine
end

