-- ==== Sys2Proof/Laws/Formats.lean ====
section
/-!
SUPPORT. The readers of sync words, headers and packets against the layouts of R193 and R194: which bits each accepts, and
what it reads from them; the codes of R192, and the sizes and the check of a table image.
-/
namespace Sys2Proof.Machine

open Sys2Proof

/-! ### The checks -/

theorem msbFirst_eq_bitsSent (b : Byte) : msbFirst b = bitsSent b := by
  simp [msbFirst, bitsSent, List.range, List.range.loop, BitVec.getMsbD]

theorem crc8Bit_eq (r : Byte) (bit : Bool) : crc8Bit r bit = checkStep 0x07#8 r bit := by
  unfold crc8Bit checkStep; cases r.msb <;> cases bit <;> rfl

theorem crc16Bit_eq (r : Word16) (bit : Bool) : crc16Bit r bit = checkStep 0x1021#16 r bit := by
  unfold crc16Bit checkStep; cases r.msb <;> cases bit <;> rfl

theorem crc8_eq (bits : List Bool) : crc8 bits = wordCheck bits :=
  congrArg (fun f => bits.foldl f 0#8) (funext fun r => funext fun bit => crc8Bit_eq r bit)

theorem crc16_eq (bs : List Byte) : crc16 bs = streamCheck (bs.flatMap bitsSent) := by
  rw [crc16, streamCheck, show crc16Bit = checkStep 0x1021#16 from funext fun r => funext fun bit => crc16Bit_eq r bit,
    show msbFirst = bitsSent from funext msbFirst_eq_bitsSent]

/-! ### The codes of the fields of a command (R192) -/

theorem kindOf_eq : ∀ b : Byte, kindOf b = tableKindOf b := by decide +kernel
theorem kindsOf_eq : ∀ b : Byte, kindsOf b = swapKindsOf b := by decide +kernel
theorem routeLinkOf_eq : ∀ b : Byte, routeLinkOf b = routeLinkNamed b := by decide +kernel
theorem revertOf_eq : ∀ b : Byte, revertOf b = revertNamed b := by decide +kernel
theorem roleOf_eq : ∀ b : Byte, roleOf b = roleNamed b := by decide +kernel
theorem lockOf_eq : ∀ b : Byte, lockOf b = lockNamed b := by decide +kernel
theorem outputEncodingOf_eq : ∀ b : Byte, outputEncodingOf b = outputEncodingNamed b := by decide +kernel
theorem patternKindOf_eq : ∀ b : Byte, patternKindOf b = patternKindNamed b := by decide +kernel

theorem routeNeedsDark_eq (r : Route) (c : Controller) : routeNeedsDark r c = changesShown r c := rfl

/-! ### Table images (R5, R9, R10, R18) -/

theorem gridInRange_iff (k : Kind) (g : Grid) : gridInRange k g = true ↔ gridSizeOk k g := by
  cases k <;> simp [gridInRange, gridMost, and_assoc]

theorem imageLength_eq (k : Kind) (g : Grid) : imageLength k g = imageSize k g := by cases k <;> rfl

theorem lsbFirst_eq (b : Byte) : lsbFirst b = (bitsSent b).reverse := by
  simp [lsbFirst, bitsSent, List.range, List.range.loop, BitVec.getMsbD]

/-- The register of the model holds the coefficients in the opposite order. -/
theorem crc32Bit_reverse (r : Word32) (bit : Bool) :
    crc32Bit r.reverse bit = (checkStep 0x04C11DB7#32 r bit).reverse := by
  have h0 : r.reverse.getLsbD 0 = r.msb := by rw [BitVec.getLsbD_reverse]; rfl
  have hs : r.reverse >>> 1 = (r <<< 1).reverse := by
    apply BitVec.eq_of_getLsbD_eq
    intro i hi
    simp only [BitVec.getLsbD_ushiftRight, BitVec.getLsbD_reverse, BitVec.getMsbD, BitVec.getLsbD_shiftLeft]
    by_cases h : i = 31
    · subst h; simp
    · have h1 : 1 + i < 32 := by omega
      have h2 : ¬(32 - 1 - i < 1) := by omega
      have h3 : 32 - 1 - i - 1 = 32 - 1 - (1 + i) := by omega
      simp only [hi, h1, h2, h3, decide_true, decide_false, Bool.true_and, Bool.and_true, Bool.not_false]
      rw [decide_eq_true (by omega : 32 - 1 - i < 32), Bool.true_and]
  have hp : (0xEDB88320#32 : Word32) = (0x04C11DB7#32 : Word32).reverse := by decide +kernel
  have hx : ∀ a b : Word32, a.reverse ^^^ b.reverse = (a ^^^ b).reverse := by
    intro a b
    apply BitVec.eq_of_getLsbD_eq
    intro i hi
    simp [BitVec.getLsbD_reverse, BitVec.getMsbD_xor]
  unfold crc32Bit checkStep
  rw [h0, hs, hp, hx]
  cases r.msb <;> cases bit <;> rfl

theorem crc32_fold (bits : List Bool) (r : Word32) :
    bits.foldl crc32Bit r.reverse = (bits.foldl (checkStep 0x04C11DB7#32) r).reverse := by
  induction bits generalizing r with
  | nil => rfl
  | cons bit rest ih => rw [List.foldl_cons, List.foldl_cons, crc32Bit_reverse, ih]

theorem crc32_eq (bs : List Byte) : crc32 bs = imageCheck bs := by
  have key : ∀ r : Word32, bs.foldl (fun r b => (lsbFirst b).foldl crc32Bit r) r.reverse =
      ((bs.flatMap fun b => (bitsSent b).reverse).foldl (checkStep 0x04C11DB7#32) r).reverse := by
    induction bs with
    | nil => intro r; rfl
    | cons b rest ih =>
      intro r
      rw [List.foldl_cons, List.flatMap_cons, List.foldl_append, lsbFirst_eq, crc32_fold, ih]
  have h1 : (0xFFFFFFFF#32 : Word32) = (0xFFFFFFFF#32 : Word32).reverse := by decide +kernel
  rw [crc32, imageCheck, imageRegister, ← key, ← h1]

/-! ### Sync words (R58, R193) -/

theorem checkedCells_append (a : BitVec 40) (c : Byte) : checkedCells (a ++ c) = bitsSent a := by
  apply List.map_congr_left
  intro i hi
  have : i < 40 := List.mem_range.mp hi
  simp only [BitVec.getLsbD_append, BitVec.getMsbD]
  rw [if_neg (by omega), show 47 - i - 8 = 40 - 1 - i by omega]
  simp [this]

theorem cells_split (cells : BitVec 48) :
    cells = cells.extractLsb' 40 8 ++ cells.extractLsb' 8 32 ++ cells.extractLsb' 0 8 := by
  apply BitVec.eq_of_getLsbD_eq
  intro i hi
  simp only [BitVec.getLsbD_append, BitVec.getLsbD_extractLsb']
  split
  · simp [*]
  · split
    · rw [show 8 + (i - 8) = i by omega]; simp; omega
    · rw [show 40 + (i - 8 - 32) = i by omega]; simp; omega

theorem syncWordNumber_append (a : Byte) (n : Period) (c : Byte) : syncWordNumber (a ++ n ++ c) = n := by
  apply BitVec.eq_of_getLsbD_eq
  intro i hi
  simp only [syncWordNumber, BitVec.getLsbD_append, BitVec.getLsbD_extractLsb']
  rw [if_neg (by omega), if_pos (by omega), show 8 + i - 8 = i by omega]; simp [hi]

theorem syncWordNumber_syncWordOf (n : Period) : syncWordNumber (syncWordOf n) = n := syncWordNumber_append _ _ _

theorem preamble_append (a : Byte) (n : Period) (c : Byte) : (a ++ n ++ c).extractLsb' 40 8 = a := by
  apply BitVec.eq_of_getLsbD_eq
  intro i hi
  simp only [BitVec.getLsbD_append, BitVec.getLsbD_extractLsb']
  rw [if_neg (by omega), if_neg (by omega), show 40 + i - 8 - 32 = i by omega]; simp [hi]

theorem check_append (a : BitVec 40) (c : Byte) : (a ++ c).extractLsb' 0 8 = c := by
  apply BitVec.eq_of_getLsbD_eq
  intro i hi
  simp only [BitVec.getLsbD_append, BitVec.getLsbD_extractLsb']
  rw [if_pos (by omega)]; simp [hi]

theorem syncWordAccepted_append (a : Byte) (n : Period) (c : Byte) :
    syncWordAccepted (a ++ n ++ c) = true ↔ a = 0xB5#8 ∧ c = wordCheck (bitsSent (a ++ n)) := by
  rw [syncWordAccepted, Bool.and_eq_true, beq_iff_eq, beq_iff_eq, preamble_append]
  refine and_congr Iff.rfl ?_
  rw [show checkedCells (a ++ n ++ c) = _ from checkedCells_append (a ++ n) c, crc8_eq]
  rw [show (a ++ n ++ c).extractLsb' 0 8 = c from check_append (a ++ n) c]
  exact eq_comm

/-- The words that are accepted are those of R58, one for each number. -/
theorem syncWordAccepted_iff (cells : BitVec 48) :
    syncWordAccepted cells = true ↔ ∃ n, cells = syncWordOf n := by
  constructor
  · intro h
    rw [cells_split cells] at h ⊢
    obtain ⟨h1, h2⟩ := (syncWordAccepted_append _ _ _).mp h
    exact ⟨_, by rw [h1] at h2 ⊢; rw [h2]; rfl⟩
  · rintro ⟨n, rfl⟩
    exact (syncWordAccepted_append _ _ _).mpr ⟨rfl, rfl⟩
/-! ### Headers (R107, R193) -/

theorem headerByte_append (f : BitVec 80) (c : Word16) (i : Nat) (hi : i < 10) :
    headerByte (f ++ c) i = f.extractLsb' (72 - 8 * i) 8 := by
  apply BitVec.eq_of_getLsbD_eq
  intro j hj
  simp only [headerByte, BitVec.getLsbD_append, BitVec.getLsbD_extractLsb', hj, decide_true, Bool.true_and]
  rw [if_neg (by omega)]; congr 1; omega

theorem bitsSent_bytes (f : BitVec 80) :
    (((List.range 10).map fun i => f.extractLsb' (72 - 8 * i) 8).flatMap bitsSent) = bitsSent f := by
  simp [bitsSent, List.range, List.range.loop, BitVec.getMsbD]

theorem crc16_headerBytes (f : BitVec 80) (c : Word16) :
    crc16 ((List.range 10).map (headerByte (f ++ c))) = streamCheck (bitsSent f) := by
  rw [crc16_eq, ← bitsSent_bytes f]
  congr 2
  exact List.map_congr_left fun i hi => headerByte_append f c i (List.mem_range.mp hi)

theorem extract_append {a b : Nat} (x : BitVec a) (y : BitVec b) (i n : Nat) (h : b ≤ i) :
    (x ++ y).extractLsb' i n = x.extractLsb' (i - b) n := by
  apply BitVec.eq_of_getLsbD_eq
  intro j hj
  simp only [BitVec.getLsbD_append, BitVec.getLsbD_extractLsb', hj, decide_true, Bool.true_and]
  rw [if_neg (by omega), show i + j - b = i - b + j by omega]

theorem extract_append_low {a b : Nat} (x : BitVec a) (y : BitVec b) : (x ++ y).extractLsb' 0 b = y := by
  apply BitVec.eq_of_getLsbD_eq
  intro j hj
  simp only [BitVec.getLsbD_append, BitVec.getLsbD_extractLsb', hj, decide_true, Bool.true_and]
  rw [if_pos (by omega), Nat.zero_add]

/-- The header that twelve bytes spell field by field, by its two tests. -/
theorem headerOf_append (t : Period) (w h : Word16) (e p : Byte) (c : Word16) :
    headerOf (t ++ w ++ h ++ e ++ p ++ c) =
      (frameEncodingOf e).bind fun encoding =>
        if streamCheck (bitsSent (t ++ w ++ h ++ e ++ p)) = c ∧ 640 ≤ w.toNat ∧ w.toNat ≤ 4096 ∧ 480 ≤ h.toNat
            ∧ h.toNat ≤ 2400 ∧ p.toNat ≤ 24 then
          some ⟨t, w.toNat, h.toNat, encoding, p.toNat⟩
        else none := by
  have he : headerByte (t ++ w ++ h ++ e ++ p ++ c) 8 = e := by
    rw [headerByte, extract_append _ _ _ _ (by omega), extract_append _ _ _ _ (by omega), extract_append_low]
  have hp : headerByte (t ++ w ++ h ++ e ++ p ++ c) 9 = p := by
    rw [headerByte, extract_append _ _ _ _ (by omega), extract_append_low]
  have hw : (t ++ w ++ h ++ e ++ p ++ c).extractLsb' 48 16 = w := by
    rw [extract_append _ _ _ _ (by omega), extract_append _ _ _ _ (by omega), extract_append _ _ _ _ (by omega),
      extract_append _ _ _ _ (by omega), extract_append_low]
  have hh : (t ++ w ++ h ++ e ++ p ++ c).extractLsb' 32 16 = h := by
    rw [extract_append _ _ _ _ (by omega), extract_append _ _ _ _ (by omega), extract_append _ _ _ _ (by omega),
      extract_append_low]
  have ht : (t ++ w ++ h ++ e ++ p ++ c).extractLsb' 64 32 = t := by
    rw [extract_append _ _ _ _ (by omega), extract_append _ _ _ _ (by omega), extract_append _ _ _ _ (by omega),
      extract_append _ _ _ _ (by omega), extract_append _ _ _ _ (by omega)]
    simp
  have hc : headerCheckOk (t ++ w ++ h ++ e ++ p ++ c)
      = decide (streamCheck (bitsSent (t ++ w ++ h ++ e ++ p)) = c) := by
    rw [headerCheckOk, crc16_headerBytes, extract_append_low, beq_eq_decide]
  unfold headerOf
  simp only [he, hp, hw, hh, ht, hc]
  cases frameEncodingOf e with
  | none => rfl
  | some x => simp [and_assoc]

theorem getLsbD_extract_sub {w : Nat} (x : BitVec w) (s n i : Nat) (h : s ≤ i) (hn : i < s + n) :
    (x.extractLsb' s n).getLsbD (i - s) = x.getLsbD i := by
  rw [BitVec.getLsbD_extractLsb', decide_eq_true (by omega), Bool.true_and, show s + (i - s) = i by omega]

theorem header_split (b : BitVec 96) :
    b = b.extractLsb' 64 32 ++ b.extractLsb' 48 16 ++ b.extractLsb' 32 16 ++ b.extractLsb' 24 8 ++ b.extractLsb' 16 8
      ++ b.extractLsb' 0 16 := by
  apply BitVec.eq_of_getLsbD_eq
  intro i hi
  simp only [BitVec.getLsbD_append, Nat.sub_sub]
  split
  · exact (getLsbD_extract_sub b 0 16 i (by omega) (by omega)).symm
  split
  · exact (getLsbD_extract_sub b 16 8 i (by omega) (by omega)).symm
  split
  · exact (getLsbD_extract_sub b 24 8 i (by omega) (by omega)).symm
  split
  · exact (getLsbD_extract_sub b 32 16 i (by omega) (by omega)).symm
  split
  · exact (getLsbD_extract_sub b 48 16 i (by omega) (by omega)).symm
  · exact (getLsbD_extract_sub b 64 32 i (by omega) (by omega)).symm

theorem frameEncodingOf_eq_some (e : Byte) (x : FrameEncoding) :
    frameEncodingOf e = some x ↔ e = x.code := by
  cases x <;> revert e <;> decide +kernel

/-- The headers that are good are those that twelve bytes carry as R193 lays them out. -/
theorem headerOf_eq_some_iff (bytes : BitVec 96) (h : Header) : headerOf bytes = some h ↔ h.carriedBy bytes := by
  constructor
  · intro hs
    rw [header_split bytes] at hs ⊢
    generalize bytes.extractLsb' 64 32 = t at *
    generalize bytes.extractLsb' 48 16 = w at *
    generalize bytes.extractLsb' 32 16 = y at *
    generalize bytes.extractLsb' 24 8 = e at *
    generalize bytes.extractLsb' 16 8 = p at *
    generalize bytes.extractLsb' 0 16 = c at *
    rw [headerOf_append, Option.bind_eq_some_iff] at hs
    obtain ⟨x, hx, hs⟩ := hs
    split at hs
    · rename_i hc
      obtain ⟨h1, h2, h3, h4, h5, h6⟩ := hc
      cases hs
      have hx := (frameEncodingOf_eq_some e x).mp hx
      refine ⟨h2, h3, h4, h5, h6, ?_⟩
      simp only [BitVec.ofNat_toNat, BitVec.setWidth_eq]
      rw [← hx, h1]
    · cases hs
  · rintro ⟨h1, h2, h3, h4, h5, hb⟩
    rw [hb, headerOf_append, Option.bind_eq_some_iff]
    refine ⟨h.encoding, (frameEncodingOf_eq_some _ _).mpr rfl, ?_⟩
    have hw : (BitVec.ofNat 16 h.width).toNat = h.width := by rw [BitVec.toNat_ofNat]; omega
    have hh : (BitVec.ofNat 16 h.height).toNat = h.height := by rw [BitVec.toNat_ofNat]; omega
    have hp : (BitVec.ofNat 8 h.packets).toNat = h.packets := by rw [BitVec.toNat_ofNat]; omega
    rw [hw, hh, hp, if_pos ⟨rfl, h1, h2, h3, h4, h5⟩]

/-! ### Packets (R194) -/

theorem beBytes_two (n : Nat) : beBytes 2 n = [BitVec.ofNat 8 (n / 256), BitVec.ofNat 8 n] := by
  simp [beBytes]

theorem lengthField_append (a b c d : Byte) (n : Nat) (rest : List Byte) (hn : n < 65536) :
    lengthField ([a, b, c, d] ++ beBytes 2 n ++ rest) = n := by
  simp [lengthField, beBytes_two, beNat]; omega

theorem word_of_bytes (x : Word16) : BitVec.ofNat 8 (x.toNat / 256) ++ x.setWidth 8 = x := by
  apply BitVec.eq_of_getLsbD_eq
  intro i hi
  rw [BitVec.getLsbD_append, BitVec.getLsbD_setWidth, BitVec.getLsbD_ofNat]
  split
  · simp [*]
  · rw [show (256 : Nat) = 2 ^ 8 from rfl, Nat.testBit_div_two_pow, show i - 8 + 8 = i by omega,
      decide_eq_true (by omega), Bool.true_and]; rfl

/-- A packet is read back from the bytes that R194 gives it. -/
theorem packetOf_withCheck (p : Packet) : packetOf (withCheck p.head) = p := by
  cases p
  simp [packetOf, withCheck, Packet.head, beBytes_two, word_of_bytes]
  
theorem beNat_beBytes_two (n : Nat) (hn : n < 65536) : beNat (beBytes 2 n) = n := by
  simp [beBytes_two, beNat]; omega

theorem packetCheckOk_append (head : List Byte) (c : Word16) :
    packetCheckOk (head ++ beBytes 2 c.toNat) = decide (streamCheck (head.flatMap bitsSent) = c) := by
  have hl : (head ++ beBytes 2 c.toNat).length - 2 = head.length := by simp [beBytes_two]
  have := c.isLt
  rw [packetCheckOk, hl, List.take_left, List.drop_left, beNat_beBytes_two _ (by omega), crc16_eq, beq_eq_decide]
  exact decide_eq_decide.mpr BitVec.toNat_inj
end Sys2Proof.Machine
end

