-- ==== Sys2Proof/WellFormed.lean ====
section
/-!
DEFINITION. Which terms of `Instr` a link can carry: the two commands whose operand is a run of bytes have a length that
the manual's layouts allow. Every other operand is in range by its type.
-/
namespace Sys2Proof

/-- A pixel line is six bytes a pixel, 640 to 4096 pixels (R106, R107). -/
def lineLengthOk (n : Nat) : Bool := n % 6 == 0 && 640 * 6 ≤ n && n ≤ 4096 * 6

/-- A run of management-area bytes is not empty and not longer than the longest packet, 8 bytes more than the longest
payload of 240 bytes (R119, R194). -/
def packetLengthOk (n : Nat) : Bool := 1 ≤ n && n ≤ 248

/-- The check on a command's operands. -/
def wellFormed : Instr → Bool
  | .pixelLine _ _ bytes => lineLengthOk bytes.length
  | .managementPacket _ _ bytes => packetLengthOk bytes.length
  | .tableOpen _ | .tableData _ | .tableClose _ | .tableDiscard _ | .swap _ | .gain _ | .cueAdd _ | .cueCancel _
  | .cueFlush _ | .report _ | .route _ | .select _ | .configLock _ | .configUnlock _ | .setOutput _ | .flagsArm _
  | .flagsClear _ | .status _ | .pattern _ | .patternEnd _ | .standbyEnter _ | .standbyExit _ | .standbyDelay _
  | .softReset _ | .unknownCommand _ | .powerOnReset _ | .resetPin _ | .resetRelease _ | .initialisationEnd _
  | .syncWord _ _ | .generatorStart | .trackingWindowClose | .syncAcquisitionTimeout | .douserTimerExpiry _
  | .openTimerExpiry _ | .signalPresent _ _ | .signalAbsent _ _ | .signalLost _ | .frameDelimiter _ _
  | .frameHeader _ _ _ | .linkAcquisitionTimeout _ | .lossLimitExpiry _ | .quietTimerExpiry _ | .verificationEnd _ _ _
  | .idleTimerExpiry | .wakingTimerExpiry | .patternExpiry _ | .groupTimerExpiry | .overrideTimerExpiry
  | .serviceTakenFall _ | .serviceTakenRise _ => true

end Sys2Proof
end

