-- ==== Sys2Proof/Laws/PerInstr.lean ====
section
/-!
SUPPORT. One law for every command: whether a command is well formed does not depend on the time at which it is taken.
-/
namespace Sys2Proof.Laws.TimeFree

open Sys2Proof

/-- The command taken at another time; an expiry row carries none. -/
def retime (t : Nat) : Instr → Instr
  | .tableOpen _ => .tableOpen t
  | .tableData _ => .tableData t
  | .tableClose _ => .tableClose t
  | .tableDiscard _ => .tableDiscard t
  | .swap _ => .swap t
  | .gain _ => .gain t
  | .cueAdd _ => .cueAdd t
  | .cueCancel _ => .cueCancel t
  | .cueFlush _ => .cueFlush t
  | .report _ => .report t
  | .route _ => .route t
  | .select _ => .select t
  | .configLock _ => .configLock t
  | .configUnlock _ => .configUnlock t
  | .setOutput _ => .setOutput t
  | .flagsArm _ => .flagsArm t
  | .flagsClear _ => .flagsClear t
  | .status _ => .status t
  | .pattern _ => .pattern t
  | .patternEnd _ => .patternEnd t
  | .standbyEnter _ => .standbyEnter t
  | .standbyExit _ => .standbyExit t
  | .standbyDelay _ => .standbyDelay t
  | .softReset _ => .softReset t
  | .unknownCommand _ => .unknownCommand t
  | .powerOnReset _ => .powerOnReset t
  | .resetPin _ => .resetPin t
  | .resetRelease _ => .resetRelease t
  | .initialisationEnd _ => .initialisationEnd t
  | .syncWord _ cells => .syncWord t cells
  | .generatorStart => .generatorStart
  | .trackingWindowClose => .trackingWindowClose
  | .syncAcquisitionTimeout => .syncAcquisitionTimeout
  | .douserTimerExpiry o => .douserTimerExpiry o
  | .openTimerExpiry o => .openTimerExpiry o
  | .signalPresent _ l => .signalPresent t l
  | .signalAbsent _ l => .signalAbsent t l
  | .signalLost l => .signalLost l
  | .frameDelimiter _ l => .frameDelimiter t l
  | .frameHeader _ l bytes => .frameHeader t l bytes
  | .pixelLine _ l bytes => .pixelLine t l bytes
  | .managementPacket _ l bytes => .managementPacket t l bytes
  | .linkAcquisitionTimeout l => .linkAcquisitionTimeout l
  | .lossLimitExpiry l => .lossLimitExpiry l
  | .quietTimerExpiry l => .quietTimerExpiry l
  | .verificationEnd _ o k => .verificationEnd t o k
  | .idleTimerExpiry => .idleTimerExpiry
  | .wakingTimerExpiry => .wakingTimerExpiry
  | .patternExpiry o => .patternExpiry o
  | .groupTimerExpiry => .groupTimerExpiry
  | .overrideTimerExpiry => .overrideTimerExpiry
  | .serviceTakenFall _ => .serviceTakenFall t
  | .serviceTakenRise _ => .serviceTakenRise t

/-- Well-formedness is a matter of the operands alone. -/
def Statement (i : Instr) : Prop := ∀ t : Nat, wellFormed (retime t i) = wellFormed i

theorem tableOpen (t : Nat) : Statement (.tableOpen t) := fun _ => rfl
theorem tableData (t : Nat) : Statement (.tableData t) := fun _ => rfl
theorem tableClose (t : Nat) : Statement (.tableClose t) := fun _ => rfl
theorem tableDiscard (t : Nat) : Statement (.tableDiscard t) := fun _ => rfl
theorem swap (t : Nat) : Statement (.swap t) := fun _ => rfl
theorem gain (t : Nat) : Statement (.gain t) := fun _ => rfl
theorem cueAdd (t : Nat) : Statement (.cueAdd t) := fun _ => rfl
theorem cueCancel (t : Nat) : Statement (.cueCancel t) := fun _ => rfl
theorem cueFlush (t : Nat) : Statement (.cueFlush t) := fun _ => rfl
theorem report (t : Nat) : Statement (.report t) := fun _ => rfl
theorem route (t : Nat) : Statement (.route t) := fun _ => rfl
theorem select (t : Nat) : Statement (.select t) := fun _ => rfl
theorem configLock (t : Nat) : Statement (.configLock t) := fun _ => rfl
theorem configUnlock (t : Nat) : Statement (.configUnlock t) := fun _ => rfl
theorem setOutput (t : Nat) : Statement (.setOutput t) := fun _ => rfl
theorem flagsArm (t : Nat) : Statement (.flagsArm t) := fun _ => rfl
theorem flagsClear (t : Nat) : Statement (.flagsClear t) := fun _ => rfl
theorem status (t : Nat) : Statement (.status t) := fun _ => rfl
theorem pattern (t : Nat) : Statement (.pattern t) := fun _ => rfl
theorem patternEnd (t : Nat) : Statement (.patternEnd t) := fun _ => rfl
theorem standbyEnter (t : Nat) : Statement (.standbyEnter t) := fun _ => rfl
theorem standbyExit (t : Nat) : Statement (.standbyExit t) := fun _ => rfl
theorem standbyDelay (t : Nat) : Statement (.standbyDelay t) := fun _ => rfl
theorem softReset (t : Nat) : Statement (.softReset t) := fun _ => rfl
theorem unknownCommand (t : Nat) : Statement (.unknownCommand t) := fun _ => rfl
theorem powerOnReset (t : Nat) : Statement (.powerOnReset t) := fun _ => rfl
theorem resetPin (t : Nat) : Statement (.resetPin t) := fun _ => rfl
theorem resetRelease (t : Nat) : Statement (.resetRelease t) := fun _ => rfl
theorem initialisationEnd (t : Nat) : Statement (.initialisationEnd t) := fun _ => rfl
theorem syncWord (t : Nat) (cells : BitVec 48) : Statement (.syncWord t cells) := fun _ => rfl
theorem generatorStart : Statement (.generatorStart) := fun _ => rfl
theorem trackingWindowClose : Statement (.trackingWindowClose) := fun _ => rfl
theorem syncAcquisitionTimeout : Statement (.syncAcquisitionTimeout) := fun _ => rfl
theorem douserTimerExpiry (o : Out) : Statement (.douserTimerExpiry o) := fun _ => rfl
theorem openTimerExpiry (o : Out) : Statement (.openTimerExpiry o) := fun _ => rfl
theorem signalPresent (t : Nat) (l : Link) : Statement (.signalPresent t l) := fun _ => rfl
theorem signalAbsent (t : Nat) (l : Link) : Statement (.signalAbsent t l) := fun _ => rfl
theorem signalLost (l : Link) : Statement (.signalLost l) := fun _ => rfl
theorem frameDelimiter (t : Nat) (l : Link) : Statement (.frameDelimiter t l) := fun _ => rfl
theorem frameHeader (t : Nat) (l : Link) (bytes : BitVec 96) : Statement (.frameHeader t l bytes) := fun _ => rfl
theorem pixelLine (t : Nat) (l : Link) (bytes : List Byte) : Statement (.pixelLine t l bytes) := fun _ => rfl
theorem managementPacket (t : Nat) (l : Link) (bytes : List Byte) : Statement (.managementPacket t l bytes) := fun _ => rfl
theorem linkAcquisitionTimeout (l : Link) : Statement (.linkAcquisitionTimeout l) := fun _ => rfl
theorem lossLimitExpiry (l : Link) : Statement (.lossLimitExpiry l) := fun _ => rfl
theorem quietTimerExpiry (l : Link) : Statement (.quietTimerExpiry l) := fun _ => rfl
theorem verificationEnd (t : Nat) (o : Out) (k : Kind) : Statement (.verificationEnd t o k) := fun _ => rfl
theorem idleTimerExpiry : Statement (.idleTimerExpiry) := fun _ => rfl
theorem wakingTimerExpiry : Statement (.wakingTimerExpiry) := fun _ => rfl
theorem patternExpiry (o : Out) : Statement (.patternExpiry o) := fun _ => rfl
theorem groupTimerExpiry : Statement (.groupTimerExpiry) := fun _ => rfl
theorem overrideTimerExpiry : Statement (.overrideTimerExpiry) := fun _ => rfl
theorem serviceTakenFall (t : Nat) : Statement (.serviceTakenFall t) := fun _ => rfl
theorem serviceTakenRise (t : Nat) : Statement (.serviceTakenRise t) := fun _ => rfl

end Sys2Proof.Laws.TimeFree
end

