-- ==== Sys2Proof/Laws/Ports.lean ====
section
/-!
SUPPORT. When a Stream Link Port hears its line, when it judges a header, and which lines it takes (R104, R107, R108,
R125); what signal lost does to a lock, and what SOFT_RESET does to the patterns.
-/
namespace Sys2Proof.Machine

open Sys2Proof

theorem lossFalls_iff (p : Port) (now : Nat) : p.lossFalls now = true ↔ ∃ e, p.signalLoss = some e ∧ e ≤ now := by
  unfold Port.lossFalls
  cases p.signalLoss <;> simp

theorem hears_iff (p : Port) (now : Nat) :
    p.hears now = true ↔ p.signal = true ∨ ∃ e, p.signalLoss = some e ∧ e ≤ now := by
  rw [Port.hears, Bool.or_eq_true, lossFalls_iff]

/-- A port judges a header when its state judges headers, it hears its line, and it waits for a header. -/
theorem expectsHeader_iff (p : Port) (now : Nat) :
    p.expectsHeader now = true ↔ p.state.judges = true ∧ p.hears now = true ∧ p.frame = .awaitingHeader := by
  simp [Port.expectsHeader, and_assoc]

/-- After the signal has come back no header is awaited before the next delimiter, and no absence changes that. -/
theorem discard_ne_awaitingHeader (x : FrameProgress) :
    x.discard ≠ .awaitingHeader ∧ x.discard.break ≠ .awaitingHeader := by
  cases x <;> exact ⟨nofun, nofun⟩

/-- A port takes a line of a whole frame that has lines to come, and at the instant of signal lost the last line of the
frame that the absence has broken. -/
theorem takesLine_iff (p : Port) (now : Nat) (b : FrameBody) :
    p.takesLine now b = true ↔
      (p.signal = true ∧ b.broken = false ∧ b.lines < b.header.height)
      ∨ (p.signal = false ∧ p.lossFalls now = true ∧ b.parsed = true ∧ b.lines + 1 = b.header.height) := by
  unfold Port.takesLine
  cases p.signal <;> simp [and_assoc]

/-! ### The end of a frame and of a lock -/

/-- Signal lost in LOCKED: to OFF where the lock was entered from ALIGNED at that same instant, to HOLDOVER otherwise. -/
theorem loseSignal_locked {e : Nat} {l : Link} {s : State} {bad since : Nat}
    (h : (s.ports.get l).state = .locked bad since) :
    loseSignal e l s =
      if (s.ports.get l).fromAligned = true ∧ e ≤ since then enterOff l (endFrame l s) else enterHoldover l s := by
  simp [loseSignal, h]

/-! ### The patterns at SOFT_RESET -/

/-- SOFT_RESET ends the patterns and writes no other record of the part state with that. -/
theorem endPatternsAtSoftReset_eq (s : State) :
    endPatternsAtSoftReset s = { s with part := { s.part with patterns := ⟨none, none⟩ } } := rfl

end Sys2Proof.Machine
end

