-- ==== Sys2Proof/Laws/Start.lean ====
section
/-!
SUPPORT. What the work of each block at a period start may write: every part of the state that a lemma does not name is
as the start found it.
-/
namespace Sys2Proof.Machine

open Sys2Proof

/-! ### A start at the moment of a reset (R71) -/

theorem makeStart_of_no_reset {before : State} (s : State) (h : resetWaits before = false) :
    makeStart before s = periodStart before s := by
  simp [makeStart, h]

theorem makeStart_of_reset {before : State} (s : State) (h : resetWaits before = true) :
    makeStart before s = before := by
  simp [makeStart, h]

/-! ### The Correction Table Memory -/

/-- The end of a verification writes the banks, the results and the reserved places. -/
theorem endVerification_eq (o : Out) (k : Kind) (s : State) :
    endVerification o k s = { s with
      pairs := (endVerification o k s).pairs
      engine := { s.engine with
        results := (endVerification o k s).engine.results, reserved := (endVerification o k s).engine.reserved } } := by
  unfold endVerification
  cases (s.pair o k).shadow with
  | verifying ld tag n => dsimp only; split_ifs <;> rfl
  | empty => rfl
  | loading _ => rfl
  | ready _ => rfl

theorem verificationAtStart_eq (s : State) (ok : Out × Kind) :
    verificationAtStart s ok = { s with
      pairs := (verificationAtStart s ok).pairs
      engine := { s.engine with
        results := (verificationAtStart s ok).engine.results
        reserved := (verificationAtStart s ok).engine.reserved } } := by
  unfold verificationAtStart
  cases (s.pair ok.1 ok.2).shadow with
  | verifying ld tag n =>
    cases n with
    | zero => rfl
    | succ n => exact endVerification_eq ok.1 ok.2 s
  | empty => rfl
  | loading _ => rfl
  | ready _ => rfl

/-- The verifications write the banks, the results and the reserved places. -/
theorem verificationsAtStart_eq (s : State) :
    verificationsAtStart s = { s with
      pairs := (verificationsAtStart s).pairs
      engine := { s.engine with
        results := (verificationsAtStart s).engine.results
        reserved := (verificationsAtStart s).engine.reserved } } := by
  unfold verificationsAtStart allPairs
  simp only [List.foldl]
  generalize h1 : verificationAtStart s (.out0, .warp) = s1
  generalize h2 : verificationAtStart s1 (.out0, .blend) = s2
  generalize h3 : verificationAtStart s2 (.out1, .warp) = s3
  rw [verificationAtStart_eq s3, ← h3, verificationAtStart_eq s2, ← h2, verificationAtStart_eq s1, ← h1,
    verificationAtStart_eq s]

/-! ### The Cue Scheduler -/

/-- What the Cue Scheduler may write at a start. -/
def schedulerPart (s t : State) : State :=
  { s with
    pairs := t.pairs, cues := t.cues, outcomes := t.outcomes, pendingSwaps := t.pendingSwaps, fades := t.fades
    ramps := t.ramps, flagUnit := t.flagUnit }

theorem schedulerPart_self (s : State) : s = schedulerPart s s := rfl

theorem schedulerPart_trans {s t u : State} (h : t = schedulerPart s t) (h' : u = schedulerPart t u) :
    u = schedulerPart s u := by
  rw [h', h]; rfl

theorem stepFade_part (o : Out) (s : State) : stepFade o s = schedulerPart s (stepFade o s) := by
  unfold stepFade
  cases s.fades.get o with
  | none => rfl
  | some f => dsimp only; split_ifs <;> rfl

theorem afterExchange_part (o : Out) (k : Kind) (fade : Nat) (s : State) :
    afterExchange o k fade s = schedulerPart s (afterExchange o k fade s) := by
  cases k <;> cases fade <;> rfl

theorem carryOutSwap_part (s : State) (ok : Out × Kind) : carryOutSwap s ok = schedulerPart s (carryOutSwap s ok) := by
  unfold carryOutSwap
  cases s.pendingSwaps.at2 ok.1 ok.2 with
  | none => rfl
  | some fade =>
    dsimp only
    split
    · exact schedulerPart_trans rfl (afterExchange_part _ _ _ _)
    · rfl

theorem endFade_part (o : Out) (k : Kind) (s : State) : endFade o k s = schedulerPart s (endFade o k s) := by
  unfold endFade
  cases k with
  | warp => rfl
  | blend => cases s.fades.get o <;> rfl

theorem fireSwapPart_part (fade : Nat) (acc : State × PerOut (PerKind Bool)) (ok : Out × Kind) :
    (fireSwapPart fade acc ok).1 = schedulerPart acc.1 (fireSwapPart fade acc ok).1 := by
  unfold fireSwapPart
  dsimp only
  split
  · exact endFade_part _ _ _
  · exact schedulerPart_trans (schedulerPart_trans (endFade_part ok.1 ok.2 acc.1) rfl) (afterExchange_part _ _ _ _)

theorem fireSwapParts_part (fade : Nat) (pairs : List (Out × Kind)) (acc : State × PerOut (PerKind Bool)) :
    (pairs.foldl (fireSwapPart fade) acc).1 = schedulerPart acc.1 (pairs.foldl (fireSwapPart fade) acc).1 := by
  induction pairs generalizing acc with
  | nil => rfl
  | cons ok rest ih => exact schedulerPart_trans (fireSwapPart_part fade acc ok) (ih _)

theorem fireAction_part (c : Cue) (s : State) : (fireAction c s).1 = schedulerPart s (fireAction c s).1 := by
  unfold fireAction
  cases c.action with
  | swap ks fade => exact fireSwapParts_part fade _ _
  | gain target ramp => rfl

theorem raise_schedulerPart (s : State) (e : Event) : s.raise e = schedulerPart s (s.raise e) := by
  rw [raise_eq]; rfl

theorem raiseIf_schedulerPart (s : State) (b : Bool) (e : Event) : s.raiseIf b e = schedulerPart s (s.raiseIf b e) := by
  cases b
  · rfl
  · exact raise_schedulerPart s e

theorem appendOutcome_part (r : CueRecord) (s : State) : appendOutcome r s = schedulerPart s (appendOutcome r s) :=
  schedulerPart_trans (schedulerPart_trans (schedulerPart_trans rfl (raiseIf_schedulerPart _ _ _)) (raise_schedulerPart _ _))
    (raiseIf_schedulerPart _ _ _)

theorem fireCue_part (d : Period) (s : State) (c : Cue) : fireCue d s c = schedulerPart s (fireCue d s c) :=
  schedulerPart_trans (fireAction_part c s) (appendOutcome_part _ _)

theorem fireCues_part (d : Period) (s : State) : fireCues d s = schedulerPart s (fireCues d s) := by
  have fold : ∀ (cues : List Cue) (t : State),
      cues.foldl (fireCue d) t = schedulerPart t (cues.foldl (fireCue d) t) := by
    intro cues
    induction cues with
    | nil => intro t; rfl
    | cons c rest ih => intro t; exact schedulerPart_trans (fireCue_part d t c) (ih _)
  exact schedulerPart_trans rfl (fold _ _)

/-- The Cue Scheduler writes its own records, the banks and the flags. -/
theorem schedulerWork_part (s : State) : schedulerWork s = schedulerPart s (schedulerWork s) := by
  have swaps : ∀ (pairs : List (Out × Kind)) (t : State),
      pairs.foldl carryOutSwap t = schedulerPart t (pairs.foldl carryOutSwap t) := by
    intro pairs
    induction pairs with
    | nil => intro t; rfl
    | cons ok rest ih => intro t; exact schedulerPart_trans (carryOutSwap_part t ok) (ih _)
  unfold schedulerWork
  cases s.dome with
  | none => rfl
  | some d =>
    exact schedulerPart_trans (schedulerPart_trans (schedulerPart_trans (schedulerPart_trans (stepFade_part .out0 s)
      (stepFade_part .out1 _)) (swaps _ _)) (fireCues_part d _)) rfl

/-! ### Controllers and the Frame Store -/

/-- A change of viewers writes the store alone. -/
theorem moveViewer_eq (o : Out) (old new : Option SlotId) (s : State) :
    moveViewer o old new s = { s with store := (moveViewer o old new s).store } := by
  unfold moveViewer
  split_ifs
  · rfl
  · cases old <;> cases new <;> rfl

/-- A controller writes its own record, the store and the flags. -/
theorem controllerWork_eq (o : Out) (s : State) :
    controllerWork o s = { s with
      controllers := s.controllers.set o (controllerAtStart o s).1
      store := (controllerWork o s).store
      flagUnit := (controllerWork o s).flagUnit } := by
  unfold controllerWork
  dsimp only
  rw [moveViewer_eq]
  cases (controllerAtStart o s).2
  · rfl
  · simp only [State.raiseIf, if_true]
    rw [raise_eq]
    rfl

/-- Freeing a FILLING slot writes the store and the flags. -/
theorem dropFilling_eq (l : Link) (cause : DropCause) (s : State) :
    dropFilling l cause s = { s with
      store := (dropFilling l cause s).store, flagUnit := (dropFilling l cause s).flagUnit } := by
  unfold dropFilling
  cases fillingIndex s l with
  | none => rfl
  | some i =>
    simp only [dropFrame]
    rw [raise_eq]
    rfl

theorem testFilling_eq (l : Link) (s : State) :
    testFilling l s = { s with store := (testFilling l s).store, flagUnit := (testFilling l s).flagUnit } := by
  unfold testFilling
  cases s.dome with
  | none => rfl
  | some d =>
    cases fillingIndex s l with
    | none => rfl
    | some i =>
      dsimp only
      cases (s.slot ⟨l, i⟩).target with
      | none => rfl
      | some t =>
        dsimp only
        split_ifs
        · exact dropFilling_eq _ _ _
        · exact dropFilling_eq _ _ _
        · rfl

/-- The release writes the store and the flags. -/
theorem releaseWork_eq (s : State) :
    releaseWork s = { s with store := (releaseWork s).store, flagUnit := (releaseWork s).flagUnit } := by
  unfold releaseWork
  dsimp only
  rw [testFilling_eq .b, testFilling_eq .a]

end Sys2Proof.Machine
end

