-- ==== Sys2Proof/Tests/Slice0.lean ====
section
/-!
SUPPORT. Small tests: ill-formed terms are refused, the check sequences give their published values, each command has its
effect once on a small state, and every statement with hypotheses has a state that meets them.
-/
namespace Sys2Proof.Tests

open Sys2Proof Sys2Proof.Machine

-- One theorem after another: a thread for each would exceed the memory limit.
set_option Elab.async false

/-! ### Small states -/

/-- A part that is READY, its reset released at time 0, its idle timer running and both links OFF. -/
def up : State :=
  { State.reset with
    clock := { Clock.reset with released := some 0 }
    part := { PartControl.reset with state := .ready, idleTimer := some 600000000 } }

/-- A packet with the tag 0x1234. -/
def packet (code mask : Byte) (payload : List Byte) : Packet := ⟨code, mask, 0x1234#16, payload⟩

/-- The state with one packet waiting in command queue A. -/
def given (s : State) (p : Packet) : State := { s with engine := { s.engine with commands := ⟨[p], []⟩ } }

/-- The clock in a state, with its last start at time 0. -/
def clocked (x : ClockState) : State := { up with clock := { up.clock with state := x, lastStart := ⟨0, true⟩ } }

/-- The part in a state. -/
def parted (x : PartState) : State := { up with part := { up.part with state := x, idleTimer := none } }

/-- Link A in a state, with its signal present and a frame in progress. -/
def linked (x : LinkState) (frame : FrameProgress) (previous : Option Period) : State :=
  { clocked (.freerun 7000#32) with ports := ⟨⟨x, true, previous, frame, none, none, false⟩, Port.reset⟩ }

/-- The (OUT-0, BLEND) pair with a shadow. -/
def shadowed (b : Bank) : State := up.setPair .out0 .blend { BankPair.reset with bank1 := b }

/-- The load of a blend image of 2 × 2 nodes, with the CRC of sixteen zero bytes as the CRC expected. -/
def load (bytes : List Byte) : Load := ⟨⟨2, 2⟩, 0xA001#32, crc32 (List.replicate 16 0), .a, bytes⟩

/-- A READY blend bank of 2 × 2 nodes. -/
def table : Bank := .ready ⟨⟨2, 2⟩, 0xA001#32, crc32 (List.replicate 16 0), List.replicate 16 0⟩

/-- A controller LIVE on link A, with link B as backup. -/
def live : Controller :=
  { Controller.reset with
    route := { Route.reset with primary := some .a, backup := some .b, threshold := 1, holdover := 2 }
    state := .live, role := some .primary, ws := 1, held := some ⟨.a, .i0⟩, douser := false }

/-- What a controller reads at a start, with these frames for D. -/
def view (a b : Option SlotId) : StartView := ⟨0, ⟨a, b⟩, false, false, false⟩

/-- The word that numbers period `n`. -/
def wordFor (n : Period) : BitVec 48 := 0xB5#8 ++ n ++ crc8 (checkedCells (0xB5#8 ++ n ++ 0#8))

/-- A header for a frame of 640 × 480 pixels with two packets. -/
def headerFor (t : Period) : BitVec 96 :=
  let h : BitVec 80 := t ++ 640#16 ++ 480#16 ++ 0#8 ++ 2#8
  h ++ crc16 ((List.range 10).map (headerByte (h ++ 0#16)))

/-- The good header of `headerFor`. -/
def header (t : Period) : Header := ⟨t, 640, 480, .gamma10, 2⟩

/-- A frame body of 640 × 480 pixels after so many lines. -/
def body (lines : Nat) : FrameBody := ⟨header 7002#32, lines, true, 0, [], false⟩

/-- Packet bytes with their check. -/
def packetBytes (code mask : Byte) (payload : List Byte) : List Byte :=
  let b := [code, mask, 0x12#8, 0x34#8] ++ beBytes 2 payload.length ++ payload
  b ++ beBytes 2 (crc16 b).toNat

/-- A command answers a next state with a property. -/
def answers (i : Instr) (s : State) (f : State → Bool) : Bool :=
  match exec i s with
  | .next s' => f s'
  | .fault _ => false
  | .refused _ => false

/-- The last result of queue A has this status. -/
def status (st : Status) (s : State) : Bool :=
  match s.engine.results.a.getLast? with
  | some r => r.status == st
  | none => false

/-! ### Well-formedness, one ill-formed term for each check -/

theorem test_line_not_whole_pixels : wellFormed (.pixelLine 0 .a (List.replicate 3841 0)) = false := by
  simp only [wellFormed, lineLengthOk, List.length_replicate]; decide
theorem test_line_too_short : wellFormed (.pixelLine 0 .a (List.replicate 3834 0)) = false := by
  simp only [wellFormed, lineLengthOk, List.length_replicate]; decide
theorem test_line_too_long : wellFormed (.pixelLine 0 .a (List.replicate 24582 0)) = false := by
  simp only [wellFormed, lineLengthOk, List.length_replicate]; decide
theorem test_packet_empty : wellFormed (.managementPacket 0 .a []) = false := by decide
theorem test_packet_too_long : wellFormed (.managementPacket 0 .a (List.replicate 249 0)) = false := by
  simp only [wellFormed, packetLengthOk, List.length_replicate]; decide
theorem test_line_well_formed : wellFormed (.pixelLine 0 .a (List.replicate 3840 0)) = true := by
  simp only [wellFormed, lineLengthOk, List.length_replicate]; decide

/-! ### The check sequences, on the nine characters 1 to 9 -/

theorem test_crc8 : crc8 ([0x31, 0x32, 0x33, 0x34, 0x35, 0x36, 0x37, 0x38, 0x39].flatMap msbFirst) = 0xF4#8 := by
  decide +kernel
theorem test_crc16 : crc16 [0x31, 0x32, 0x33, 0x34, 0x35, 0x36, 0x37, 0x38, 0x39] = 0x29B1#16 := by decide +kernel
theorem test_crc32 : crc32 [0x31, 0x32, 0x33, 0x34, 0x35, 0x36, 0x37, 0x38, 0x39] = 0xCBF43926#32 := by decide +kernel

/-- The CRC-32 of R196's text, by the definition that the statements use. -/
theorem test_imageCheck : imageCheck [0x31, 0x32, 0x33, 0x34, 0x35, 0x36, 0x37, 0x38, 0x39] = 0xCBF43926#32 := by
  decide +kernel

/-! ### One effect of each command -/

theorem test_tableOpen : answers (.tableOpen 1)
    (given up (packet 0x11 1 ([2, 2, 2] ++ beBytes 4 7 ++ beBytes 4 9)))
    (fun s => status .ok s && (s.pair .out0 .blend).shadow == .loading ⟨⟨2, 2⟩, 7#32, 9#32, .a, []⟩) = true := by
  decide +kernel
theorem test_tableData : answers (.tableData 1)
    (given (shadowed (.loading (load []))) (packet 0x12 1 ([2] ++ beBytes 4 0 ++ List.replicate 16 0)))
    (fun s => status .ok s && (s.pair .out0 .blend).shadow == .loading (load (List.replicate 16 0))) = true := by
  decide +kernel
theorem test_tableData_out_of_order : answers (.tableData 1)
    (given (shadowed (.loading (load []))) (packet 0x12 1 ([2] ++ beBytes 4 1 ++ [0])))
    (fun s => status .outOfOrder s) = true := by decide +kernel
theorem test_tableClose : answers (.tableClose 1)
    (given (shadowed (.loading (load (List.replicate 16 0)))) (packet 0x13 1 [2]))
    (fun s => s.engine.results.a == [] && s.engine.reserved.a == 1 && (s.pair .out0 .blend).shadow.inLoad) = true := by
  decide +kernel
theorem test_tableDiscard : answers (.tableDiscard 1) (given (shadowed table) (packet 0x14 1 [2]))
    (fun s => status .ok s && (s.pair .out0 .blend).shadow == .empty) = true := by decide +kernel
theorem test_verificationEnd : answers (.verificationEnd 1 .out0 .blend)
    (shadowed (.verifying (load (List.replicate 16 0)) 5#16 0))
    (fun s => status .ok s && (s.pair .out0 .blend).shadow == table) = true := by decide +kernel
theorem test_swap : answers (.swap 1) (given (shadowed table) (packet 0x21 1 [2, 4]))
    (fun s => status .ok s && s.pendingSwaps.out0.blend == some 4 && (s.pair .out0 .blend).pin) = true := by
  decide +kernel
theorem test_gain : answers (.gain 1) (given up (packet 0x22 2 [0x80, 0x00, 0, 3]))
    (fun s => s.ramps.out1 == ⟨0xFFFF#16, 0x8000#16, 3⟩ && s.ramps.out0 == Ramp.reset) = true := by decide +kernel
theorem test_cueAdd : answers (.cueAdd 1)
    (given up (packet 0x23 1 ([7] ++ beBytes 4 5000 ++ [1, 2, 4, 0, 0, 0, 0])))
    (fun s => s.cues == [⟨7#8, 5000#32, ⟨true, false⟩, .swap ⟨false, true⟩ 4, .a⟩]) = true := by decide +kernel
theorem test_cueCancel : answers (.cueCancel 1) (given up (packet 0x24 0 [7])) (status .noCue) = true := by decide +kernel
theorem test_cueFlush : answers (.cueFlush 1) (given up (packet 0x25 0 [])) (status .ok) = true := by decide +kernel
theorem test_report : answers (.report 1) (given up (packet 0x26 0 []))
    (fun s => s.engine.results.a.map Result.payload == [[0]]) = true := by decide +kernel
theorem test_route : answers (.route 1) (given up (packet 0x31 3 [1, 2, 0, 5, 2, 12, 24, 24, 7, 208, 1, 244]))
    (fun s => status .ok s &&
      s.controllers.out1.pendingRoute == some { Route.reset with primary := some .a, backup := some .b }) = true := by
  decide +kernel
theorem test_select : answers (.select 1) (given up (packet 0x32 1 [1])) (status .wrongState) = true := by decide +kernel
theorem test_configLock : answers (.configLock 1) (given up (packet 0x33 0 [1]))
    (fun s => s.engine.lock == .normal && s.flagUnit.flags == 0x800#24) = true := by decide +kernel
theorem test_configUnlock : answers (.configUnlock 1) (given up (packet 0x34 0 [])) (status .ok) = true := by
  decide +kernel
theorem test_setOutput : answers (.setOutput 1) (given up (packet 0x38 1 [2, 128, 1, 224, 1]))
    (fun s => s.pipelines.out0.pendingFormat == some ⟨640, 480, .gamma12⟩) = true := by decide +kernel
theorem test_flagsArm : answers (.flagsArm 1) (given up (packet 0x41 0 [0, 0, 1, 255, 255, 255]))
    (fun s => s.flagUnit == ⟨0, 1#24, 0xFFF#12⟩) = true := by decide +kernel
theorem test_flagsClear : answers (.flagsClear 1)
    (given { up with flagUnit := ⟨0x800001#24, 0, 0⟩ } (packet 0x42 0 [128, 0, 0]))
    (fun s => s.flagUnit.flags == 1#24) = true := by decide +kernel
theorem test_status : answers (.status 1) (given up (packet 0x43 0 []))
    (fun s => s.engine.results.a.map (fun r => r.payload.length) == [148]) = true := by decide +kernel
theorem test_pattern : answers (.pattern 1) (given up (packet 0x51 1 [3, 128, 0, 0, 10]))
    (fun s => s.part.patterns.out0 == some ⟨.flat, 0x8000#16, 10000001⟩ && !s.controllers.out0.douser) = true := by
  decide +kernel
theorem test_patternEnd : answers (.patternEnd 1) (given up (packet 0x52 3 [])) (status .ok) = true := by decide +kernel
theorem test_standbyEnter : answers (.standbyEnter 1) (given up (packet 0x53 0 [1, 0, 0]))
    (fun s => s.part.state == .standby .commanded && s.flagUnit.flags == 0x80#24) = true := by decide +kernel
theorem test_standbyExit : answers (.standbyExit 1) (given (parted (.standby .commanded)) (packet 0x53 0 [2, 0, 0]))
    (fun s => s.part.state == .waking 200001) = true := by decide +kernel
theorem test_standbyDelay : answers (.standbyDelay 1) (given up (packet 0x53 0 [3, 0, 60]))
    (fun s => s.part.standbyDelay == 60 && s.part.idleTimer == some 60000001) = true := by decide +kernel
theorem test_softReset : answers (.softReset 1) (given { up with ramps := ⟨⟨0, 9, 4⟩, ⟨1, 9, 0⟩⟩ } (packet 0x7E 0 [0]))
    (fun s => s.ramps == ⟨⟨9, 9, 0⟩, ⟨1, 9, 0⟩⟩ && s.engine.results.a.length == 1) = true := by decide +kernel
/-- A pattern on OUT-0, which is DARK with its request released. -/
def patternOnDark : State :=
  { up with
    part := { up.part with patterns := ⟨some ⟨.flat, 0, 9⟩, none⟩ }
    controllers := { up.controllers with out0 := { Controller.reset with douser := false } } }

theorem test_softReset_ends_a_pattern : answers (.softReset 1) (given patternOnDark (packet 0x7E 0 [1]))
    (fun s => s.part.patterns.out0 == none && s.part.idleTimer == some 600000000) = true := by decide +kernel
theorem test_softReset_keeps_controllers : answers (.softReset 1) (given patternOnDark (packet 0x7E 0 [0]))
    (fun s => s.controllers == patternOnDark.controllers) = true := by decide +kernel
theorem test_unknownCommand : answers (.unknownCommand 1) (given up (packet 0x99 0 [])) (status .unknownCommand) = true := by
  decide +kernel
theorem test_powerOnReset : answers (.powerOnReset 0) up (fun s => s == State.reset) = true := by decide +kernel
theorem test_resetPin : answers (.resetPin 0) { up with engine := { up.engine with lock := .oneWay } }
    (fun s => s.engine.lock == .oneWay && s.part == PartControl.reset) = true := by decide +kernel
theorem test_resetRelease : answers (.resetRelease 5) State.reset
    (fun s => s.clock.released == some 5 && generatorDue s.clock == some 16672) = true := by decide +kernel
theorem test_initialisationEnd : answers (.initialisationEnd 9) { State.reset with clock := up.clock }
    (fun s => s.part.state == .ready && s.part.idleTimer == some 600000009) = true := by decide +kernel
theorem test_syncWord : answers (.syncWord 20000 (wordFor 1000#32)) up
    (fun s => s.clock.state == .acquiring 1000#32 20000 120000) = true := by decide +kernel
theorem test_syncWord_wrong_check : answers (.syncWord 20000 (wordFor 1000#32 ^^^ 1#48)) up
    (fun s => s.clock.state == .unsynced) = true := by decide +kernel
theorem test_generatorStart : answers .generatorStart up
    (fun s => s.clock.lastStart == ⟨16667, false⟩ && s.ports.a.sent.isSome) = true := by decide +kernel
theorem test_no_start_at_the_moment_of_a_reset : answers .generatorStart { up with pending := [.resetPin 16667] }
    (fun s => s.clock == up.clock && s.ports.a.sent == none && s.now == 16667) = true := by decide +kernel
theorem test_trackingWindowClose : answers .trackingWindowClose (clocked (.tracking 9#32 15626 17708))
    (fun s => s.clock.state == .tracking 10#32 33334 35416 && s.clock.misses == 1) = true := by decide +kernel
theorem test_syncAcquisitionTimeout : answers .syncAcquisitionTimeout (clocked (.acquiring 9#32 0 100000))
    (fun s => s.clock.state == .unsynced && s.now == 100000) = true := by decide +kernel
theorem test_douserTimerExpiry : answers (.douserTimerExpiry .out0)
    { up with controllers := { up.controllers with out0 := { Controller.reset with douser := false, douserTimer := some 8 } } }
    (fun s => s.controllers.out0.douser && s.now == 8) = true := by decide +kernel
theorem test_openTimerExpiry : answers (.openTimerExpiry .out1)
    { up with controllers := { up.controllers with out1 := { Controller.reset with openTimer := .running 8 } } }
    (fun s => s.controllers.out1.openTimer == .expired) = true := by decide +kernel
theorem test_signalPresent : answers (.signalPresent 3 .a) up (fun s => s.ports.a.state == .seeking 5000003) = true := by
  decide +kernel
theorem test_signalAbsent : answers (.signalAbsent 3 .a) (linked (.locked 0 0) (.body (body 1)) none)
    (fun s => s.ports.a.signalLoss == some 3003 && s.ports.a.frame == .body { body 1 with broken := true }) = true := by
  decide +kernel
theorem test_signalLost : answers (.signalLost .b)
    { up with ports := { up.ports with b := { Port.reset with state := .locked 0 0, signalLoss := some 4 } } }
    (fun s => s.ports.b.state == .holdover 600004 0) = true := by decide +kernel
theorem test_frameDelimiter : answers (.frameDelimiter 1 .a) (linked (.seeking 9) .none none)
    (fun s => s.ports.a.frame == .awaitingHeader) = true := by decide +kernel
theorem test_frameHeader : answers (.frameHeader 1 .a (headerFor 7002#32))
    (linked (.aligned 9 3) .awaitingHeader (some 7001#32))
    (fun s => s.ports.a.state == .locked 0 1 && s.store.a.slots.s0 == .filling ⟨7002#32, 640, 480, .gamma10, []⟩) = true := by
  decide +kernel
theorem test_frameHeader_at_signal_lost : answers (.frameHeader 1 .a (headerFor 7002#32))
    { clocked (.freerun 7000#32) with
      ports := ⟨⟨.aligned 9 1, false, some 7001#32, .awaitingHeader, some 1, none, false⟩, Port.reset⟩ }
    (fun s => s.ports.a.state == .aligned 9 2
      && s.ports.a.frame == .body ⟨header 7002#32, 0, false, 0, [], true⟩) = true := by decide +kernel
/-- A header is lost when the signal goes and comes back before it: none is judged up to the next delimiter, not even at
the instant of signal lost after a second absence; at that delimiter the lost one counts as bad. -/
theorem test_header_lost_at_a_second_absence :
    let p : Port := ⟨.locked 0 0, true, some 7001#32, .awaitingHeader, none, none, false⟩
    answers (.signalAbsent 1 .a) { clocked (.freerun 7000#32) with ports := ⟨p, Port.reset⟩ } (fun s1 =>
      answers (.signalPresent 2 .a) s1 (fun s2 =>
      answers (.signalAbsent 3 .a) s2 (fun s3 =>
      answers (.frameHeader 3003 .a (headerFor 7002#32)) s3 (fun s4 => s4.ports.a.signalLoss == some 3003
        && s4.ports.a == s3.ports.a && answers (.frameDelimiter 3003 .a) s4 (fun s5 =>
          s5.ports.a.state == .locked 1 0 && s5.ports.a.frame == .awaitingHeader))))) = true := by decide +kernel
/-- The fourth good header of ALIGNED at the instant of signal lost: LOCKED, and then OFF. -/
theorem test_fourth_header_then_signal_lost :
    let s := { clocked (.freerun 7000#32) with
      ports := ⟨⟨.aligned 9 3, false, some 7001#32, .awaitingHeader, some 1, none, false⟩, Port.reset⟩ }
    answers (.frameHeader 1 .a (headerFor 7002#32)) s (fun s1 => s1.ports.a.state == .locked 0 1
      && answers (.signalLost .a) s1 (fun s2 => s2.ports.a.state == .off && s2.store.a.slots.s0 == .free
        && s2.store.a.lastDrop == .incomplete)) = true := by decide +kernel
/-- The last line of a frame at the instant of signal lost, which comes after it. -/
theorem test_last_line_then_signal_lost :
    let s := { clocked (.freerun 7000#32) with
      ports := ⟨⟨.locked 0 0, false, some 7002#32, .body { body 479 with broken := true }, some 1, none, false⟩, Port.reset⟩
      store := ⟨⟨⟨.filling ⟨7002#32, 640, 480, .gamma10, List.replicate 479 []⟩, .free, .free, .free⟩, [], .none⟩,
        LinkStore.reset⟩ }
    answers (.pixelLine 1 .a (List.replicate 3840 0)) s (fun s1 => s1.store.a.leads == [2]
      && answers (.signalLost .a) s1 (fun s2 => s2.ports.a.state == .holdover 600001 0
        && s2.store.a.slots.s0.target == some 7002#32 && s2.store.a.lastDrop == .none)) = true := by decide +kernel
theorem test_pixelLine : answers (.pixelLine 1 .a (List.replicate 3840 255)) (linked (.locked 0 0) (.body (body 0)) none)
    (fun s => s.ports.a.frame == .body (body 1)) = true := by decide +kernel
theorem test_managementPacket : answers (.managementPacket 1 .a (packetBytes 0x43 0 []))
    (linked (.locked 0 0) (.body (body 480)) none)
    (fun s => s.engine.commands.a == [packet 0x43 0 []]) = true := by decide +kernel
theorem test_linkAcquisitionTimeout : answers (.linkAcquisitionTimeout .a) (linked (.seeking 9) .none none)
    (fun s => s.ports.a.state == .quiet 250009 && s.flagUnit.flags == 0x2000#24) = true := by decide +kernel
theorem test_lossLimitExpiry : answers (.lossLimitExpiry .a) (linked (.holdover 9 2) .skipping none)
    (fun s => s.ports.a.state == .quiet 250009) = true := by decide +kernel
theorem test_quietTimerExpiry : answers (.quietTimerExpiry .a) (linked (.quiet 9) .none none)
    (fun s => s.ports.a.state == .seeking 5000009) = true := by decide +kernel
theorem test_idleTimerExpiry : answers .idleTimerExpiry up (fun s => s.part.state == .standby .automatic) = true := by
  decide +kernel
theorem test_wakingTimerExpiry : answers .wakingTimerExpiry (parted (.waking 9))
    (fun s => s.part.state == .ready && s.part.idleTimer == some 600000009) = true := by decide +kernel
theorem test_patternExpiry : answers (.patternExpiry .out0)
    { up with
      part := { up.part with patterns := ⟨some ⟨.flat, 0, 9⟩, none⟩ }
      controllers := { up.controllers with out0 := { Controller.reset with douser := false } } }
    (fun s => s.part.patterns.out0 == none && s.controllers.out0.douserTimer == some 2000009) = true := by decide +kernel
theorem test_groupTimerExpiry : answers .groupTimerExpiry
    { up with part := { up.part with decoder := ⟨true, 0, some 6, some 9⟩ } }
    (fun s => s.part.service == .dark 300000009 && douserLine s .out0) = true := by decide +kernel
theorem test_overrideTimerExpiry : answers .overrideTimerExpiry { up with part := { up.part with service := .grid 9 } }
    (fun s => s.part.service == .none) = true := by decide +kernel
theorem test_serviceTakenFall : answers (.serviceTakenFall 1) up
    (fun s => s.part.decoder == ⟨false, 0, some 0, none⟩) = true := by decide +kernel
theorem test_serviceTakenRise : answers (.serviceTakenRise 1)
    { up with part := { up.part with decoder := ⟨false, 0, some 5, none⟩ } }
    (fun s => s.part.decoder == ⟨true, 0, some 6, some 500001⟩) = true := by decide +kernel

/-! ### States that meet the hypotheses of the statements -/

/-- From link A's queue in `s` the engine takes the packet `p`, which has this code and payload length and names an
output. -/
abbrev Taken (s : State) (p : Packet) (code : Byte) (length : Nat) : Prop :=
  nextPacket (given s p) = some (.a, p, []) ∧ p.code = code ∧ p.payload.length = length ∧ p.noOutput = false

/-- A packet of zeros for both outputs. -/
def zeros (code : Byte) (length : Nat) : Packet := packet code 3 (List.replicate length 0)

/-- The step answers a next state. -/
abbrev Steps (s : State) : Prop := ∃ s', step s = .next s'

/-- `up` in TRACKING at dome count 9, one miss counted, with one command waiting. -/
def ticking : State :=
  { up with
    pending := [.trackingWindowClose]
    clock := { up.clock with state := .tracking 9#32 15626 17708, misses := 1, lastStart := ⟨0, true⟩ } }

/-- A fade on (OUT-0, BLEND) and a pending swap of (OUT-1, BLEND), each with a READY shadow. -/
def swapping : State :=
  { (ticking.setPair .out0 .blend ⟨table, table, .bank0, true⟩).setPair .out1 .blend ⟨.empty, table, .bank0, true⟩ with
    fades := ⟨some ⟨4, 4⟩, none⟩
    pendingSwaps := ⟨⟨none, none⟩, ⟨none, some 0⟩⟩ }

/-- A frame of 640 × 480 pixels for period 9 with all its lines. -/
def frame : Frame := ⟨9#32, 640, 480, .gamma10, List.replicate 480 (List.replicate 640 ⟨1, 2, 3⟩)⟩

/-- Link A LOCKED and reading the body of a frame for period 10 into slot 0. -/
def reading : State :=
  { ticking with
    ports := ⟨⟨.locked 0 0, true, some 10#32, .body ⟨header 10#32, 0, true, 0, [], false⟩, none, none, false⟩, Port.reset⟩
    store := ⟨⟨⟨.filling ⟨10#32, 640, 480, .gamma10, []⟩, .free, .free, .free⟩, [1, 16], .none⟩, LinkStore.reset⟩ }

/-- OUT-0 LIVE on slot 0 of link A. -/
def showing : State :=
  { ticking with
    part := { up.part with idleTimer := none }
    ports := ⟨⟨.locked 0 0, true, some 9#32, .skipping, none, none, false⟩, Port.reset⟩
    store := ⟨⟨⟨.complete frame ⟨true, false⟩, .free, .free, .free⟩, [], .none⟩, LinkStore.reset⟩
    controllers := ⟨live, Controller.reset⟩ }

/-- The controller `live` in another state, with another starved count and source weight. -/
def liveIn (x : OutputState) (starved : Nat) (ws : Rat) : Controller := { live with state := x, starved := starved, ws := ws }

/-- A controller that is OPENING. -/
def opening (x : OpenTimer) : Controller :=
  { live with state := .opening, role := none, held := none, ws := 0, openTimer := x }

/-- The controllers that the witnesses below use are as their states have them. -/
theorem test_controllers_ok :
    Controller.reset.ok ∧ { Controller.reset with douser := false }.ok ∧ (opening (.running 5)).ok
    ∧ (opening .expired).ok ∧ live.ok ∧ { live with role := some .backup }.ok
    ∧ { live with route := { live.route with fadeOut := 0 } }.ok ∧ (liveIn .holding 1 1).ok
    ∧ (liveIn .fadingIn 0 (1 / 2)).ok ∧ (liveIn .fadingOut 2 (1 / 2)).ok ∧ (liveIn .fadingOut 2 (1 / 24)).ok
    ∧ (liveIn .fadingIn 1 (1 / 2)).ok := by
  simp only [Controller.ok, Controller.showsNothing, Controller.showsFrame, Route.ok, live, liveIn, opening,
    Controller.reset, Route.reset]
  refine ⟨?_, ?_, ?_, ?_, ?_, ?_, ?_, ?_, ?_, ?_, ?_, ?_⟩ <;> simp [Route.link] <;> norm_num

theorem test_meets_StepTakesTheFrontCommand :
    ticking.pending = .trackingWindowClose :: [] ∧ (up.pending = [] ∧ up.samples = [])
    ∧ ({ up with samples := [⟨.sync, 7, true⟩] }.pending = [] ∧
        { up with samples := [⟨.sync, 7, true⟩] }.samples = ⟨.sync, 7, true⟩ :: []) := by decide +kernel

theorem test_meets_GeneralChecksComeFirst :
    (Taken up (zeros 0x99 0) 0x99 0 ∧ ∀ row ∈ commandTable, (zeros 0x99 0).code ≠ row.code)
    ∧ ⟨.tableOpen, 0x11, (· == 11), true⟩ ∈ commandTable ∧ Taken up (zeros 0x11 10) 0x11 10
    ∧ (nextPacket (given up (packet 0x11 0 (List.replicate 11 0))) = some (.a, packet 0x11 0 (List.replicate 11 0), [])
        ∧ (packet 0x11 0 (List.replicate 11 0)).noOutput = true) := by
  refine ⟨⟨by decide +kernel, fun row hr => ?_⟩, by simp [commandTable], by decide +kernel, by decide +kernel⟩
  have h : row.code ∈ commandTable.map CommandRow.code := List.mem_map_of_mem hr
  intro e; rw [← e] at h; exact absurd h (by decide +kernel)

theorem test_meets_GeneralChecksComeFirst_fields :
    State.reset.part.state = .initializing ∧ (up.part.state ≠ .initializing ∧ up.engine.choose = none)
    ∧ ((given up (zeros 0x43 0)).engine.choose = some .a
        ∧ (given up (zeros 0x43 0)).engine.commands.get .a = zeros 0x43 0 :: [])
    ∧ fieldAt [9, 0x12, 0x34, 0x56, 0x78] 1 [0x12] ∧ fieldAt [9, 0x12, 0x34, 0x56, 0x78] 1 (beBytes 2 (0x1234#16).toNat)
    ∧ fieldAt [9, 0x12, 0x34, 0x56, 0x78] 1 (beBytes 3 (0x123456#24).toNat)
    ∧ fieldAt [9, 0x12, 0x34, 0x56, 0x78] 1 (beBytes 4 (0x12345678#32).toNat) := by
  refine ⟨by decide +kernel, by decide +kernel, by decide +kernel, rfl, rfl, rfl, rfl⟩

theorem test_meets_GeneralChecksComeFirst_arbiter :
    let both : Engine := ⟨⟨[zeros 1 0], [zeros 2 0]⟩, ⟨[], []⟩, ⟨0, 0⟩, .a, .none⟩
    let one : Engine := ⟨⟨[zeros 1 0], [zeros 2 0]⟩, ⟨[], []⟩, ⟨0, resultPlaces⟩, .a, .none⟩
    both.mayServe .a = true ∧ both.mayServe .b = true ∧ one.mayServe .a = true ∧ one.mayServe (otherLink .a) = false
    ∧ Engine.reset.mayServe .a = false ∧ Engine.reset.mayServe .b = false := by decide +kernel

theorem test_meets_RefusalPlacesOnlyItsResult : answers (.tableClose 1) (given up (packet 0x13 1 [2]))
    (fun s' => s'.engine.results.a == (given up (packet 0x13 1 [2])).engine.results.a ++ [⟨0x13, .notLoading, 0x1234, []⟩])
    = true := by decide +kernel

theorem test_meets_TableOpenStartsALoad : Taken up (packet 0x11 1 ([2, 2, 2] ++ List.replicate 8 0)) 0x11 11 := by
  decide +kernel
theorem test_meets_TableDataStoresInOrder :
    Taken (shadowed (.loading (load []))) (packet 0x12 1 [2, 0, 0, 0, 0, 0]) 0x12 6
    ∧ Taken up (packet 0x12 1 (2 :: List.replicate 239 0)) 0x12 240 := by decide +kernel
theorem test_meets_TableCloseStartsVerification :
    Taken (shadowed (.loading (load (List.replicate 16 0)))) (packet 0x13 1 [2]) 0x13 1
    ∧ ((shadowed (.verifying (load []) 5#16 0)).pair .out0 .blend).shadow = .verifying (load []) 5#16 0
    ∧ ((shadowed (.verifying (load []) 5#16 1)).pair .out0 .blend).shadow = .verifying (load []) 5#16 1 := by
  decide +kernel
theorem test_meets_TableDiscardEmptiesTheShadow : Taken (shadowed table) (packet 0x14 1 [2]) 0x14 1 := by decide +kernel
theorem test_meets_VerificationEndDecidesByCrc :
    ((shadowed (.verifying (load (List.replicate 16 0)) 5#16 0)).pair .out0 .blend).shadow
      = .verifying (load (List.replicate 16 0)) 5#16 0
    ∧ crc32 (List.replicate 16 0) = (load []).expected ∧ crc32 (List.replicate 16 1) ≠ (load []).expected := by
  decide +kernel

theorem test_meets_SwapBooksEveryNamedPair : Taken (shadowed table) (packet 0x21 1 [2, 250]) 0x21 2 := by decide +kernel
theorem test_meets_GainStartsARamp : Taken up (zeros 0x22 4) 0x22 4 := by decide +kernel
theorem test_meets_CueAddInsertsByTarget : Taken up (zeros 0x23 12) 0x23 12 := by decide +kernel
theorem test_meets_CueCancelAndFlushRemoveEntries : Taken up (zeros 0x24 1) 0x24 1 ∧ Taken up (zeros 0x25 0) 0x25 0 := by
  decide +kernel
theorem test_meets_OutcomesAreKeptAndReported :
    let r : CueRecord := ⟨1, 5, 5, .a, ⟨⟨true, true⟩, ⟨true, true⟩⟩, .done⟩
    Taken up (zeros 0x26 0) 0x26 0 ∧ up.outcomes.length ≤ 16
    ∧ { up with outcomes := List.replicate 16 r }.outcomes.length ≤ 16 := by decide +kernel

theorem test_meets_RouteSetsThePendingRoute :
    let p := packet 0x31 3 [1, 2, 0, 60, 8, 250, 250, 250, 234, 96, 19, 136]
    Taken up p 0x31 12 ∧ (routeOf p).isSome = true ∧ routeLinkNamed (p.u8 0) = some (some .a)
    ∧ routeLinkNamed (p.u8 1) = some (some .b) ∧ revertNamed (p.u8 2) = some .auto
    ∧ (p.u16 8).toNat = 60000 ∧ (p.u16 10).toNat = 5000 := by decide +kernel
theorem test_meets_RouteSetsThePendingRoute_ranges :
    Route.ok ⟨some .a, some .b, .auto, 60, 8, 250, 250, 250, 60000, 5000⟩
    ∧ Route.ok ⟨none, none, .manual, 0, 1, 2, 0, 0, 0, 0⟩ := by
  simp [Route.ok]
theorem test_meets_SelectSetsThePendingSelect : Taken up (zeros 0x32 1) 0x32 1 := by decide +kernel
theorem test_meets_ConfigLockFollowsItsTable : Taken up (zeros 0x33 1) 0x33 1 ∧ Taken up (zeros 0x34 0) 0x34 0 := by
  decide +kernel
theorem test_meets_SetOutputSetsThePendingFormat : Taken up (packet 0x38 1 [2, 128, 1, 224, 1]) 0x38 5 := by decide +kernel
theorem test_meets_FlagCommandsWriteTheFlagUnit : Taken up (zeros 0x41 6) 0x41 6 ∧ Taken up (zeros 0x42 3) 0x42 3 := by
  decide +kernel
theorem test_meets_FlagsLatchEnabledEdgesAndStay :
    (answers .generatorStart up fun _ => true) = true
    ∧ (∀ t : Nat, Instr.generatorStart ≠ .flagsClear t ∧ Instr.generatorStart ≠ .softReset t
        ∧ Instr.generatorStart ≠ .powerOnReset t ∧ Instr.generatorStart ≠ .resetPin t)
    ∧ ∀ t : Nat, Instr.generatorStart ≠ .flagsArm t :=
  ⟨by decide +kernel, fun _ => by simp, fun _ => by simp⟩
theorem test_meets_StatusReturnsItsRecord : Taken up (zeros 0x43 0) 0x43 0 ∧ ([3, 1] : List Nat) ≠ [] := by decide +kernel

theorem test_meets_PatternStartsOrRenews : Taken up (packet 0x51 1 [3, 128, 0, 2, 88]) 0x51 5 := by decide +kernel
theorem test_meets_PatternEndsByCommandOrTime :
    Taken up (zeros 0x52 0) 0x52 0
    ∧ { up with part := { up.part with patterns := ⟨none, some ⟨.flat, 0, 9⟩⟩ } }.part.patterns.get .out1
        = some ⟨.flat, 0, 9⟩ := by decide +kernel
theorem test_meets_StandbyEntryDarkensThePart :
    let p := packet 0x53 0 [1, 0, 0]
    (nextPacket (given up p) = some (.a, p, []) ∧ p.code = 0x53 ∧ p.payload.length = 3 ∧ (p.u8 0).toNat = 1
      ∧ (given up p).part.state = .ready)
    ∧ (nextPacket (given (parted (.waking 5)) p) = some (.a, p, []) ∧ (parted (.waking 5)).part.state = .waking 5)
    ∧ up.part.idleTimer = some 600000000 := by decide +kernel
theorem test_meets_StandbyIsLeftThroughWaking :
    let p := fun x : Byte => packet 0x53 0 [x, 14, 16]
    (∀ x ∈ [0, 1, 2, 3, 4], nextPacket (given (parted (.standby .automatic)) (p x)) = some (.a, p x, [])
      ∧ (p x).code = 0x53 ∧ (p x).payload.length = 3 ∧ (p x).u8 0 = x)
    ∧ (parted (.standby .automatic)).part.state = .standby .automatic ∧ (parted (.waking 9)).part.state = .waking 9 := by
  decide +kernel
theorem test_meets_SoftResetClearsTheSchedule :
    let p := fun x : Byte => packet 0x7E 0 [x]
    ∀ x ∈ [0, 1, 2], nextPacket (given up (p x)) = some (.a, p x, []) ∧ (p x).code = 0x7E ∧ (p x).payload.length = 1
      ∧ (p x).u8 0 = x := by decide +kernel

theorem test_meets_ReleaseAndInitialisationEndBringThePartUp :
    State.reset.clock.released = none ∧ State.reset.clock = Clock.reset
    ∧ (answers (.resetRelease 5) State.reset fun _ => true) = true
    ∧ ∃ s : State, s.clock.released.isSome = true ∧ PartOk s ∧ s.part.state = .initializing := by
  refine ⟨by decide +kernel, by decide +kernel, by decide +kernel, { State.reset with clock := up.clock },
    by decide +kernel, ?_, by decide +kernel⟩
  refine ⟨by decide +kernel, by decide +kernel, ⟨?_, ?_⟩, ?_, by decide +kernel, by decide +kernel⟩
  · intro o; cases o <;> decide +kernel
  · intro i; rcases i with ⟨l, j⟩; cases l <;> cases j <;> decide +kernel
  · intro l; cases l <;> decide +kernel

theorem test_meets_SyncWordsAreJudgedAtTheirMark :
    (∀ n : Period, wordFor 7#32 ^^^ 1#48 ≠ syncWordOf n)
    ∧ up.clock.released.isSome = true ∧ syncWordOf 7#32 = wordFor 7#32 ∧ up.clock.state = .unsynced
    ∧ ((clocked (.acquiring 6#32 0 100000)).clock.state = .acquiring 6#32 0 100000
        ∧ ¬((7#32 : Period) = 6#32 + 1 ∧ 4000 ≤ 3999 - 0 ∧ 3999 - 0 ≤ 42000)
        ∧ ¬((7#32 : Period) = 6#32 + 1 ∧ 4000 ≤ 42001 - 0 ∧ 42001 - 0 ≤ 42000)
        ∧ 4000 ≤ max (clocked (.acquiring 6#32 0 100000)).now 4000 - 0
        ∧ max (clocked (.acquiring 6#32 0 100000)).now 42000 - 0 ≤ 42000)
    ∧ (ticking.clock.state = .tracking 9#32 15626 17708 ∧ (15625 < 15626 ∨ 17708 < 15625)
        ∧ 15626 ≤ max ticking.now 15626 ∧ max ticking.now 17708 ≤ 17708)
    ∧ (clocked (.freerun 7000#32)).clock.state = .freerun 7000#32
    ∧ resetDue up 7 = false ∧ resetDue { up with pending := [.gain 1, .powerOnReset 7] } 7 = true
    ∧ resetDue { up with pending := [.resetPin 8] } 7 = false := by
  refine ⟨fun n hn => ?_, by decide +kernel⟩
  exact absurd ((syncWordAccepted_iff _).mpr ⟨n, hn⟩) (by decide +kernel)
theorem test_meets_GeneratorPacesStarts :
    up.clock.released.isSome = true ∧ (16667 : Nat) = max up.now (up.clock.lastStart.time + up.clock.period)
    ∧ up.clock.state = .unsynced ∧ (clocked (.freerun 7#32)).clock.state = .freerun 7#32
    ∧ (clocked (.acquiring 7#32 0 100000)).clock.state = .acquiring 7#32 0 100000 := by decide +kernel
theorem test_meets_WindowCloseAndAcquisitionTimeout :
    ticking.clock.state = .tracking 9#32 15626 17708
    ∧ (clocked (.acquiring 7#32 0 100000)).clock.state = .acquiring 7#32 0 100000 := by decide +kernel

theorem test_meets_PeriodStartFrame : up.dome = none ∧ 11 < 12 ∧ 22 ∈ [12, 13, 14, 15, 16, 22]
    ∧ (State.reset.flagUnit.flags ||| 1#24).getLsbD 0 = true := by decide +kernel

/-- The pairs, swaps and fades of `swapping` are as `BanksOk` has them. -/
theorem test_swapping_banksOk : BanksOk swapping := by
  refine ⟨?_, ?_, ?_, fun _ hc => (by cases hc)⟩
  · intro o k; cases o <;> cases k <;> refine ⟨?_, ?_, ?_, ?_, ?_, ?_, ?_⟩ <;>
      first
        | decide +kernel
        | (show Bank.ok _ table; exact ⟨by decide +kernel, by decide +kernel, by decide +kernel⟩)
        | trivial
  · intro o k; cases o <;> cases k <;> decide +kernel
  · intro o; cases o
    · intro f hf; cases hf; exact ⟨by decide, by decide, by decide⟩
    · intro f hf; cases hf

theorem test_meets_RampsFadesAndSwapsAtAStart :
    swapping.dome = some 9#32 ∧ noCueDue 9#32 swapping ∧ BanksOk swapping :=
  ⟨by decide +kernel, fun _ hc => (by cases hc), test_swapping_banksOk⟩
theorem test_meets_RampsFadesAndSwapsAtAStart_counts :
    (Ramp.mk 0 9 0).remaining = 0 ∧ (Ramp.mk 0 9 1).remaining = 1 ∧ (Ramp.mk 0 9 2).remaining ≠ 0 ∧ 0 < 2
    ∧ 2 * (2 * roundDiv (-9) 2 - (-9)).natAbs = 2 := by decide +kernel

/-- A cue that was due at period 9. -/
def dueCue : Cue := ⟨7#8, 9#32, ⟨true, false⟩, .swap ⟨false, true⟩ 4, .a⟩

theorem test_meets_DueCuesFireAndLeave :
    { ticking with cues := [dueCue] }.dome = some 9#32 ∧ atOrBefore dueCue.target 9#32 = true
    ∧ { ticking with cues := [dueCue] }.outcomes.length + [dueCue].length ≤ 16
    ∧ { swapping with cues := [dueCue] }.dome = some 9#32 ∧ BanksOk { swapping with cues := [dueCue] } := by
  refine ⟨by decide +kernel, by decide +kernel, by decide +kernel, by decide +kernel, test_swapping_banksOk.1,
    test_swapping_banksOk.2.1, test_swapping_banksOk.2.2.1, fun c hc => ?_⟩
  cases List.mem_singleton.mp hc; exact (by decide : 4 ≤ 250)
theorem test_meets_FiredCuesActOnWhatTheyName :
    dueCue.action = .swap ⟨false, true⟩ 4 ∧ ((⟨false, true⟩ : Kinds).warp = true → (4 : Nat) = 0)
    ∧ BanksOk swapping
    ∧ (∀ (o : Out) (k : Kind), namesPair dueCue.mask ⟨false, true⟩ o k = true → swapping.pendingSwaps.at2 o k = none)
    ∧ (∀ (o : Out) (k : Kind), namesPair ⟨true, false⟩ ⟨true, true⟩ o k = true → swapping.pendingSwaps.at2 o k = none)
    ∧ (∀ (o : Out) (k : Kind), namesPair ⟨true, true⟩ ⟨true, false⟩ o k = true → swapping.pendingSwaps.at2 o k = none)
    ∧ { dueCue with action := .gain 5 0 }.action = .gain 5 0 := by
  refine ⟨by decide +kernel, by simp, test_swapping_banksOk, ?_, ?_, ?_, rfl⟩ <;>
    (intro o k; cases o <;> cases k <;> decide +kernel)
theorem test_meets_StartFreesPassedSlots :
    reading.dome = some 9#32
    ∧ (∀ (l : Link) (i j : SlotIndex), (reading.slot ⟨l, i⟩).isFilling = true → (reading.slot ⟨l, j⟩).isFilling = true →
        i = j)
    ∧ (reading.slot ⟨.a, .i0⟩).target = some 10#32 ∧ ((10#32 : Period) - 9#32).toNat ≤ 16
    ∧ reading.slot ⟨.a, .i0⟩ = .filling ⟨10#32, 640, 480, .gamma10, []⟩
    ∧ (∀ i : SlotIndex, (reading.slot ⟨.b, i⟩).isFilling = false)
    ∧ (atOrBefore 8#32 9#32 = true ∧ (8#32 : Period) ≠ 9#32)
    ∧ (¬(atOrBefore 26#32 9#32 = true ∧ (26#32 : Period) ≠ 9#32) ∧ laterThan 26#32 (9#32 + 16) = true)
    ∧ (¬(atOrBefore 9#32 9#32 = true ∧ (9#32 : Period) ≠ 9#32) ∧ laterThan 9#32 (9#32 + 16) = false)
    ∧ ((atOrBefore 0x8000000A#32 9#32 = true ∧ (0x8000000A#32 : Period) ≠ 9#32)
        ∧ laterThan 0x8000000A#32 (9#32 + 16) = true)
    ∧ (¬(atOrBefore 25#32 9#32 = true ∧ (25#32 : Period) ≠ 9#32) ∧ laterThan 25#32 (9#32 + 16) = false) := by
  refine ⟨by decide +kernel, ?_, by decide +kernel, by decide, rfl, ?_, by decide +kernel⟩
  · intro l i j; cases l <;> cases i <;> cases j <;> decide +kernel
  · intro i; cases i <;> decide +kernel
theorem test_meets_ControllersActIndependently :
    (Controller.reset.pendingSelect = none)
    ∧ ({ live with pendingSelect := some .backup }.pendingSelect = some .backup ∧ live.state ≠ .dark
        ∧ live.state ≠ .opening ∧ (live.route.link .backup).isSome = true)
    ∧ (Controller.reset.route.link .backup).isSome = false
    ∧ frameForD showing .a = some ⟨.a, .i0⟩
    ∧ showing.slot ⟨.a, .i0⟩ = .complete frame ⟨true, false⟩ ∧ showing.dome = some frame.target := by
  refine ⟨rfl, by decide +kernel, by decide +kernel, by decide +kernel, rfl, by decide +kernel⟩

theorem test_meets_DarkAndOpeningRules :
    Controller.reset.ok ∧ Controller.reset.state = .dark ∧ { Controller.reset with douser := false }.ok
    ∧ (opening (.running 5)).ok ∧ (opening .expired).ok ∧ (opening .expired).state = .opening
    ∧ (opening .expired).openTimer = .expired ∧ (opening (.running 5)).openTimer = .running 5 := by
  obtain ⟨h1, h2, h3, h4, _⟩ := test_controllers_ok
  exact ⟨h1, rfl, h2, h3, h4, rfl, rfl, rfl⟩

theorem test_meets_DarkAndOpeningRules_candidates :
    ((view (some ⟨.a, .i1⟩) none).frameOn (some .a) = some ⟨.a, .i1⟩)
    ∧ ((view none (some ⟨.b, .i0⟩)).frameOn (some .a) = none ∧ (view none (some ⟨.b, .i0⟩)).frameOn (some .b) = some ⟨.b, .i0⟩)
    ∧ (view none none).frameOn (some .a) = none ∧ (view none none).frameOn none = none := by decide +kernel

/-- The controller `live` on its backup. -/
def onBackup : Controller := { live with role := some .backup }

/-- A view of a frame on link A alone, on link B alone, on neither; and one in which the primary has settled. -/
def onlyA : StartView := view (some ⟨.a, .i1⟩) none
def onlyB : StartView := view none (some ⟨.b, .i0⟩)
def neither : StartView := view none none
def settled : StartView := { onlyA with settled := true }

theorem test_meets_LiveAndHoldingRules :
    live.ok ∧ live.role = some .primary ∧ live.state = .live ∧ onBackup.ok ∧ onBackup.role = some .backup
    ∧ (liveIn .holding 1 1).ok ∧ (liveIn .holding 1 1).state = .holding
    ∧ (onBackup.state = .live ∧ settled.selected = false ∧ onBackup.route.revert = .auto ∧ settled.settled = true
        ∧ settled.frameOn onBackup.route.primary = some ⟨.a, .i1⟩)
    ∧ (onlyA.settled = false ∧ onlyA.frameOn (live.route.link .primary) = some ⟨.a, .i1⟩)
    ∧ (onlyB.frameOn (live.route.link .primary) = none
        ∧ onlyB.frameOn (live.route.link .backup) = some ⟨.b, .i0⟩ ∧ live.route.threshold ≤ live.starved + 1)
    ∧ (neither.frameOn (live.route.link .primary) = none ∧ neither.frameOn (live.route.link .backup) = none
        ∧ live.starved + 1 < live.route.holdover)
    ∧ ((liveIn .holding 1 1).route.holdover ≤ (liveIn .holding 1 1).starved + 1
        ∧ max 0 (1 - 1 / ((liveIn .holding 1 1).route.fadeOut : Rat)) ≠ 0)
    ∧ { live with route := { live.route with fadeOut := 0 } }.ok := by
  obtain ⟨_, _, _, _, h5, h6, h7, h8, _⟩ := test_controllers_ok
  exact ⟨h5, rfl, rfl, h6, rfl, h8, rfl, by decide +kernel, by decide +kernel, by decide +kernel, by decide +kernel,
    by decide +kernel, h7⟩

theorem test_meets_SourceWeightFades :
    (liveIn .fadingIn 0 (1 / 2)).ok ∧ (liveIn .fadingIn 0 (1 / 2)).role = some .primary
    ∧ onlyA.frameOn ((liveIn .fadingIn 0 (1 / 2)).route.link .primary) = some ⟨.a, .i1⟩
    ∧ (neither.frameOn ((liveIn .fadingIn 0 (1 / 2)).route.link .primary) = none
        ∧ neither.frameOn ((liveIn .fadingIn 0 (1 / 2)).route.link .backup) = none
        ∧ (liveIn .fadingIn 0 (1 / 2)).starved + 1 < (liveIn .fadingIn 0 (1 / 2)).route.holdover)
    ∧ (onlyB.frameOn ((liveIn .fadingIn 0 (1 / 2)).route.link .primary) = none
        ∧ onlyB.frameOn ((liveIn .fadingIn 0 (1 / 2)).route.link Role.primary.other) = some ⟨.b, .i0⟩
        ∧ (liveIn .fadingIn 0 (1 / 2)).route.threshold ≤ (liveIn .fadingIn 0 (1 / 2)).starved + 1)
    ∧ ((liveIn .fadingIn 1 (1 / 2)).ok
        ∧ (liveIn .fadingIn 1 (1 / 2)).route.holdover ≤ (liveIn .fadingIn 1 (1 / 2)).starved + 1)
    ∧ ((liveIn .fadingOut 2 (1 / 2)).ok ∧ onlyB.candidate live.route = some (.backup, ⟨.b, .i0⟩)
        ∧ neither.candidate live.route = none ∧ max 0 ((1 / 2 : Rat) - 1 / (live.route.fadeOut : Rat)) ≠ 0)
    ∧ ((liveIn .fadingOut 2 (1 / 24)).ok ∧ max 0 ((1 / 24 : Rat) - 1 / (live.route.fadeOut : Rat)) = 0) := by
  obtain ⟨_, _, _, _, _, _, _, _, h9, h10, h11, h12⟩ := test_controllers_ok
  exact ⟨h9, rfl, by decide +kernel, by decide +kernel, by decide +kernel, ⟨h12, by decide +kernel⟩,
    ⟨h10, by decide +kernel⟩, ⟨h11, by decide +kernel⟩⟩

theorem test_meets_SignalReportsAndLoss :
    (up.ports.a.signal = false ∧ up.ports.a.state = .off ∧ up.part.state ≠ .initializing)
    ∧ (State.reset.ports.a.signal = false ∧ State.reset.part.state = .initializing)
    ∧ (linked (.seeking 9) .none none).ports.a.signal = true
    ∧ ∀ x ∈ [LinkState.seeking 9, .aligned 9 3, .locked 1 0, .holdover 9 2],
        ({ linked x .none none with
            ports := ⟨⟨x, false, none, .none, some 4, none, false⟩, Port.reset⟩ }.ports.get .a).signalLoss = some 4
        ∧ ({ linked x .none none with
            ports := ⟨⟨x, false, none, .none, some 4, none, false⟩, Port.reset⟩ }.ports.get .a).state = x := by
  decide +kernel

/-- LOCKED since the instant of signal lost, entered from ALIGNED and from HOLDOVER, and since before it. -/
theorem test_meets_SignalReportsAndLoss_locks :
    let port := fun (since : Nat) (fromAligned : Bool) =>
      (⟨.locked 0 since, false, none, .none, some 4, none, fromAligned⟩ : Port)
    ((port 4 true).fromAligned = true ∧ 4 ≤ 4) ∧ ¬((port 4 false).fromAligned = true ∧ 4 ≤ 4)
    ∧ ¬((port 3 true).fromAligned = true ∧ 4 ≤ 3) := by decide +kernel

/-- The links that may judge a header. -/
def judging : List LinkState :=
  [.seeking 9, .aligned 9 1, .aligned 9 3, .locked 0 0, .locked 1 0, .holdover 9 0, .holdover 9 3]

/-- A port whose signal is lost at time 4, and which waits for a header. -/
def losing (x : LinkState) : Port := ⟨x, false, some 7001#32, .awaitingHeader, some 4, none, false⟩

/-- A port that waits for a header, with its signal present and at the instant of signal lost. -/
theorem test_ports_await_headers (x : LinkState) :
    awaitsHeader ((linked x .awaitingHeader (some 7001#32)).ports.get .a) 4 ∧ awaitsHeader (losing x) 4
    ∧ hearsLine ((linked x .skipping none).ports.get .a) 4 ∧ hearsLine (losing x) 4 := by
  exact ⟨⟨Or.inl rfl, rfl⟩, ⟨Or.inr ⟨4, rfl, le_refl _⟩, rfl⟩, Or.inl rfl, Or.inr ⟨4, rfl, le_refl _⟩⟩

theorem test_meets_DelimitersAndBadHeaders :
    (∀ x ∈ judging, x.judges = true ∧ fillingIndex (linked x .skipping none) .a = none)
    ∧ ((linked (.seeking 9) .skipping none).ports.a.frame ≠ .awaitingHeader
        ∧ (linked (.seeking 9) .skipping none).ports.a.frame ≠ .headerLost)
    ∧ badHeaderBytes (headerFor 7002#32 ^^^ 1#96)
    ∧ (linked (.locked 1 0) .awaitingHeader none).ports.a.frame = .awaitingHeader
    ∧ (linked (.locked 1 0) .headerLost none).ports.a.frame = .headerLost
    ∧ ¬((linked (.locked 1 0) .headerLost none).ports.a.state.judges = true
        ∧ awaitsHeader ((linked (.locked 1 0) .headerLost none).ports.get .a) 4) := by
  refine ⟨by decide +kernel, by decide +kernel, fun h hh => ?_, rfl, rfl, fun h => (by cases h.2.2)⟩
  · have hn : headerOf (headerFor 7002#32 ^^^ 1#96) = none := by decide +kernel
    rw [(headerOf_eq_some_iff _ h).mpr hh] at hn; cases hn

/-- The header of the tests stands on the line as R193 lays it out. -/
theorem test_header_carried : (header 7002#32).carriedBy (headerFor 7002#32) :=
  (headerOf_eq_some_iff _ _).mp (by decide +kernel)

theorem test_meets_GoodHeadersAlignALink :
    (header 7002#32).carriedBy (headerFor 7002#32)
    ∧ (∀ x ∈ judging, ((linked x .awaitingHeader (some 7001#32)).ports.get .a).state = x)
    ∧ (∀ q, ((linked (.aligned 9 1) .awaitingHeader (some 7001#32)).ports.get .a).previous = some q →
        laterThan (header 7002#32).target q = true)
    ∧ ¬∀ q, ((linked (.aligned 9 1) .awaitingHeader (some 7002#32)).ports.get .a).previous = some q →
        laterThan (header 7002#32).target q = true := by
  refine ⟨test_header_carried, by decide +kernel, ?_, fun h => absurd (h 7002#32 rfl) (by decide +kernel)⟩
  intro q hq; cases hq; decide +kernel

theorem test_meets_HeadersOfALockedLink :
    (header 7002#32).carriedBy (headerFor 7002#32)
    ∧ (((linked (.aligned 9 3) .awaitingHeader none).ports.get .a).state = .aligned 9 3 ∧
      ((linked (.holdover 9 3) .awaitingHeader none).ports.get .a).state = .holdover 9 3 ∧
      ((linked (.locked 1 0) .awaitingHeader none).ports.get .a).state = .locked 1 0)
    ∧ up.dome = none ∧ ticking.dome = some 9#32 ∧ ticking.part.state.inStandby = false
    ∧ (PartState.standby .automatic).inStandby = true ∧ atOrBefore 9#32 9#32 = true
    ∧ (atOrBefore 26#32 9#32 = false ∧ laterThan 26#32 (9#32 + 16) = true)
    ∧ (atOrBefore 25#32 9#32 = false ∧ laterThan 25#32 (9#32 + 16) = false)
    ∧ (atOrBefore 10#32 9#32 = false ∧ laterThan 10#32 (9#32 + 16) = false)
    ∧ (reading.slot ⟨.a, .i0⟩).target = some 10#32
    ∧ (ticking.store.get .a).slots.find Slot.isFree = some .i0
    ∧ (Quad.mk (.filling frame) (.filling frame) (.filling frame) (.filling frame)).find Slot.isFree = none :=
  ⟨test_header_carried, by decide +kernel⟩

theorem test_meets_PixelLinesFillAndComplete :
    ((reading.ports.get .a).frame = .body ⟨header 10#32, 0, true, 0, [], false⟩
      ∧ lineTaken (reading.ports.get .a) 0 ⟨header 10#32, 0, true, 0, [], false⟩ (List.replicate 3840 0)
      ∧ fillingIndex reading .a = some .i0 ∧ reading.slot ⟨.a, .i0⟩ = .filling ⟨10#32, 640, 480, .gamma10, []⟩)
    ∧ fillingIndex (linked (.locked 0 0) (.body (body 0)) none) .a = none
    ∧ lineTaken ⟨.locked 0 0, false, none, .body { body 479 with broken := true }, some 4, none, false⟩ 4
        { body 479 with broken := true } (List.replicate 3840 0)
    ∧ (∀ b, (up.ports.get .a).frame = .body b → ¬lineTaken (up.ports.get .a) 0 b [])
    ∧ ¬lineTaken (reading.ports.get .a) 0 (body 480) (List.replicate 3840 0)
    ∧ laterThan 10#32 9#32 = true ∧ laterThan 9#32 9#32 = false := by
  have hl : (List.replicate 3840 (0 : Byte)).length = 6 * 640 := by rw [List.length_replicate]
  refine ⟨⟨rfl, ⟨hl, Or.inl ⟨rfl, rfl, by decide⟩⟩, by decide +kernel, rfl⟩, by decide +kernel,
    ⟨hl, Or.inr ⟨rfl, ⟨4, rfl, le_refl _⟩, rfl, rfl⟩⟩, fun b h => (by cases h), ?_, by decide +kernel⟩
  rintro ⟨_, ⟨_, _, h⟩ | ⟨h, _⟩⟩
  · exact absurd h (by decide)
  · cases h

theorem test_meets_ManagementPacketsReachTheirQueue :
    packetDue ((linked (.locked 0 0) (.body (body 480)) none).ports.get .a) (body 480)
    ∧ (∀ b, ¬packetDue (up.ports.get .a) b)
    ∧ ([0x43, 0, 0, 0, 0] : List Byte).length < 6
    ∧ (fieldAt [0x43, 0, 0, 0, 0, 241] 4 (beBytes 2 241) ∧ 240 < 241 ∧ 241 < 65536)
    ∧ (fieldAt [0x43, 0, 0, 0, 0, 240, 7] 4 (beBytes 2 240) ∧ 240 ≤ 240 ∧ [0x43, 0, 0, 0, 0, 240, 7].length < 240 + 8)
    ∧ (packetBytes 0x43 0 [] = withCheck (packet 0x43 0 []).head ∧ (packet 0x43 0 []).payload.length ≤ 240)
    ∧ ((packet 0x43 0 []).head ++ beBytes 2 (0#16).toNat ≠ withCheck (packet 0x43 0 []).head)
    ∧ (packet 0x12 1 (List.replicate 240 0)).payload.length ≤ 240 := by
  refine ⟨⟨rfl, rfl, rfl, rfl, rfl, by decide⟩, fun b h => ?_, by decide, ⟨rfl, by decide, by decide⟩,
    ⟨rfl, by decide, by decide⟩, by decide +kernel⟩
  obtain ⟨h, _⟩ := h; cases h

theorem test_meets_QuietFollowsALinkFailure :
    (Instr.linkAcquisitionTimeout .a = .linkAcquisitionTimeout .a
      ∧ ((linked (.seeking 9) .none none).ports.get .a).state = .seeking 9)
    ∧ ((linked (.aligned 9 2) .none none).ports.get .a).state = .aligned 9 2
    ∧ ((linked (.holdover 9 2) .none none).ports.get .a).state = .holdover 9 2
    ∧ ((linked (.quiet 9) .none none).ports.get .a).state = .quiet 9 := by decide +kernel

theorem test_meets_DouserTimersAndLines :
    let s := { up with controllers := ⟨{ Controller.reset with douser := false, douserTimer := some 8 }, opening (.running 8)⟩ }
    (s.controllers.get .out0).douserTimer = some 8 ∧ (s.controllers.get .out1).openTimer = .running 8
    ∧ (parted (.standby .commanded)).part.state.inStandby = true
    ∧ ({ up.part with service := .dark 5 }.service = .dark 5 ∧ { up.part with service := .grid 5 }.service = .grid 5)
    ∧ (s.part.state.inStandby = false ∧ s.part.service = .none) := by decide +kernel

/-- A start at which OUT-0, LIVE, finds no frame raises STARVED, and one at which it finds one does not. -/
theorem test_start_raises_STARVED :
    (periodStart showing { showing with store := ⟨LinkStore.reset, LinkStore.reset⟩ }).flagUnit.flags.getLsbD 23 = true
    ∧ (periodStart showing showing).flagUnit.flags.getLsbD 23 = false := by decide +kernel

/-- `up` with one line sample waiting, and a line decoder and service decoder as given. -/
def sampled (x : LineSample) (line : LineDecoder) (differing : Nat) : State :=
  { up with
    samples := [x]
    clock := { up.clock with line := line }
    part := { up.part with decoder := ⟨true, differing, none, none⟩ } }

theorem test_meets_TakenLevelsChangeAtTheFourthSample :
    let fresh : LineDecoder := ⟨false, 2, 0, .receiving 478 [true]⟩
    let last : LineDecoder := ⟨false, 3, 0, .receiving 479 [true]⟩
    let rise : LineSample := ⟨.sync, 7, true⟩
    let fall : LineSample := ⟨.service, 7, false⟩
    (List.replicate 47 false ++ [true]).length = 48 ∧ (sampled rise fresh 0).pending = [] ∧ (sampled rise fresh 0).samples = [rise]
    ∧ (sampled rise fresh 0).clock.released.isSome = true ∧ (sampled rise fresh 0).part.state ≠ .initializing
    ∧ (rise.level ≠ fresh.level ∧ fresh.differing + 1 < 4) ∧ (rise.level ≠ last.level ∧ 4 ≤ last.differing + 1)
    ∧ (fresh.reception = .receiving 478 [true] ∧ 478 + 1 < 480)
    ∧ (last.reception = .receiving 479 [true] ∧ 479 + 1 = 480)
    ∧ (fall.level ≠ (sampled fall fresh 2).part.decoder.level ∧ (sampled fall fresh 2).part.decoder.differing + 1 < 4)
    ∧ 4 ≤ (sampled fall fresh 3).part.decoder.differing + 1
    ∧ { fresh with reception := .waitingForRest }.reception = .waitingForRest
    ∧ { fresh with reception := .ready }.reception = .ready := by decide +kernel
/-- The 80th low sample makes the decoder ready, a taken rise starts cell 0, and the fifth sample of a cell is taken. -/
theorem test_line_decoder_frames_a_word :
    (receptionAfter ⟨false, 0, 79, .waitingForRest⟩ false 80).1 = .ready
    ∧ (receptionAfter ⟨false, 0, 78, .waitingForRest⟩ false 79).1 = .waitingForRest
    ∧ (receptionAfter ⟨false, 3, 80, .ready⟩ true 0).1 = .receiving 0 []
    ∧ (receptionAfter ⟨true, 0, 0, .receiving 4 []⟩ true 0).1 = .receiving 5 [true]
    ∧ (receptionAfter ⟨true, 0, 0, .receiving 5 [true]⟩ true 0).1 = .receiving 6 [true] := by decide +kernel

theorem test_meets_ServiceGroupsSetTheOverride :
    up.part.state ≠ .initializing ∧ up.part.decoder.level = true
    ∧ { up with part := { up.part with decoder := ⟨false, 0, some 255, none⟩ } }.part.decoder.level = false
    ∧ { up with part := { up.part with decoder := ⟨true, 0, some 6, some 9⟩ } }.part.decoder.timer = some 9
    ∧ { up with part := { up.part with service := .dark 9 } }.part.service = .dark 9
    ∧ { up with part := { up.part with service := .grid 9 } }.part.service = .grid 9 := by decide +kernel

/-- A snapshot with the output and the part in these states, and a masked node in its warp bank. -/
def snap (output : OutputState) (part : PartState) (service : Override) : Snapshot :=
  ⟨⟨640, 480, .gamma10⟩, output, none, none, 1, some ⟨⟨2, 2⟩, 0, 0, 0x80 :: List.replicate 31 0⟩, none, none, 0xFFFF, part,
    service, none⟩

/-- A snapshot that shows a pattern of this kind. -/
def patterned (kind : PatternKind) : Snapshot := { snap .live .ready .none with pattern := some ⟨kind, 0x8000#16, 9⟩ }

theorem test_meets_RenderedCodes :
    (snap .dark (.waking 5) .none).part ≠ .ready
    ∧ ((snap .live .ready (.dark 5)).part = .ready ∧ (snap .live .ready (.dark 5)).service = .dark 5)
    ∧ ((snap .opening .ready .none).service = .none ∧ (snap .opening .ready .none).pattern = none
        ∧ (snap .opening .ready .none).output = .opening)
    ∧ (showsContent (snap .live .ready .none) ∧ sourcePoint (snap .live .ready .none) 639 479 = none)
    ∧ sourcePoint { snap .live .ready .none with warp := none } 639 479 = some (639, 479)
    ∧ (∀ kind, showsPattern (patterned kind) kind 0x8000#16)
    ∧ showsPattern (snap .dark .ready (.grid 5)) .dotGrid 0xFFFF#16
    ∧ (0 : ℝ) ≤ 0 ∧ (0 : ℝ) ≤ 1 ∧ (1 : ℝ) ≤ 1
    ∧ ((⟨snap .dark .ready .none, 0, 16667, some 5, none⟩ : Raster).blackFrom = some 5 ∧ 5 ≤ 5)
    ∧ ((∀ b, (⟨snap .dark .ready .none, 0, 16667, some 5, some 4⟩ : Raster).blackFrom = some b → 4 < b)
      ∧ (⟨snap .dark .ready .none, 0, 16667, some 5, some 4⟩ : Raster).unmixedFrom = some 4)
    ∧ (snap .dark .ready .none).fade = none
    ∧ { snap .live .ready .none with fade := some ⟨⟨4, 1⟩, none⟩ }.fade ≠ none := by
  refine ⟨by decide +kernel, by decide +kernel, by decide +kernel, ⟨⟨rfl, rfl, rfl, rfl⟩, by decide +kernel⟩,
    by decide +kernel, ?_, ⟨rfl, Or.inl ⟨⟨5, rfl⟩, rfl, rfl⟩⟩, le_refl _, zero_le_one, le_refl _, by decide +kernel,
    ⟨fun b hb => (by cases hb; decide), rfl⟩, rfl, by decide +kernel⟩
  intro kind; exact ⟨rfl, Or.inr ⟨rfl, _, rfl, rfl, rfl⟩⟩
/-- A corner of the raster lies on the dot of a node, and a pixel two beyond it does not. -/
theorem test_dots : inDots (snap .dark .ready .none) 1 478 = true ∧ inDots (snap .dark .ready .none) 2 478 = false := by
  decide +kernel

theorem test_meets_PixelPathOfContent :
    (fieldAt (0x80 :: List.replicate 31 0) ((0 * 2 + 0) * 8)
        (beBytes 4 (0x80000000#32).toNat ++ beBytes 4 (0#32).toNat))
    ∧ fieldAt (List.replicate 15 0 ++ [0xFF]) ((1 * 2 + 1) * 4) (beBytes 2 (0#16).toNat ++ beBytes 2 (0x00FF#16).toNat)
    ∧ (2 ≤ 2 ∧ 639 < 640 ∧ 479 < 480 ∧ 0 < 640)
    ∧ { snap .live .ready .none with warp := none }.warp = none
    ∧ (∃ w : Table, (snap .live .ready .none).warp = some w
        ∧ w.masked 0 0 = true ∧ w.masked 1 0 = false ∧ w.masked 0 1 = false ∧ w.masked 1 1 = false)
    ∧ ((-1 : Rat) < 0 ∧ ¬((0 : Rat) < 0 ∨ (640 : Rat) - 1 < 639 ∨ (0 : Rat) < 0 ∨ (480 : Rat) - 1 < 479))
    ∧ { snap .live .ready .none with frame := some frame }.frame = some frame
    ∧ (([[⟨1, 2, 3⟩]] : List (List Pixel))[0]? = some [⟨1, 2, 3⟩] ∧ ([⟨1, 2, 3⟩] : List Pixel)[0]? = some ⟨1, 2, 3⟩)
    ∧ ((snap .live .ready .none).fade = none
        ∧ { snap .live .ready .none with fade := some ⟨⟨4, 1⟩, none⟩ }.fade = some ⟨⟨4, 1⟩, none⟩) := by
  refine ⟨by simp only [fieldAt]; decide +kernel, by simp only [fieldAt]; decide +kernel, by decide +kernel, rfl,
    ⟨_, rfl, by decide +kernel⟩, by decide +kernel, rfl, ⟨rfl, rfl⟩, rfl, rfl⟩

/-! ### The invariants hold in states that are not the reset state, and a step leaves them -/

theorem test_meets_StepKeepsQueues :
    let s := { given ticking (zeros 0x43 0) with cues := [dueCue] }
    QueuesOk s ∧ Steps s := by
  refine ⟨⟨fun l => by cases l <;> decide +kernel, by decide +kernel, by decide +kernel, fun c hc => ?_, by decide +kernel⟩,
    _, rfl⟩
  cases List.mem_singleton.mp hc; exact ⟨by decide, by decide, by decide, by decide, by decide⟩
theorem test_meets_StepKeepsBanks : BanksOk swapping ∧ Steps swapping := ⟨test_swapping_banksOk, _, rfl⟩
theorem test_meets_StepKeepsTheClock : ClockOk ticking ∧ Steps ticking := by
  refine ⟨⟨by decide +kernel, by decide +kernel, by decide +kernel, ⟨by decide +kernel, rfl, rfl⟩,
    fun h => (by cases h), by decide +kernel, ?_⟩, _, rfl⟩
  intro x hx; cases hx; decide
theorem test_meets_StepKeepsTheStore : StoreOk reading ∧ Steps reading := by
  refine ⟨⟨fun h => absurd h (by decide +kernel), ?_, ?_, ?_, ?_, ?_⟩, _, rfl⟩
  · intro i; rcases i with ⟨l, j⟩; cases l <;> cases j <;>
      first
        | trivial
        | refine ⟨⟨by decide, by decide, by decide, by decide⟩, fun _ h => (by cases h), by decide, rfl, ⟨rfl, rfl, rfl⟩,
            (by decide : ((10#32 : Period) - 9#32).toNat ≤ 16)⟩
  · intro l; cases l
    · intro b hb; cases hb; exact ⟨⟨by decide, by decide, by decide, by decide⟩, by decide, by decide, by decide⟩
    · intro b hb; cases hb
  · intro l i j; cases l <;> cases i <;> cases j <;> decide +kernel
  · intro l i j; cases l <;> cases i <;> cases j <;> decide +kernel
  · intro l; cases l <;> decide +kernel
theorem test_meets_StepKeepsOutputs_timed :
    (∀ o : Out, DouserTimed patternOnDark o) ∧ Steps { patternOnDark with pending := [.patternExpiry .out0] }
    ∧ ∀ t : Nat, [Instr.patternExpiry .out0].head? ≠ some (.softReset t) := by
  refine ⟨fun o => ?_, ⟨_, rfl⟩, fun t => by simp⟩
  cases o
  · exact fun _ _ => Or.inr rfl
  · exact fun _ h => (by cases h)
theorem test_meets_StepKeepsOutputs : OutputsOk showing ∧ Steps showing := by
  refine ⟨⟨⟨by decide +kernel, by decide +kernel, trivial⟩, ?_⟩, _, rfl⟩
  intro o; cases o
  · refine ⟨test_controllers_ok.2.2.2.2.1, fun h => absurd h (by decide +kernel), ?_⟩
    intro i; rcases i with ⟨l, j⟩; cases l <;> cases j <;> decide +kernel
  · refine ⟨test_controllers_ok.1, fun h => absurd h (by decide +kernel), ?_⟩
    intro i; rcases i with ⟨l, j⟩; cases l <;> cases j <;> decide +kernel

end Sys2Proof.Tests
end

section
/-!
PROOFS. The Management Engine: the general checks of R156 row by row of the command table, the packet that is taken, the
arbiter, and how masks and fields are read.
-/
namespace Sys2Proof.Machine

open Sys2Proof

/-! ### What a taken command answers (R154 to R158) -/

/-- A refused packet is answered, and nothing else of the state that the taking found changes. -/
theorem takeOwned_refused_answered {names : Packet → Bool} {lengthOk : Nat → Bool} {channel : Bool}
    {owner : Link → Packet → State → Reply} {t : Nat} {s : State} {l : Link} {p : Packet} {rest : List Packet}
    {st : Status} {payload : List Byte} (h : nextPacket s = some (l, p, rest)) (hn : names p = true)
    (hr : generalChecks (lengthOk p.payload.length) channel p (owner l p (dequeue l rest (s.advance t)))
      = .refuse st payload) :
    takeOwned names lengthOk channel owner t s = answered s t l p rest st payload :=
  takeOwned_refused h hn hr

/-- An accepted command that leaves the levels latches no edge. -/
theorem takeOwned_accepted_of_levels_eq {names : Packet → Bool} {lengthOk : Nat → Bool} {channel : Bool}
    {owner : Link → Packet → State → Reply} {t : Nat} {s s' : State} {l : Link} {p : Packet} {rest : List Packet}
    {payload : List Byte} (h : nextPacket s = some (l, p, rest)) (hn : names p = true)
    (hl : lengthOk p.payload.length = true) (hm : (channel && p.noOutput) = false)
    (ho : owner l p (dequeue l rest (s.advance t)) = .accept s' payload) (hs : levels s = levels s') :
    takeOwned names lengthOk channel owner t s = placeResult l (resultOf p .ok payload) s' := by
  rw [takeOwned_accepted h hn hl hm ho]
  exact latchEdges_of_levels_eq hs

/-! ### The general checks, row by row of the command table (R156) -/

/-- The checks of a row decide before its owner: where they refuse whatever the owner would reply, the row's command
answers that refusal. -/
def CommandRow.checksFirst (row : CommandRow) : Prop :=
  ∀ (s : State) (t : Nat) (l : Link) (p : Packet) (rest : List Packet) (st : Status),
    nextPacket s = some (l, p, rest) → p.code = row.code →
    (∀ owner : Reply, generalChecks (row.allows p.payload.length) row.channel p owner = .refuse st []) →
    exec (row.command t) s = .next (answered s t l p rest st [])

/-- Checks that refuse every reply refuse the length or apply to a channel command. -/
theorem length_or_channel_of_refused {ok channel : Bool} {p : Packet} {st : Status}
    (h : ∀ owner : Reply, generalChecks ok channel p owner = .refuse st []) : ok = false ∨ channel = true := by
  cases ok
  · exact Or.inl rfl
  · cases channel
    · have := h (.defer State.reset)
      rw [generalChecks_pass rfl rfl] at this
      cases this
    · exact Or.inr rfl

/-- A row taken by its owner checks first if it takes every packet of its code that its checks may refuse. -/
theorem checksFirst_of_names {row : CommandRow} (names : Packet → Bool)
    (owner : Link → Packet → State → Reply)
    (hexec : ∀ t s, exec (row.command t) s = .next (takeOwned names row.allows row.channel owner t s))
    (hnames : ∀ p : Packet, p.code = row.code → row.allows p.payload.length = false ∨ row.channel = true →
      names p = true) : row.checksFirst := by
  intro s t l p rest st h hcode hr
  rw [hexec, takeOwned_refused_answered h (hnames p hcode (length_or_channel_of_refused hr)) (hr _)]

/-- A row that takes the packets of its code checks first. -/
theorem checksFirst_of_code {row : CommandRow} (owner : Link → Packet → State → Reply)
    (hexec : ∀ t s, exec (row.command t) s =
      .next (takeOwned (fun p => p.code == row.code) row.allows row.channel owner t s)) : row.checksFirst :=
  checksFirst_of_names _ owner hexec fun _ hcode _ => beq_iff_eq.mpr hcode

/-- A STANDBY packet of another length names none of the actions, so each of the three rows takes it (log entry 9). -/
theorem namesStandby_of_length {action : Nat} {p : Packet} (hcode : p.code = 0x53#8)
    (hl : (p.payload.length == 3) = false) : namesStandby action p = true := by
  simp [namesStandby, standbyAction, hcode, beq_eq_false_iff_ne.mp hl]

/-- A row of STANDBY checks first. -/
theorem checksFirst_of_standby (command : Nat → Instr) (action : Nat)
    (owner : Link → Packet → State → Reply)
    (hexec : ∀ t s, exec (command t) s = .next (takeOwned (namesStandby action) (· == 3) false owner t s)) :
    CommandRow.checksFirst ⟨command, 0x53, (· == 3), false⟩ :=
  checksFirst_of_names _ owner hexec fun _ hcode hl => namesStandby_of_length hcode (by simpa using hl)

/-- SOFT_RESET, which latches no edge of its own, checks first. -/
theorem checksFirst_softReset : CommandRow.checksFirst ⟨.softReset, 0x7E, (· == 1), false⟩ := by
  intro s t l p rest st h hcode hr
  change execSoftReset t s = _
  rw [execSoftReset, h]
  simp only [hcode, runSoftReset, hr]
  rfl

/-- Every row of the command table checks the length and the mask before its owner. -/
theorem checksFirst_of_mem_commandTable : ∀ row ∈ commandTable, row.checksFirst := by
  simp only [commandTable, List.cons_append, List.nil_append, List.forall_mem_cons]
  exact
    ⟨checksFirst_of_code tableOpenOwner fun _ _ => rfl,
     checksFirst_of_code tableDataOwner fun _ _ => rfl,
     checksFirst_of_code tableCloseOwner fun _ _ => rfl,
     checksFirst_of_code tableDiscardOwner fun _ _ => rfl,
     checksFirst_of_code swapOwner fun _ _ => rfl,
     checksFirst_of_code gainOwner fun _ _ => rfl,
     checksFirst_of_code cueAddOwner fun _ _ => rfl,
     checksFirst_of_code cueCancelOwner fun _ _ => rfl,
     checksFirst_of_code cueFlushOwner fun _ _ => rfl,
     checksFirst_of_code reportOwner fun _ _ => rfl,
     checksFirst_of_code routeOwner fun _ _ => rfl,
     checksFirst_of_code selectOwner fun _ _ => rfl,
     checksFirst_of_code configLockOwner fun _ _ => rfl,
     checksFirst_of_code configUnlockOwner fun _ _ => rfl,
     checksFirst_of_code setOutputOwner fun _ _ => rfl,
     checksFirst_of_code flagsArmOwner fun _ _ => rfl,
     checksFirst_of_code flagsClearOwner fun _ _ => rfl,
     checksFirst_of_code statusOwner fun _ _ => rfl,
     checksFirst_of_code patternOwner fun _ _ => rfl,
     checksFirst_of_code patternEndOwner fun _ _ => rfl,
     checksFirst_of_standby .standbyEnter 1 standbyEnterOwner fun _ _ => rfl,
     checksFirst_of_standby .standbyExit 2 standbyExitOwner fun _ _ => rfl,
     checksFirst_of_standby .standbyDelay 3 standbyDelayOwner fun _ _ => rfl,
     checksFirst_softReset, List.forall_mem_nil _⟩

/-- A length that the row does not allow is answered BAD_LENGTH. -/
theorem exec_row_badLength {row : CommandRow} (hrow : row ∈ commandTable) {s : State} {l : Link} {p : Packet}
    {rest : List Packet} (t : Nat) (h : nextPacket s = some (l, p, rest)) (hcode : p.code = row.code)
    (hl : row.allows p.payload.length = false) :
    exec (row.command t) s = .next (answered s t l p rest .badLength []) :=
  checksFirst_of_mem_commandTable row hrow s t l p rest _ h hcode fun _ => generalChecks_length hl

/-- A channel command of an allowed length whose mask names no output is answered BAD_PARAM. -/
theorem exec_row_badParam {row : CommandRow} (hrow : row ∈ commandTable) {s : State} {l : Link} {p : Packet}
    {rest : List Packet} (t : Nat) (h : nextPacket s = some (l, p, rest)) (hcode : p.code = row.code)
    (hl : row.allows p.payload.length = true) (hc : row.channel = true) (hm : p.noOutput = true) :
    exec (row.command t) s = .next (answered s t l p rest .badParam []) :=
  checksFirst_of_mem_commandTable row hrow s t l p rest _ h hcode fun _ =>
    generalChecks_mask hl (by rw [hc, hm]; rfl)

/-- The codes that name a command are those of the table's rows. -/
theorem commandCodes_contains (b : Byte) :
    commandCodes.contains b.toNat = commandTable.any fun row => b == row.code := by
  revert b
  decide +kernel

/-- A packet whose code is that of no row is answered UNKNOWN_COMMAND. -/
theorem exec_unknownCommand {s : State} {l : Link} {p : Packet} {rest : List Packet} (t : Nat)
    (h : nextPacket s = some (l, p, rest)) (hcode : ∀ row ∈ commandTable, p.code ≠ row.code) :
    exec (.unknownCommand t) s = .next (answered s t l p rest .unknownCommand []) := by
  have hn : (!commandCodes.contains p.code.toNat) = true := by
    rw [commandCodes_contains, Bool.not_eq_true', List.any_eq_false]
    exact fun row hrow => by simpa using hcode row hrow
  exact congrArg Host.Outcome.next (takeOwned_refused_answered h hn (generalChecks_pass rfl rfl))

/-! ### The packet taken (R154, R155) -/

theorem nextPacket_initializing {s : State} (h : s.part.state = .initializing) : nextPacket s = none := by
  rw [nextPacket, h]

/-- Outside INITIALIZING the engine takes the first packet of the link that the arbiter chooses. -/
theorem nextPacket_of_choose {s : State} {l : Link} {p : Packet} {rest : List Packet}
    (hs : s.part.state ≠ .initializing) (hc : s.engine.choose = some l)
    (hq : s.engine.commands.get l = p :: rest) : nextPacket s = some (l, p, rest) := by
  unfold nextPacket
  cases hp : s.part.state with
  | initializing => exact absurd hp hs
  | ready | standby _ | waking _ => simp only [hc, hq]

theorem nextPacket_of_choose_none {s : State} (h : s.engine.choose = none) : nextPacket s = none := by
  unfold nextPacket
  cases s.part.state with
  | initializing => rfl
  | ready | standby _ | waking _ => simp only [h]

/-! ### The arbiter (R153, R154) -/

theorem mayServe_iff (e : Engine) (l : Link) :
    e.mayServe l = true ↔ e.commands.get l ≠ [] ∧ (e.results.get l).length + e.reserved.get l < 8 := by
  rw [Engine.mayServe, resultPlaces, Bool.and_eq_true, decide_eq_true_iff]
  simp

/-- A link is the link `m` or the other one. -/
theorem eq_or_eq_otherLink (l m : Link) : l = m ∨ l = otherLink m := by
  cases l <;> cases m <;> simp [otherLink]

theorem choose_of_other {e : Engine} (h : e.mayServe (otherLink e.arbiter) = true) :
    e.choose = some (otherLink e.arbiter) := by
  rw [Engine.choose, if_pos h]

/-- The only link that may be served is chosen, whichever link the pointer names. -/
theorem choose_of_only {e : Engine} {l : Link} (h : e.mayServe l = true)
    (ho : e.mayServe (otherLink l) = false) : e.choose = some l := by
  rcases eq_or_eq_otherLink l e.arbiter with rfl | rfl
  · simp [Engine.choose, ho, h]
  · exact choose_of_other h

theorem choose_of_none {e : Engine} (h : ∀ l : Link, e.mayServe l = false) : e.choose = none := by
  simp [Engine.choose, h]

/-! ### Masks (R150) -/

theorem noOutput_iff (p : Packet) : p.noOutput = true ↔ p.outputs = ⟨false, false⟩ := by
  unfold Packet.noOutput
  rcases p.outputs with ⟨m, n⟩
  cases m <;> cases n <;> simp

theorem oneOutput_iff (p : Packet) (o : Out) :
    p.oneOutput = some o ↔ p.outputs = PerOut.set ⟨false, false⟩ o true := by
  unfold Packet.oneOutput
  rcases p.outputs with ⟨m, n⟩
  cases m <;> cases n <;> cases o <;> simp [PerOut.set]

/-! ### The fields of a payload, most significant byte first (R2, R194) -/

/-- Each of two fields that stand one after the other stands at its own offset. -/
theorem fieldAt_append {bytes f g : List Byte} {i : Nat} (h : fieldAt bytes i (f ++ g)) :
    fieldAt bytes i f ∧ fieldAt bytes (i + f.length) g := by
  unfold fieldAt at h ⊢
  rw [List.length_append] at h
  constructor
  · simpa [List.take_take] using congrArg (List.take f.length) h
  · simpa [List.drop_take, List.drop_drop] using congrArg (List.drop f.length) h

/-- The high `a` and the low `b` bits of a number, one after the other, are its low `a + b` bits. -/
theorem ofNat_append_ofNat (a b n : Nat) :
    BitVec.ofNat a (n / 2 ^ b) ++ BitVec.ofNat b n = BitVec.ofNat (a + b) n := by
  apply BitVec.eq_of_getLsbD_eq
  intro i hi
  simp only [BitVec.getLsbD_append, BitVec.getLsbD_ofNat, Nat.testBit_div_two_pow]
  split
  · simp [*]
  · rw [show i - b + b = i by omega, decide_eq_true hi, decide_eq_true (show i - b < a by omega)]

theorem beBytes_three (n : Nat) : beBytes 3 n = beBytes 2 (n / 2 ^ 8) ++ [BitVec.ofNat 8 n] := by
  simp [beBytes, Nat.div_div_eq_div_mul]

theorem beBytes_four (n : Nat) : beBytes 4 n = beBytes 2 (n / 2 ^ 16) ++ beBytes 2 n := by
  simp [beBytes, Nat.div_div_eq_div_mul]

theorem u8_of_fieldAt {p : Packet} {i : Nat} {x : Byte} (h : fieldAt p.payload i [x]) : p.u8 i = x := by
  have hx : ((p.payload.drop i).take 1)[0]? = some x := by
    rw [show (p.payload.drop i).take 1 = [x] from h]
    rfl
  rw [List.getElem?_take_of_lt Nat.zero_lt_one, List.getElem?_drop, Nat.add_zero] at hx
  rw [Packet.u8, List.getD, hx, Option.getD_some]

theorem u16_of_fieldAt {p : Packet} {i n : Nat} (h : fieldAt p.payload i (beBytes 2 n)) :
    p.u16 i = BitVec.ofNat 16 n := by
  rw [beBytes_two] at h
  obtain ⟨hhi, hlo⟩ := fieldAt_append (f := [_]) (g := [_]) h
  rw [Packet.u16, u8_of_fieldAt hhi, show p.u8 (i + 1) = _ from u8_of_fieldAt hlo]
  exact ofNat_append_ofNat 8 8 n

theorem u24_of_fieldAt {p : Packet} {i n : Nat} (h : fieldAt p.payload i (beBytes 3 n)) :
    p.u24 i = BitVec.ofNat 24 n := by
  rw [beBytes_three] at h
  obtain ⟨hhi, hlo⟩ := fieldAt_append h
  rw [Packet.u24, u16_of_fieldAt hhi, show p.u8 (i + 2) = _ from u8_of_fieldAt hlo]
  exact ofNat_append_ofNat 16 8 n

theorem u32_of_fieldAt {p : Packet} {i n : Nat} (h : fieldAt p.payload i (beBytes 4 n)) :
    p.u32 i = BitVec.ofNat 32 n := by
  rw [beBytes_four] at h
  obtain ⟨hhi, hlo⟩ := fieldAt_append h
  rw [Packet.u32, u16_of_fieldAt hhi, show p.u16 (i + 2) = _ from u16_of_fieldAt hlo]
  exact ofNat_append_ofNat 16 16 n

/-- Settles O3: the rows of the command table one by one, then the packet taken, the mask, the fields and the arbiter,
each from its own rule. -/
theorem generalChecksComeFirst : Obligations.GeneralChecksComeFirst := by
  unfold Obligations.GeneralChecksComeFirst
  refine ⟨fun s t l p rest h hcode => exec_unknownCommand t h hcode,
    fun row hrow s t l p rest h hcode => ⟨exec_row_badLength hrow t h hcode, exec_row_badParam hrow t h hcode⟩,
    fun s => ⟨nextPacket_initializing, fun hs => ⟨nextPacket_of_choose_none, fun l p rest => nextPacket_of_choose hs⟩⟩,
    fun p => ⟨rfl, noOutput_iff p, oneOutput_iff p⟩,
    fun p i => ⟨fun x => u8_of_fieldAt, fun x h => ?_, fun x h => ?_, fun x h => ?_⟩,
    fun e => ⟨mayServe_iff e, fun ha hb => choose_of_other ?_, fun l => choose_of_only, fun ha hb => choose_of_none ?_⟩⟩
  · rw [u16_of_fieldAt h, BitVec.ofNat_toNat, BitVec.setWidth_eq]
  · rw [u24_of_fieldAt h, BitVec.ofNat_toNat, BitVec.setWidth_eq]
  · rw [u32_of_fieldAt h, BitVec.ofNat_toNat, BitVec.setWidth_eq]
  · cases e.arbiter <;> assumption
  · intro l
    cases l <;> assumption

end Sys2Proof.Machine
end

section
/-!
PROOFS. CUE_ADD and the cue list: the tests of its owner in their order, the place of an entry, its action, and what
conflicts.
-/
namespace Sys2Proof.Machine

open Sys2Proof

/-! ### CUE_ADD (R39, R40) -/

/-- A CUE_ADD whose owner refuses it is answered with that refusal. -/
theorem exec_cueAdd_refused {s : State} {t : Nat} {l : Link} {p : Packet} {rest : List Packet} {st : Status}
    (h : nextPacket s = some (l, p, rest)) (hcode : p.code = 0x23#8) (hl : p.payload.length = 12)
    (hm : p.noOutput = false) (ho : cueAddOwner l p (dequeue l rest (s.advance t)) = .refuse st []) :
    exec (.cueAdd t) s = .next (answered s t l p rest st []) :=
  congrArg Host.Outcome.next <| takeOwned_refused_answered h (beq_iff_eq.mpr hcode) <|
    (generalChecks_pass (beq_iff_eq.mpr hl) (by rw [hm]; rfl)).trans ho

/-- A CUE_ADD whose owner accepts it is answered OK and changes the cue list alone. -/
theorem exec_cueAdd_accepted {s : State} {t : Nat} {l : Link} {p : Packet} {rest : List Packet} {cues : List Cue}
    (h : nextPacket s = some (l, p, rest)) (hcode : p.code = 0x23#8) (hl : p.payload.length = 12)
    (hm : p.noOutput = false)
    (ho : cueAddOwner l p (dequeue l rest (s.advance t))
      = .accept { dequeue l rest (s.advance t) with cues := cues } []) :
    exec (.cueAdd t) s = .next { answered s t l p rest .ok [] with cues := cues } := by
  have hlevels : levels s = levels { dequeue l rest (s.advance t) with cues := cues } :=
    levels_congr rfl rfl rfl rfl rfl
  have htaken := takeOwned_accepted_of_levels_eq (names := fun p => p.code == 0x23#8) (lengthOk := (· == 12))
    (channel := true) h (beq_iff_eq.mpr hcode) (beq_iff_eq.mpr hl) hm ho hlevels
  exact congrArg Host.Outcome.next htaken

/-- A target is past when D is defined and the target is at or before it (R40). -/
theorem isPast_eq (s : State) (target : Period) :
    isPast s target = match s.dome with
      | some d => atOrBefore target d
      | none => false := by
  unfold isPast
  cases s.dome <;> rfl

/-- The owner's tests in their order, on the state that the taking of the packet leaves (R39, R40). -/
theorem cueAddOwner_dequeue {l : Link} {p : Packet} {action : CueAction} (hact : cueActionOf p = some action)
    (rest : List Packet) (s : State) (t : Nat) :
    cueAddOwner l p (dequeue l rest (s.advance t)) =
      if p.u8 0 = 0 then .refuse .badParam []
      else if 16 ≤ s.cues.length then .refuse .listFull []
      else if s.cues.any fun d => d.id == p.u8 0 then .refuse .duplicateId []
      else if isPast s (p.u32 1) then .refuse .past []
      else if s.cues.any fun d => Cue.conflicts ⟨p.u8 0, p.u32 1, p.outputs, action, l⟩ d then .refuse .conflict []
      else .accept { dequeue l rest (s.advance t) with
        cues := insertCue ⟨p.u8 0, p.u32 1, p.outputs, action, l⟩ s.cues } [] := by
  simp only [cueAddOwner, hact, beq_iff_eq]
  rfl

/-! ### The list, the actions and the conflicts (R39 to R41) -/

/-- The entry stands before the first one with a later target, and the others keep their order (R40). -/
theorem insertCue_splits (cue : Cue) (cues : List Cue) :
    ∃ before after : List Cue, cues = before ++ after ∧ insertCue cue cues = before ++ cue :: after
      ∧ (∀ c ∈ before, laterThan c.target cue.target = false)
      ∧ ∀ c ∈ after.head?, laterThan c.target cue.target = true := by
  induction cues with
  | nil => exact ⟨[], [], rfl, rfl, by simp, by simp⟩
  | cons d rest ih =>
    by_cases hd : laterThan d.target cue.target = true
    · exact ⟨[], d :: rest, rfl, by simp [insertCue, hd], by simp, by simpa using hd⟩
    · obtain ⟨before, after, hsplit, hinsert, hbefore, hafter⟩ := ih
      have hd : laterThan d.target cue.target = false := Bool.eq_false_iff.mpr hd
      exact ⟨d :: before, after, by rw [hsplit]; rfl, by simp [insertCue, hd, hinsert],
        List.forall_mem_cons.mpr ⟨hd, hbefore⟩, hafter⟩

/-- The actions that R39 accepts, with their ranges. -/
theorem cueActionOf_eq (p : Packet) :
    cueActionOf p =
      if (p.u8 5).toNat = 1 then
        match swapKindsOf (p.u8 6) with
        | none => none
        | some ks =>
          if 250 < (p.u8 7).toNat ∨ ((p.u8 7).toNat ≠ 0 ∧ ks.warp = true) then none
          else some (.swap ks (p.u8 7).toNat)
      else if (p.u8 5).toNat = 2 then
        if 1000 < (p.u16 10).toNat then none else some (.gain (p.u16 8) (p.u16 10).toNat)
      else none := by
  unfold cueActionOf
  rw [kindsOf_eq]
  generalize (p.u8 5).toNat = kind
  match kind with
  | 0 => rfl
  | 1 =>
    cases swapKindsOf (p.u8 6) with
    | none => rfl
    | some ks => simp [badSwapFields]
  | 2 => rfl
  | n + 3 => simp

theorem masksMeet_iff (m n : Mask) : masksMeet m n = true ↔ ∃ o : Out, m.get o = true ∧ n.get o = true := by
  constructor
  · intro h
    rcases Bool.or_eq_true_iff.mp h with h | h
    · exact ⟨.out0, Bool.and_eq_true_iff.mp h⟩
    · exact ⟨.out1, Bool.and_eq_true_iff.mp h⟩
  · rintro ⟨o, hm, hn⟩
    cases o <;> simp_all [masksMeet, PerOut.get]

/-- Two kinds of a SWAP share a kind. -/
theorem kindsMeet_iff (a b : Kinds) :
    ((a.warp && b.warp) || (a.blend && b.blend)) = true ↔ ∃ k : Kind, a.has k = true ∧ b.has k = true := by
  constructor
  · intro h
    rcases Bool.or_eq_true_iff.mp h with h | h
    · exact ⟨.warp, Bool.and_eq_true_iff.mp h⟩
    · exact ⟨.blend, Bool.and_eq_true_iff.mp h⟩
  · rintro ⟨k, ha, hb⟩
    cases k <;> simp_all [Kinds.has]

/-- Two actions meet when they are two SWAPs that share a kind, or two GAINs (R41). -/
theorem actionsMeet_iff (x y : CueAction) :
    actionsMeet x y = true ↔
      (∃ (a b : Kinds) (m n : Nat), x = .swap a m ∧ y = .swap b n ∧ ∃ k : Kind, a.has k = true ∧ b.has k = true)
      ∨ ∃ (g h : Word16) (m n : Nat), x = .gain g m ∧ y = .gain h n := by
  cases x with
  | swap a m =>
    cases y with
    | swap b n => rw [actionsMeet, kindsMeet_iff]; simp
    | gain h n => simp [actionsMeet]
  | gain g m =>
    cases y with
    | swap b n => simp [actionsMeet]
    | gain h n => simp [actionsMeet]

/-- Two entries conflict exactly when they have one target, share an output, and their actions meet (R41). -/
theorem conflicts_iff (x y : Cue) :
    x.conflicts y = true ↔
      x.target = y.target ∧ (∃ o : Out, x.mask.get o = true ∧ y.mask.get o = true)
      ∧ ((∃ (a b : Kinds) (m n : Nat), x.action = .swap a m ∧ y.action = .swap b n
            ∧ ∃ k : Kind, a.has k = true ∧ b.has k = true)
        ∨ ∃ (g h : Word16) (m n : Nat), x.action = .gain g m ∧ y.action = .gain h n) := by
  rw [Cue.conflicts, Bool.and_eq_true, Bool.and_eq_true, beq_iff_eq, masksMeet_iff, actionsMeet_iff, and_assoc]

theorem atOrBefore_iff (a b : Period) : atOrBefore a b = true ↔ (b - a).toNat < 2 ^ 31 := by
  simp [atOrBefore]

/-- Settles O12: the owner's refusals in the order of R40, each followed to its answer; then the list, the actions, the
order of periods and the conflicts, each from its own rule. -/
theorem cueAddInsertsByTarget : Obligations.CueAddInsertsByTarget := by
  unfold Obligations.CueAddInsertsByTarget
  refine ⟨fun s t l p rest h hcode hl hm => ?_, insertCue_splits, cueActionOf_eq,
    fun a b => ⟨atOrBefore_iff a b, laterThan_iff a b⟩, conflicts_iff⟩
  cases hact : cueActionOf p with
  | none => exact exec_cueAdd_refused h hcode hl hm (by simp [cueAddOwner, hact])
  | some action =>
    have owner := cueAddOwner_dequeue (l := l) hact rest s t
    dsimp only
    split_ifs with hid hfull hdup hpast hconflict
    · exact exec_cueAdd_refused h hcode hl hm (owner.trans (if_pos hid))
    all_goals rw [if_neg hid] at owner
    · exact exec_cueAdd_refused h hcode hl hm (owner.trans (if_pos hfull))
    all_goals rw [if_neg hfull] at owner
    · exact exec_cueAdd_refused h hcode hl hm (owner.trans (if_pos hdup))
    all_goals rw [if_neg hdup] at owner
    · exact exec_cueAdd_refused h hcode hl hm (owner.trans (if_pos ((isPast_eq s _).trans hpast)))
    all_goals rw [if_neg fun past => hpast ((isPast_eq s _).symm.trans past)] at owner
    · exact exec_cueAdd_refused h hcode hl hm (owner.trans (if_pos hconflict))
    · exact exec_cueAdd_accepted h hcode hl hm (owner.trans (if_neg hconflict))

end Sys2Proof.Machine
end

section
/-!
PROOFS. The queues, the reserved places, the cue list and the outcome queue: the records that `QueuesOk` reads, and
what each operation of the part leaves of them.
-/
namespace Sys2Proof.Machine

open Sys2Proof

/-- What a link's value is after a write to a link's value. -/
theorem PerLink.get_set {α : Type} (p : PerLink α) (l m : Link) (x : α) :
    (p.set l x).get m = if m = l then x else p.get m := by
  split_ifs with h
  · rw [h, PerLink.get_set_same]
  · exact PerLink.get_set_other p x h

/-! ### The records that the invariant reads (R38, R49, R151, R159, R160) -/

/-- The queues and lists, and how many results of verifications each link awaits. -/
structure Queued where
  commands : PerLink (List Packet)
  results : PerLink (List Result)
  reserved : PerLink Nat
  awaited : PerLink Nat
  cues : List Cue
  outcomes : List CueRecord

def State.queued (s : State) : Queued where
  commands := s.engine.commands
  results := s.engine.results
  reserved := s.engine.reserved
  awaited := ⟨verifications .a s, verifications .b s⟩
  cues := s.cues
  outcomes := s.outcomes

/-- `QueuesOk` of these records, clause by clause. -/
structure Queued.Ok (q : Queued) : Prop where
  commandsFit : ∀ l : Link, (q.commands.get l).length ≤ commandPlaces
  resultsFit : ∀ l : Link, (q.results.get l).length + q.reserved.get l ≤ resultPlaces
  reservedExact : ∀ l : Link, q.reserved.get l = q.awaited.get l
  cuesFit : q.cues.length ≤ cuePlaces
  outcomesFit : q.outcomes.length ≤ outcomePlaces
  cuesOk : ∀ c ∈ q.cues, c.ok
  idsDistinct : (q.cues.map Cue.id).Nodup

theorem queued_awaited (s : State) (l : Link) : s.queued.awaited.get l = verifications l s := by
  cases l <;> rfl

theorem queuesOk_iff (s : State) : QueuesOk s ↔ s.queued.Ok := by
  constructor
  · rintro ⟨links, cuesFit, outcomesFit, cuesOk, idsDistinct⟩
    exact ⟨fun l => (links l).1, fun l => (links l).2.1, fun l => (queued_awaited s l).symm ▸ (links l).2.2, cuesFit,
      outcomesFit, cuesOk, idsDistinct⟩
  · intro h
    exact ⟨fun l => ⟨h.commandsFit l, h.resultsFit l, queued_awaited s l ▸ h.reservedExact l⟩, h.cuesFit, h.outcomesFit,
      h.cuesOk, h.idsDistinct⟩

/-- An operation that leaves these records keeps their invariant. -/
theorem QueuesOk.of_queued_eq {s s' : State} (hs : QueuesOk s) (h : s'.queued = s.queued) : QueuesOk s' := by
  rw [queuesOk_iff, h, ← queuesOk_iff]
  exact hs

/-! ### Verifications awaited (R160) -/

/-- What one bank counts among the verifications whose results the link awaits. -/
def Bank.awaits (l : Link) (b : Bank) : Nat := if b.verifyingBy l then 1 else 0

theorem BankPair.verifications_eq (l : Link) (p : BankPair) :
    p.verifications l = p.activeBank.awaits l + p.shadow.awaits l := by
  rcases p with ⟨b0, b1, a, pin⟩
  cases a
  · rfl
  · exact Nat.add_comm _ _

/-- A shadow written changes the count of its pair by what the two shadows count. -/
theorem BankPair.verifications_setShadow (l : Link) (p : BankPair) (b : Bank) :
    (p.setShadow b).verifications l + p.shadow.awaits l = p.verifications l + b.awaits l := by
  rw [BankPair.verifications_eq, BankPair.verifications_eq, BankPair.activeBank_setShadow, BankPair.shadow_setShadow]
  omega

/-- A pair written changes the count of its link by what the two pairs count. -/
theorem verifications_setPair (l : Link) (s : State) (o : Out) (k : Kind) (p : BankPair) :
    verifications l (s.setPair o k p) + (s.pair o k).verifications l = verifications l s + p.verifications l := by
  cases o <;> cases k <;>
    simp only [verifications, State.pair, State.setPair, PerOut.set2, PerOut.at2, PerOut.set, PerKind.set, PerOut.get,
      PerKind.get] <;> omega

/-- A shadow written changes the count of each link by what the two shadows count. -/
theorem verifications_setShadow (l : Link) (s : State) (o : Out) (k : Kind) (b : Bank) :
    verifications l (s.setPair o k ((s.pair o k).setShadow b)) + (s.pair o k).shadow.awaits l
      = verifications l s + b.awaits l := by
  have pair := BankPair.verifications_setShadow l (s.pair o k) b
  have link := verifications_setPair l s o k ((s.pair o k).setShadow b)
  omega

/-- Two states with the same counts for every pair have the same counts. -/
theorem verifications_congr {l : Link} {s s' : State}
    (h : ∀ (o : Out) (k : Kind), (s'.pair o k).verifications l = (s.pair o k).verifications l) :
    verifications l s' = verifications l s := by
  simp only [verifications, h]

/-- The records after a write of the pairs that leaves the counts of verifications. -/
theorem queued_of_pairs {s : State} {pairs : PerOut (PerKind BankPair)}
    (h : ∀ l : Link, verifications l { s with pairs := pairs } = verifications l s) :
    State.queued { s with pairs := pairs } = s.queued := by
  simp only [State.queued, h]

theorem queued_setPair {s : State} {o : Out} {k : Kind} {p : BankPair}
    (h : ∀ l : Link, p.verifications l = (s.pair o k).verifications l) : (s.setPair o k p).queued = s.queued :=
  queued_of_pairs fun l => by
    have := verifications_setPair l s o k p
    rw [h l] at this
    exact Nat.add_right_cancel this

theorem queued_setShadow {s : State} {o : Out} {k : Kind} {b : Bank}
    (h : ∀ l : Link, b.awaits l = (s.pair o k).shadow.awaits l) :
    (s.setPair o k ((s.pair o k).setShadow b)).queued = s.queued :=
  queued_setPair fun l => by
    have := BankPair.verifications_setShadow l (s.pair o k) b
    rw [h l] at this
    exact Nat.add_right_cancel this

/-! ### The operations of the state -/

@[simp] theorem queued_advance (s : State) (t : Nat) : (s.advance t).queued = s.queued := rfl
@[simp] theorem queued_setPort (s : State) (l : Link) (p : Port) : (s.setPort l p).queued = s.queued := rfl
@[simp] theorem queued_setLinkState (s : State) (l : Link) (x : LinkState) :
    (s.setLinkState l x).queued = s.queued := rfl
@[simp] theorem queued_setLinkStore (s : State) (l : Link) (x : LinkStore) :
    (s.setLinkStore l x).queued = s.queued := rfl
@[simp] theorem queued_setSlot (s : State) (i : SlotId) (x : Slot) : (s.setSlot i x).queued = s.queued := rfl
@[simp] theorem queued_setPartState (s : State) (p : PartState) : (s.setPartState p).queued = s.queued := rfl
@[simp] theorem queued_setDecoder (s : State) (d : ServiceDecoder) : (s.setDecoder d).queued = s.queued := rfl
@[simp] theorem queued_setService (s : State) (v : Override) : (s.setService v).queued = s.queued := rfl
@[simp] theorem queued_keepIdleTimer (s : State) : (keepIdleTimer s).queued = s.queued := rfl
@[simp] theorem queued_latchEdges (s s' : State) : (latchEdges s s').queued = s'.queued := rfl

@[simp] theorem queued_raise (s : State) (e : Event) : (s.raise e).queued = s.queued := by
  rw [raise_eq]; rfl

@[simp] theorem queued_raiseIf (s : State) (b : Bool) (e : Event) : (s.raiseIf b e).queued = s.queued := by
  rw [raiseIf_eq]; rfl

@[simp] theorem queued_setPin (o : Out) (k : Kind) (pin : Bool) (s : State) : (setPin o k pin s).queued = s.queued :=
  queued_setPair fun _ => rfl

@[simp] theorem queued_setFade (o : Out) (f : Option Fade) (s : State) : (setFade o f s).queued = s.queued := rfl

/-! ### The Frame Store and the Stream Link Ports -/

@[simp] theorem queued_dropFrame (l : Link) (cause : DropCause) (s : State) :
    (dropFrame l cause s).queued = s.queued := by
  simp [dropFrame]

@[simp] theorem queued_dropFilling (l : Link) (cause : DropCause) (s : State) :
    (dropFilling l cause s).queued = s.queued := by
  rw [dropFilling_eq]; rfl

@[simp] theorem queued_offerFrame (l : Link) (h : Header) (s : State) : (offerFrame l h s).queued = s.queued := by
  unfold offerFrame
  cases admissionFailure l h s with
  | some cause => exact queued_dropFrame l cause s
  | none => cases (s.store.get l).slots.find Slot.isFree <;> rfl

@[simp] theorem queued_completeFrame (l : Link) (i : SlotIndex) (f : Frame) (s : State) :
    (completeFrame l i f s).queued = s.queued := by
  unfold completeFrame
  cases s.dome with
  | none => simp
  | some d => dsimp only; split_ifs <;> simp

@[simp] theorem queued_storeLine (l : Link) (line : List Pixel) (s : State) :
    (storeLine l line s).queued = s.queued := by
  unfold storeLine
  cases fillingIndex s l with
  | none => rfl
  | some i =>
    dsimp only
    cases s.slot ⟨l, i⟩ with
    | free => rfl
    | complete f v => rfl
    | filling f => dsimp only; split_ifs <;> simp

@[simp] theorem queued_wakeOnLock (s : State) : (wakeOnLock s).queued = s.queued := by
  unfold wakeOnLock
  split <;> rfl

@[simp] theorem queued_wakeFromStandby (s : State) : (wakeFromStandby s).queued = s.queued := by
  unfold wakeFromStandby
  split <;> rfl

@[simp] theorem queued_enterOff (l : Link) (s : State) : (enterOff l s).queued = s.queued := rfl
@[simp] theorem queued_beginBody (l : Link) (h : Header) (parsed : Bool) (s : State) :
    (beginBody l h parsed s).queued = s.queued := rfl
@[simp] theorem queued_enterLocked (l : Link) (b : Bool) (s : State) : (enterLocked l b s).queued = s.queued := by
  simp [enterLocked]
@[simp] theorem queued_cutPacket (l : Link) (s : State) : (cutPacket l s).queued = s.queued := by simp [cutPacket]
@[simp] theorem queued_endFrame (l : Link) (s : State) : (endFrame l s).queued = s.queued := by simp [endFrame]
@[simp] theorem queued_enterHoldover (l : Link) (s : State) : (enterHoldover l s).queued = s.queued := by
  simp [enterHoldover]

@[simp] theorem queued_badHeader (l : Link) (s : State) : (badHeader l s).queued = s.queued := by
  unfold badHeader
  cases (s.ports.get l).state with
  | locked bad since => dsimp only; split_ifs <;> simp
  | off | seeking _ | aligned _ _ | holdover _ _ | quiet _ => simp

@[simp] theorem queued_lockAndOffer (l : Link) (b : Bool) (h : Header) (s : State) :
    (lockAndOffer l b h s).queued = s.queued := by
  simp [lockAndOffer]

@[simp] theorem queued_goodHeader (l : Link) (h : Header) (s : State) : (goodHeader l h s).queued = s.queued := by
  unfold goodHeader
  dsimp only
  cases (s.ports.get l).state with
  | aligned _ _ | locked _ _ | holdover _ _ => dsimp only; split_ifs <;> simp
  | off | seeking _ | quiet _ => simp

@[simp] theorem queued_loseSignal (e : Nat) (l : Link) (s : State) : (loseSignal e l s).queued = s.queued := by
  unfold loseSignal
  cases (s.ports.get l).state with
  | locked _ _ => dsimp only; split_ifs <;> simp
  | off | seeking _ | aligned _ _ | holdover _ _ | quiet _ => simp

/-- A load lost leaves no verification behind it and takes none away (R22). -/
theorem Bank.awaits_loseLoad (l m : Link) (b : Bank) : (b.loseLoad l).awaits m = b.awaits m := by
  cases b with
  | loading ld => unfold Bank.loseLoad; split_ifs <;> rfl
  | empty | verifying _ _ _ | ready _ => rfl

@[simp] theorem queued_loseLoads (l : Link) (s : State) : (loseLoads l s).queued = s.queued := by
  rw [loseLoads, queued_raiseIf]
  refine queued_of_pairs fun m => verifications_congr fun o k => ?_
  simp only [State.pair, PerOut.at2, PerOut.get_map, PerKind.get_map]
  exact congrArg₂ (· + ·) (Bank.awaits_loseLoad l m _) (Bank.awaits_loseLoad l m _)

@[simp] theorem queued_enterQuiet (l : Link) (s : State) : (enterQuiet l s).queued = s.queued := by
  simp [enterQuiet]

@[simp] theorem queued_enableReceiver (l : Link) (s : State) : (enableReceiver l s).queued = s.queued := by
  unfold enableReceiver
  split_ifs <;> rfl

/-! ### Part state, patterns and service control -/

@[simp] theorem queued_setStandbyDelay (delay : Nat) (s : State) : (setStandbyDelay delay s).queued = s.queued := rfl

@[simp] theorem queued_standbyEntry (kind : StandbyKind) (s : State) : (standbyEntry kind s).queued = s.queued := by
  rw [standbyEntry, blackenAll, freeStoreForStandby]
  exact (queued_dropFilling .b _ _).trans (queued_dropFilling .a _ _)

@[simp] theorem queued_startPattern (pat : Pattern) (o : Out) (s : State) :
    (startPattern pat o s).queued = s.queued := by
  unfold startPattern
  dsimp only
  split <;> rfl

@[simp] theorem queued_endPattern (o : Out) (s : State) : (endPattern o s).queued = s.queued := by
  unfold endPattern
  cases s.part.patterns.get o with
  | none => rfl
  | some p => dsimp only; split_ifs <;> rfl

/-- An operation on one output that leaves the records leaves them on the outputs of a mask. -/
theorem queued_forOutputs {f : Out → State → State} (hf : ∀ (o : Out) (s : State), (f o s).queued = s.queued)
    (m : Mask) (s : State) : (forOutputs m f s).queued = s.queued := by
  unfold forOutputs
  split_ifs <;> simp only [hf]

@[simp] theorem queued_decodeGroup (count : Nat) (s : State) : (decodeGroup count s).queued = s.queued := by
  unfold decodeGroup
  split
  · unfold overrideDark
    dsimp only
    split <;> rfl
  · simp [overrideGrid]
  · rfl
  · rfl

/-! ### The blocks at a period start -/

@[simp] theorem queued_controllerWork (o : Out) (s : State) : (controllerWork o s).queued = s.queued := by
  rw [controllerWork_eq]; rfl

@[simp] theorem queued_releaseWork (s : State) : (releaseWork s).queued = s.queued := by
  rw [releaseWork_eq]; rfl

@[simp] theorem queued_beginRasters (s : State) : (beginRasters s).queued = s.queued := rfl
@[simp] theorem queued_applyFormats (s : State) : (applyFormats s).queued = s.queued := rfl

end Sys2Proof.Machine
end

section
/-!
PROOFS. The queues at a period start: the Cue Scheduler's steps, the verifications, the return frames.
-/
namespace Sys2Proof.Machine

open Sys2Proof

/-! ### Swaps and fades leave the queues (R30, R33, R45) -/

/-- An exchange moves no bank. -/
theorem BankPair.verifications_exchange {p q : BankPair} (h : p.exchange = some q) (l : Link) :
    q.verifications l = p.verifications l := by
  obtain ⟨hactive, hshadow, -, -⟩ := BankPair.exchange_some h
  rw [BankPair.verifications_eq, BankPair.verifications_eq, hactive, hshadow, Nat.add_comm]

theorem queued_setPair_exchange {s : State} {o : Out} {k : Kind} {p : BankPair} (h : (s.pair o k).exchange = some p) :
    (s.setPair o k p).queued = s.queued :=
  queued_setPair (BankPair.verifications_exchange h)

@[simp] theorem queued_bookSwap (fade : Nat) (s : State) (ok : Out × Kind) : (bookSwap fade s ok).queued = s.queued :=
  queued_setPin _ _ _ _

@[simp] theorem queued_stepFade (o : Out) (s : State) : (stepFade o s).queued = s.queued := by
  unfold stepFade
  cases s.fades.get o with
  | none => rfl
  | some f => dsimp only; split_ifs <;> simp

@[simp] theorem queued_afterExchange (o : Out) (k : Kind) (fade : Nat) (s : State) :
    (afterExchange o k fade s).queued = s.queued := by
  cases k with
  | warp => exact queued_setPin _ _ _ _
  | blend => cases fade <;> exact queued_setPin _ _ _ _

@[simp] theorem queued_carryOutSwap (s : State) (ok : Out × Kind) : (carryOutSwap s ok).queued = s.queued := by
  unfold carryOutSwap
  cases s.pendingSwaps.at2 ok.1 ok.2 with
  | none => rfl
  | some fade =>
    dsimp only
    split
    · next pair hpair => exact (queued_afterExchange _ _ _ _).trans (queued_setPair_exchange hpair)
    · exact queued_setPin _ _ _ _

@[simp] theorem queued_endFade (o : Out) (k : Kind) (s : State) : (endFade o k s).queued = s.queued := by
  unfold endFade
  cases k with
  | warp => rfl
  | blend => cases s.fades.get o <;> simp

@[simp] theorem queued_fireSwapPart (fade : Nat) (acc : State × PerOut (PerKind Bool)) (ok : Out × Kind) :
    (fireSwapPart fade acc ok).1.queued = acc.1.queued := by
  unfold fireSwapPart
  dsimp only
  split
  · exact queued_endFade _ _ _
  · next pair hpair =>
    exact (queued_afterExchange _ _ _ _).trans ((queued_setPair_exchange hpair).trans (queued_endFade _ _ _))

/-- An operation that leaves what `view` reads leaves it when folded over a list. -/
theorem foldl_keeps {α β γ : Type} {view : α → γ} {f : α → β → α} (hf : ∀ x y, view (f x y) = view x) (ys : List β)
    (x : α) : view (ys.foldl f x) = view x := by
  induction ys generalizing x with
  | nil => rfl
  | cons y ys ih => exact (ih _).trans (hf x y)

@[simp] theorem queued_fireAction (c : Cue) (s : State) : (fireAction c s).1.queued = s.queued := by
  unfold fireAction
  cases c.action with
  | swap ks fade => exact foldl_keeps (view := fun acc => acc.1.queued) (queued_fireSwapPart fade) _ (s, noneApplied)
  | gain target ramp => rfl

/-! ### Outcomes and cues (R44, R49) -/

@[simp] theorem raiseIf_outcomes (s : State) (b : Bool) (e : Event) : (s.raiseIf b e).outcomes = s.outcomes := by
  rw [raiseIf_eq]

/-- The outcomes that an appended one leaves: with the queue full, the oldest is pushed out. -/
theorem appendOutcome_outcomes (r : CueRecord) (s : State) :
    (appendOutcome r s).outcomes =
      (if s.outcomes.length < 16 then s.outcomes else s.outcomes.drop 1) ++ [r] := by
  simp only [appendOutcome, raiseIf_outcomes, raise_outcomes, outcomePlaces, ← not_lt, ite_not]

/-- An appended outcome writes the outcome queue and the flags. -/
theorem appendOutcome_eq (r : CueRecord) (s : State) :
    appendOutcome r s = { s with
      outcomes := (appendOutcome r s).outcomes
      flagUnit := { s.flagUnit with flags := (appendOutcome r s).flagUnit.flags } } := by
  rw [appendOutcome, raiseIf_eq, raise_eq, raiseIf_eq]

@[simp] theorem appendOutcome_pairs (r : CueRecord) (s : State) : (appendOutcome r s).pairs = s.pairs := by
  rw [appendOutcome_eq]
@[simp] theorem appendOutcome_fades (r : CueRecord) (s : State) : (appendOutcome r s).fades = s.fades := by
  rw [appendOutcome_eq]
@[simp] theorem appendOutcome_ramps (r : CueRecord) (s : State) : (appendOutcome r s).ramps = s.ramps := by
  rw [appendOutcome_eq]
@[simp] theorem appendOutcome_cues (r : CueRecord) (s : State) : (appendOutcome r s).cues = s.cues := by
  rw [appendOutcome_eq]

theorem queued_appendOutcome (r : CueRecord) (s : State) :
    (appendOutcome r s).queued = { s.queued with outcomes := (appendOutcome r s).outcomes } := by
  rw [appendOutcome_eq]
  rfl

/-- The outcome queue keeps within its places. -/
theorem length_appendOutcome (r : CueRecord) {s : State} (h : s.outcomes.length ≤ outcomePlaces) :
    (appendOutcome r s).outcomes.length ≤ outcomePlaces := by
  rw [appendOutcome_outcomes, List.length_append, List.length_singleton]
  unfold outcomePlaces at h ⊢
  split_ifs with hfree
  · exact hfree
  · rw [List.length_drop]; omega

theorem queuesOk_fireCue (d : Period) {s : State} (c : Cue) (hs : QueuesOk s) : QueuesOk (fireCue d s c) := by
  rw [queuesOk_iff] at hs
  have hfit := length_appendOutcome
    ⟨c.id, c.target, d, c.origin, (fireAction c s).2, cueResult c d (fireAction c s).2⟩
    (s := (fireAction c s).1) ((congrArg (·.outcomes.length) (queued_fireAction c s)).trans_le hs.outcomesFit)
  rw [queuesOk_iff, fireCue, queued_appendOutcome, queued_fireAction]
  exact { hs with outcomesFit := hfit }

theorem queuesOk_fireCues (d : Period) {s : State} (hs : QueuesOk s) : QueuesOk (fireCues d s) := by
  have fold : ∀ (cues : List Cue) (t : State), QueuesOk t → QueuesOk (cues.foldl (fireCue d) t) := by
    intro cues
    induction cues with
    | nil => exact fun t ht => ht
    | cons c cues ih => exact fun t ht => ih _ (queuesOk_fireCue d c ht)
  refine fold _ _ ?_
  rw [queuesOk_iff] at hs ⊢
  exact { hs with
    cuesFit := (List.length_filter_le _ _).trans hs.cuesFit
    cuesOk := fun c hc => hs.cuesOk c (List.mem_of_mem_filter hc)
    idsDistinct := hs.idsDistinct.sublist (List.filter_sublist.map _) }

theorem queuesOk_schedulerWork {s : State} (hs : QueuesOk s) : QueuesOk (schedulerWork s) := by
  unfold schedulerWork
  cases s.dome with
  | none => exact hs
  | some d =>
    have hfades : (stepFade .out1 (stepFade .out0 s)).queued = s.queued := by simp
    have hswaps := foldl_keeps (view := State.queued) queued_carryOutSwap allPairs (stepFade .out1 (stepFade .out0 s))
    exact (queuesOk_fireCues d (hs.of_queued_eq (hswaps.trans hfades))).of_queued_eq rfl

/-! ### Verifications (R18, R160) -/

/-- A deferred result placed, with the verification that it answers gone, keeps the places of the loader link exact. -/
theorem queuesOk_placeDeferred {s : State} (hs : QueuesOk s) {o : Out} {k : Kind} {ld : Load} {tag : Word16} {n : Nat}
    (hv : (s.pair o k).shadow = .verifying ld tag n) {b : Bank} (hb : ∀ l : Link, b.awaits l = 0) (r : Result) :
    QueuesOk (placeDeferred ld.loader r (s.setPair o k ((s.pair o k).setShadow b))) := by
  rw [queuesOk_iff] at hs ⊢
  have count : ∀ l : Link, s.engine.reserved.get l
      = verifications l (s.setPair o k ((s.pair o k).setShadow b)) + if ld.loader = l then 1 else 0 := fun l => by
    have h := verifications_setShadow l s o k b
    rw [hv, hb l, ← queued_awaited s, ← hs.reservedExact l] at h
    change s.queued.reserved.get l = _
    simpa [Bank.awaits, Bank.verifyingBy] using h.symm
  refine { hs with resultsFit := fun l => ?_, reservedExact := fun l => ?_ }
  · have hfit := hs.resultsFit l
    have hl := count l
    simp only [State.queued, placeDeferred, State.setPair_engine, PerLink.get_set] at hfit hl ⊢
    split_ifs with h
    · subst h
      rw [if_pos rfl] at hl
      rw [List.length_append, List.length_singleton]
      omega
    · exact hfit
  · rw [queued_awaited]
    change (s.engine.reserved.set ld.loader (s.engine.reserved.get ld.loader - 1)).get l =
      verifications l (s.setPair o k ((s.pair o k).setShadow b))
    rw [PerLink.get_set]
    split_ifs with h
    · rw [h, count ld.loader, if_pos rfl, Nat.add_sub_cancel]
    · rw [count l, if_neg (Ne.symm h), Nat.add_zero]

theorem queuesOk_endVerification (o : Out) (k : Kind) {s : State} (hs : QueuesOk s) :
    QueuesOk (endVerification o k s) := by
  unfold endVerification
  cases hv : (s.pair o k).shadow with
  | verifying ld tag n =>
    dsimp only
    split_ifs
    · exact queuesOk_placeDeferred hs hv (fun _ => rfl) _
    · exact queuesOk_placeDeferred hs hv (fun _ => rfl) _
  | empty | loading _ | ready _ => exact hs

theorem queuesOk_verificationAtStart {s : State} (ok : Out × Kind) (hs : QueuesOk s) :
    QueuesOk (verificationAtStart s ok) := by
  unfold verificationAtStart
  cases hv : (s.pair ok.1 ok.2).shadow with
  | verifying ld tag n =>
    cases n with
    | zero => exact hs.of_queued_eq (queued_setShadow fun l => by rw [hv]; rfl)
    | succ n => exact queuesOk_endVerification ok.1 ok.2 hs
  | empty | loading _ | ready _ => exact hs

theorem queuesOk_verificationsAtStart {s : State} (hs : QueuesOk s) : QueuesOk (verificationsAtStart s) := by
  unfold verificationsAtStart
  generalize allPairs = pairs
  induction pairs generalizing s with
  | nil => exact hs
  | cons ok pairs ih => exact ih (queuesOk_verificationAtStart ok hs)

/-! ### The start as a whole (R60, R123) -/

theorem queuesOk_sendReturnFrames {s : State} (hs : QueuesOk s) : QueuesOk (sendReturnFrames s) := by
  rw [queuesOk_iff] at hs ⊢
  refine { hs with resultsFit := fun l => ?_ }
  refine le_trans (Nat.add_le_add_right ?_ _) (hs.resultsFit l)
  cases l <;> exact List.length_drop.trans_le (Nat.sub_le _ _)

theorem queuesOk_startWork {s : State} (hs : QueuesOk s) : QueuesOk (startWork s) :=
  (queuesOk_schedulerWork (queuesOk_verificationsAtStart hs)).of_queued_eq (by simp [startWork])

theorem queuesOk_periodStart (before : State) {s : State} (hs : QueuesOk s) : QueuesOk (periodStart before s) :=
  queuesOk_sendReturnFrames ((queuesOk_startWork hs).of_queued_eq (queued_latchEdges before _))

theorem queuesOk_makeStart {before s : State} (hb : QueuesOk before) (h : s.queued = before.queued) :
    QueuesOk (makeStart before s) := by
  unfold makeStart
  split_ifs
  · exact hb
  · exact queuesOk_periodStart before (hb.of_queued_eq h)

end Sys2Proof.Machine
end

section
/-!
PROOFS. Every command and event keeps the queues: what the owner of a command replies, its result placed, and the events
from outside, row by row.
-/
namespace Sys2Proof.Machine

open Sys2Proof

/-! ### Taking a command with a free result place (R153, R158, R160) -/

/-- The queues are in order and the link has a free result place: so the arbiter's link finds the part. -/
structure Served (l : Link) (s : State) : Prop where
  queuesOk : QueuesOk s
  place : (s.engine.results.get l).length + s.engine.reserved.get l < resultPlaces

theorem Served.of_queued_eq {l : Link} {s s' : State} (hs : Served l s) (h : s'.queued = s.queued) : Served l s' where
  queuesOk := hs.queuesOk.of_queued_eq h
  place := by
    have hresults : s'.engine.results = s.engine.results := congrArg Queued.results h
    have hreserved : s'.engine.reserved = s.engine.reserved := congrArg Queued.reserved h
    rw [hresults, hreserved]
    exact hs.place

/-- The packet leaves its queue; its link has a free place, or the arbiter would not have chosen it. -/
theorem served_dequeue {s : State} {l : Link} {p : Packet} {rest : List Packet} (hs : QueuesOk s)
    (h : nextPacket s = some (l, p, rest)) (t : Nat) : Served l (dequeue l rest (s.advance t)) := by
  obtain ⟨hq, hc, -⟩ := nextPacket_some h
  refine ⟨?_, ((mayServe_iff _ _).mp (choose_mayServe hc)).2⟩
  rw [queuesOk_iff] at hs ⊢
  refine { hs with commandsFit := fun m => ?_ }
  have hfit := hs.commandsFit m
  simp only [State.queued, dequeue_engine, State.advance_engine, PerLink.get_set] at hfit ⊢
  split_ifs with hm
  · subst hm
    rw [hq] at hfit
    exact Nat.le_of_succ_le hfit
  · exact hfit

theorem queuesOk_placeResult {l : Link} {s : State} (r : Result) (hs : Served l s) : QueuesOk (placeResult l r s) := by
  have hok := (queuesOk_iff s).mp hs.queuesOk
  rw [queuesOk_iff]
  refine { hok with resultsFit := fun m => ?_ }
  simp only [State.queued, placeResult_engine, PerLink.get_set]
  split_ifs with hm
  · subst hm
    have hplace := hs.place
    rw [List.length_append, List.length_singleton]
    omega
  · exact hok.resultsFit m

/-- The reply of an owner leaves the queues in order once it is settled. -/
def Reply.Keeps (l : Link) : Reply → Prop
  | .refuse _ _ => True
  | .accept s _ => Served l s
  | .defer s => QueuesOk (reservePlace l s)

theorem queuesOk_settle {l : Link} {p : Packet} {s : State} {r : Reply} (hs : Served l s) (hr : r.Keeps l) :
    QueuesOk (settle l p s r) := by
  cases r with
  | refuse st payload => exact queuesOk_placeResult _ hs
  | accept s' payload => exact queuesOk_placeResult _ hr
  | defer s' => exact hr

theorem generalChecks_keeps {l : Link} {ok channel : Bool} {p : Packet} {owner : Reply}
    (ho : (channel && p.noOutput) = false → owner.Keeps l) : (generalChecks ok channel p owner).Keeps l := by
  unfold generalChecks
  split_ifs with hlength hmask
  · trivial
  · trivial
  · exact ho (Bool.eq_false_iff.mpr hmask)

/-- A command keeps the queues if the reply of its owner does, in every state with a free place. -/
theorem queuesOk_takeOwned {names : Packet → Bool} {lengthOk : Nat → Bool} {channel : Bool}
    {owner : Link → Packet → State → Reply}
    (ho : ∀ (l : Link) (p : Packet) (s : State), (channel && p.noOutput) = false → Served l s → (owner l p s).Keeps l)
    {s : State} (hs : QueuesOk s) (t : Nat) : QueuesOk (takeOwned names lengthOk channel owner t s) := by
  unfold takeOwned takeCommand
  cases hnext : nextPacket s with
  | none => exact hs.of_queued_eq rfl
  | some next =>
    obtain ⟨l, p, rest⟩ := next
    dsimp only
    split_ifs
    · have served := served_dequeue hs hnext t
      exact (queuesOk_settle served (generalChecks_keeps fun hm => ho l p _ hm served)).of_queued_eq
        (queued_latchEdges _ _)
    · exact hs.of_queued_eq rfl

/-! ### Owners that leave the queues -/

/-- An acceptance of the reply leaves these records, and nothing is deferred. -/
def Reply.Leaves (q : Queued) : Reply → Prop
  | .refuse _ _ => True
  | .accept s _ => s.queued = q
  | .defer _ => False

theorem Reply.Leaves.keeps {l : Link} {s : State} {r : Reply} (h : r.Leaves s.queued) (hs : Served l s) :
    r.Keeps l := by
  cases r with
  | refuse st payload => trivial
  | accept s' payload => exact hs.of_queued_eq h
  | defer s' => exact h.elim

/-- A command whose owner leaves the records keeps the queues. -/
theorem queuesOk_takeOwned_of_leaves {names : Packet → Bool} {lengthOk : Nat → Bool} {channel : Bool}
    {owner : Link → Packet → State → Reply}
    (ho : ∀ (l : Link) (p : Packet) (s : State), (owner l p s).Leaves s.queued) {s : State} (hs : QueuesOk s)
    (t : Nat) : QueuesOk (takeOwned names lengthOk channel owner t s) :=
  queuesOk_takeOwned (fun l p s _ hserved => (ho l p s).keeps hserved) hs t

@[simp] theorem queued_stopMixing (o : Out) (k : Kind) (s : State) : (stopMixing o k s).queued = s.queued := by
  cases k <;> rfl

/-- A bank that is not in a load awaits nothing. -/
theorem Bank.awaits_of_not_inLoad {b : Bank} (h : ¬b.inLoad = true) (l : Link) : b.awaits l = 0 := by
  cases b with
  | empty | ready _ => rfl
  | loading _ | verifying _ _ _ => exact absurd rfl h

theorem tableOpenOwner_leaves (l : Link) (p : Packet) (s : State) : (tableOpenOwner l p s).Leaves s.queued := by
  unfold tableOpenOwner
  cases tableTarget p with
  | none => trivial
  | some ok =>
    obtain ⟨o, k⟩ := ok
    dsimp only
    split_ifs with hgrid hload hpin
    · trivial
    · trivial
    · trivial
    · exact (queued_stopMixing _ _ _).trans (queued_setShadow fun m => (Bank.awaits_of_not_inLoad hload m).symm)

theorem tableDataOwner_leaves (l : Link) (p : Packet) (s : State) : (tableDataOwner l p s).Leaves s.queued := by
  unfold tableDataOwner
  cases tableTarget p with
  | none => trivial
  | some ok =>
    obtain ⟨o, k⟩ := ok
    dsimp only
    cases hb : (s.pair o k).shadow with
    | loading ld =>
      dsimp only
      split_ifs
      · trivial
      · trivial
      · trivial
      · exact queued_setShadow fun m => by rw [hb]; rfl
    | empty | verifying _ _ _ | ready _ => trivial

theorem tableDiscardOwner_leaves (l : Link) (p : Packet) (s : State) : (tableDiscardOwner l p s).Leaves s.queued := by
  unfold tableDiscardOwner
  cases tableTarget p with
  | none => trivial
  | some ok =>
    obtain ⟨o, k⟩ := ok
    dsimp only
    cases hb : (s.pair o k).shadow with
    | loading ld =>
      dsimp only
      split_ifs
      · trivial
      · exact queued_setShadow fun m => by rw [hb]; rfl
    | ready w =>
      dsimp only
      split_ifs
      · trivial
      · exact (queued_stopMixing _ _ _).trans (queued_setShadow fun m => by rw [hb]; rfl)
    | empty => rfl
    | verifying _ _ _ => trivial

theorem swapOwner_leaves (l : Link) (p : Packet) (s : State) : (swapOwner l p s).Leaves s.queued := by
  unfold swapOwner
  cases kindsOf (p.u8 0) with
  | none => trivial
  | some ks =>
    dsimp only
    split_ifs
    · trivial
    · trivial
    · trivial
    · exact foldl_keeps (queued_bookSwap _) _ s

theorem gainOwner_leaves (l : Link) (p : Packet) (s : State) : (gainOwner l p s).Leaves s.queued := by
  unfold gainOwner
  dsimp only
  split_ifs
  · trivial
  · rfl

theorem routeOwner_leaves (l : Link) (p : Packet) (s : State) : (routeOwner l p s).Leaves s.queued := by
  unfold routeOwner
  cases routeOf p with
  | none => trivial
  | some r =>
    dsimp only
    split_ifs
    · trivial
    · trivial
    · rfl

theorem selectOwner_leaves (l : Link) (p : Packet) (s : State) : (selectOwner l p s).Leaves s.queued := by
  unfold selectOwner
  cases roleOf (p.u8 0) with
  | none => trivial
  | some role =>
    dsimp only
    split_ifs
    · trivial
    · trivial
    · trivial
    · rfl

theorem configLockOwner_leaves (l : Link) (p : Packet) (s : State) : (configLockOwner l p s).Leaves s.queued := by
  unfold configLockOwner
  cases lockOf (p.u8 0) with
  | none => trivial
  | some mode =>
    dsimp only
    split
    · split_ifs
      · trivial
      · rfl
    · rfl
    · rfl
    · trivial

theorem configUnlockOwner_leaves (l : Link) (p : Packet) (s : State) : (configUnlockOwner l p s).Leaves s.queued := by
  unfold configUnlockOwner
  split
  · trivial
  · rfl
  · rfl

theorem setOutputOwner_leaves (l : Link) (p : Packet) (s : State) : (setOutputOwner l p s).Leaves s.queued := by
  unfold setOutputOwner
  cases outputEncodingOf (p.u8 4) with
  | none => trivial
  | some encoding =>
    dsimp only
    split_ifs
    · trivial
    · trivial
    · trivial
    · rfl

theorem patternOwner_leaves (l : Link) (p : Packet) (s : State) : (patternOwner l p s).Leaves s.queued := by
  unfold patternOwner
  cases patternKindOf (p.u8 0) with
  | none => trivial
  | some kind =>
    dsimp only
    split_ifs
    · trivial
    · trivial
    · trivial
    · trivial
    · exact queued_forOutputs (queued_startPattern _) _ s

theorem standbyEnterOwner_leaves (l : Link) (p : Packet) (s : State) : (standbyEnterOwner l p s).Leaves s.queued := by
  unfold standbyEnterOwner
  split_ifs
  · trivial
  · split
    · rfl
    · rfl
    · exact queued_standbyEntry _ s
    · exact queued_standbyEntry _ s
    · rfl

theorem standbyExitOwner_leaves (l : Link) (p : Packet) (s : State) : (standbyExitOwner l p s).Leaves s.queued := by
  unfold standbyExitOwner
  split_ifs
  · trivial
  · exact queued_wakeFromStandby s

theorem standbyDelayOwner_leaves (l : Link) (p : Packet) (s : State) : (standbyDelayOwner l p s).Leaves s.queued := by
  unfold standbyDelayOwner
  dsimp only
  split_ifs
  · trivial
  · trivial
  · rfl

/-! ### Owners that write the queues -/

/-- TABLE_CLOSE begins a verification and reserves the place of its result (R17, R160). -/
theorem tableCloseOwner_keeps {l : Link} {p : Packet} {s : State} (hs : Served l s) :
    (tableCloseOwner l p s).Keeps l := by
  unfold tableCloseOwner
  cases tableTarget p with
  | none => trivial
  | some ok =>
    obtain ⟨o, k⟩ := ok
    dsimp only
    cases hb : (s.pair o k).shadow with
    | empty | verifying _ _ _ | ready _ => trivial
    | loading ld =>
      dsimp only
      split_ifs with hloader hlength
      · trivial
      · trivial
      have hok := (queuesOk_iff s).mp hs.queuesOk
      have count : ∀ m : Link,
          verifications m (s.setPair o k ((s.pair o k).setShadow (.verifying ld p.tag 0)))
            = s.engine.reserved.get m + if m = l then 1 else 0 := fun m => by
        have := verifications_setShadow m s o k (.verifying ld p.tag 0)
        rw [hb, ← queued_awaited s, ← hok.reservedExact m] at this
        change _ = s.queued.reserved.get m + _
        simpa [Bank.awaits, Bank.verifyingBy, not_ne_iff.mp hloader, eq_comm (a := m)] using this
      change QueuesOk (reservePlace l _)
      rw [queuesOk_iff]
      refine { hok with resultsFit := fun m => ?_, reservedExact := fun m => ?_ }
      · simp only [State.queued, reservePlace_engine, State.setPair_engine, PerLink.get_set]
        split_ifs with hm
        · subst hm
          exact hs.place
        · exact hok.resultsFit m
      · rw [queued_awaited]
        refine Eq.trans ?_ (count m).symm
        simp only [State.queued, reservePlace_engine, State.setPair_engine, PerLink.get_set]
        split_ifs with hm
        · rw [hm]
        · rfl

theorem kindsOf_some {b : Byte} {ks : Kinds} (h : kindsOf b = some ks) : (ks.warp || ks.blend) = true := by
  have names : ∀ b : Byte, ∀ ks ∈ kindsOf b, (ks.warp || ks.blend) = true := by decide +kernel
  exact names b ks h

/-- An entry with an id, an output and an action that CUE_ADD accepts is within the ranges of R38 (R39). -/
theorem cueOk_of_cueActionOf {p : Packet} {c : Cue} (h : cueActionOf p = some c.action) (hid : c.id ≠ 0)
    (hmask : (c.mask.out0 || c.mask.out1) = true) : c.ok := by
  refine ⟨hid, hmask, ?_⟩
  revert h
  generalize c.action = action
  intro h
  unfold cueActionOf at h
  dsimp only at h
  split at h
  · cases hks : kindsOf (p.u8 6) with
    | none => simp [hks] at h
    | some ks =>
      simp only [hks] at h
      split_ifs at h with hbad
      cases h
      have hfields : (p.u8 7).toNat ≤ 250 ∧ ((p.u8 7).toNat ≠ 0 → ks.warp = false) := by
        simpa [badSwapFields] using hbad
      exact ⟨kindsOf_some hks, hfields⟩
  · split_ifs at h with hramp
    cases h
    exact Nat.not_lt.mp hramp
  · cases h

theorem insertCue_perm (c : Cue) (cues : List Cue) : (insertCue c cues).Perm (c :: cues) := by
  obtain ⟨before, after, hsplit, hinsert, -, -⟩ := insertCue_splits c cues
  rw [hinsert, hsplit]
  exact List.perm_middle

theorem cueAddOwner_keeps {l : Link} {p : Packet} {s : State} (hm : p.noOutput = false) (hs : Served l s) :
    (cueAddOwner l p s).Keeps l := by
  unfold cueAddOwner
  cases hact : cueActionOf p with
  | none => trivial
  | some action =>
    dsimp only
    split_ifs with hid hfull hdup hpast hconflict
    · trivial
    · trivial
    · trivial
    · trivial
    · trivial
    refine ⟨?_, hs.place⟩
    have hok := (queuesOk_iff s).mp hs.queuesOk
    have hmask : (p.outputs.out0 || p.outputs.out1) = true := by
      unfold Packet.noOutput at hm
      revert hm
      cases p.outputs.out0 <;> cases p.outputs.out1 <;> decide
    have hnew : Cue.ok ⟨p.u8 0, p.u32 1, p.outputs, action, l⟩ :=
      cueOk_of_cueActionOf hact (fun h => hid (beq_iff_eq.mpr h)) hmask
    have perm := insertCue_perm ⟨p.u8 0, p.u32 1, p.outputs, action, l⟩ s.cues
    have hdistinct : p.u8 0 ∉ s.cues.map Cue.id := by simpa using hdup
    rw [queuesOk_iff]
    exact { hok with
      cuesFit := perm.length_eq.trans_le (Nat.not_le.mp hfull)
      cuesOk := fun c hc => (List.mem_cons.mp (perm.mem_iff.mp hc)).elim (fun h => h ▸ hnew) (hok.cuesOk c)
      idsDistinct := (perm.map Cue.id).nodup_iff.mpr (List.nodup_cons.mpr ⟨hdistinct, hok.idsDistinct⟩) }

theorem cueCancelOwner_keeps {l : Link} {p : Packet} {s : State} (hs : Served l s) :
    (cueCancelOwner l p s).Keeps l := by
  unfold cueCancelOwner
  split_ifs
  · refine ⟨?_, hs.place⟩
    have hok := (queuesOk_iff s).mp hs.queuesOk
    rw [queuesOk_iff]
    exact { hok with
      cuesFit := (List.length_filter_le _ _).trans hok.cuesFit
      cuesOk := fun c hc => hok.cuesOk c (List.mem_of_mem_filter hc)
      idsDistinct := hok.idsDistinct.sublist (List.filter_sublist.map _) }
  · trivial

theorem cueFlushOwner_keeps {l : Link} {p : Packet} {s : State} (hs : Served l s) : (cueFlushOwner l p s).Keeps l := by
  have hok := (queuesOk_iff s).mp hs.queuesOk
  refine ⟨(queuesOk_iff _).mpr ?_, hs.place⟩
  exact { hok with cuesFit := Nat.zero_le _, cuesOk := fun _ hc => (List.not_mem_nil hc).elim, idsDistinct := .nil }

theorem reportOwner_keeps {l : Link} {p : Packet} {s : State} (hs : Served l s) : (reportOwner l p s).Keeps l := by
  have hok := (queuesOk_iff s).mp hs.queuesOk
  refine ⟨(queuesOk_iff _).mpr ?_, hs.place⟩
  exact { hok with outcomesFit := List.length_drop.trans_le ((Nat.sub_le _ _).trans hok.outcomesFit) }

end Sys2Proof.Machine
end

section
/-!
PROOFS. The resets, the events of the links, the clock and the part, and the samplers keep the queues; so does every
step.
-/
namespace Sys2Proof.Machine

open Sys2Proof

/-! ### Resets empty the queues (R26, R162, R165) -/

/-- Empty queues and lists, with no verification awaited. -/
def Queued.empty : Queued := ⟨⟨[], []⟩, ⟨[], []⟩, ⟨0, 0⟩, ⟨0, 0⟩, [], []⟩

theorem Queued.empty_ok : Queued.empty.Ok where
  commandsFit l := by cases l <;> exact Nat.zero_le _
  resultsFit l := by cases l <;> exact Nat.zero_le _
  reservedExact _ := rfl
  cuesFit := Nat.zero_le _
  outcomesFit := Nat.zero_le _
  cuesOk _ hc := (List.not_mem_nil hc).elim
  idsDistinct := .nil

theorem queuesOk_of_empty {s : State} (h : s.queued = Queued.empty) : QueuesOk s :=
  (queuesOk_iff s).mpr (h ▸ Queued.empty_ok)

theorem Bank.awaits_cutOff (l : Link) (b : Bank) : b.cutOff.awaits l = 0 := by
  cases b <;> rfl

/-- No verification outlives a reset of the tables (R26). -/
theorem verifications_resetTables (l : Link) (s : State) : verifications l (resetTables s) = 0 := by
  have pair : ∀ (o : Out) (k : Kind), ((resetTables s).pair o k).verifications l = 0 := fun o k => by
    simp only [State.pair, resetTables, PerOut.at2, PerOut.get_map, PerKind.get_map]
    exact congrArg₂ (· + ·) (Bank.awaits_cutOff l _) (Bank.awaits_cutOff l _)
  simp only [verifications, pair]

theorem queued_powerOnReset (s : State) : (powerOnReset s).queued = Queued.empty := rfl

theorem queued_pinReset (s : State) : (pinReset s).queued = Queued.empty := by
  have none_awaited : (pinReset s).queued.awaited = ⟨0, 0⟩ :=
    congrArg₂ PerLink.mk (verifications_resetTables .a s) (verifications_resetTables .b s)
  calc (pinReset s).queued = { Queued.empty with awaited := (pinReset s).queued.awaited } := rfl
    _ = Queued.empty := by rw [none_awaited]; rfl

theorem queued_softResetPart (keep : Bool) (s : State) : (softResetPart keep s).queued = s.queued := by
  unfold softResetPart
  dsimp only
  split_ifs <;> simp [endPatternsAtSoftReset_eq] <;> rfl

theorem queued_softReset (keep : Bool) (s : State) : (softReset keep s).queued = Queued.empty := by
  have part := queued_softResetPart keep (softResetScheduler (resetTables s))
  calc (softReset keep s).queued
      = { (softResetPart keep (softResetScheduler (resetTables s))).queued with
          commands := ⟨[], []⟩, results := ⟨[], []⟩, reserved := ⟨0, 0⟩ } := rfl
    _ = { Queued.empty with awaited := ⟨verifications .a (resetTables s), verifications .b (resetTables s)⟩ } := by
        rw [part]; rfl
    _ = Queued.empty := by rw [verifications_resetTables, verifications_resetTables]; rfl

theorem softResetOwner_keeps (l : Link) (p : Packet) (s : State) : (softResetOwner l p s).Keeps l := by
  unfold softResetOwner
  cases keepSettingsOf (p.u8 0) with
  | none => trivial
  | some keep =>
    refine ⟨queuesOk_of_empty (queued_softReset keep s), ?_⟩
    cases l <;> exact Nat.zero_lt_succ _

/-! ### The events of the links -/

/-- What a command or event answers is a state with its queues in order. -/
def LeavesQueuesOk : Host.Outcome State Fault Refusal → Prop
  | .next s => QueuesOk s
  | .fault _ | .refused _ => True

theorem queuesOk_linkEvent {s0 s s' : State} (hs : QueuesOk s) (h : s'.queued = s.queued) :
    LeavesQueuesOk (linkEvent s0 s') :=
  hs.of_queued_eq h

/-- A packet handed over takes a free place of its queue, or is dropped (R151). -/
theorem queuesOk_handOver (l : Link) (p : Packet) {s : State} (hs : QueuesOk s) : QueuesOk (handOver l p s) := by
  unfold handOver
  dsimp only
  split_ifs with hfree
  · rw [queuesOk_iff] at hs ⊢
    refine { hs with commandsFit := fun m => ?_ }
    simp only [State.queued, PerLink.get_set]
    split_ifs with hm
    · rw [List.length_append, List.length_singleton]
      exact hfree
    · exact hs.commandsFit m
  · exact hs.of_queued_eq (queued_raise _ _)

theorem queuesOk_areaBytes (l : Link) (due : Nat) (b : FrameBody) (buf : List Byte) {s : State} (hs : QueuesOk s) :
    QueuesOk (areaBytes l due b buf s) := by
  induction due generalizing b buf s with
  | zero => exact hs
  | succ due ih =>
    unfold areaBytes
    dsimp only
    split_ifs
    · exact hs.of_queued_eq rfl
    · exact hs.of_queued_eq (queued_raise _ _)
    · exact hs.of_queued_eq rfl
    · exact ih _ _ (queuesOk_handOver _ _ (hs.of_queued_eq rfl))
    · exact ih _ _ (hs.of_queued_eq (queued_raise _ _))

theorem execManagementPacket_queuesOk (t : Nat) (l : Link) (bytes : List Byte) {s : State} (hs : QueuesOk s) :
    LeavesQueuesOk (execManagementPacket t l bytes s) := by
  have hs0 : QueuesOk (s.advance t) := hs.of_queued_eq rfl
  unfold execManagementPacket
  dsimp only
  split
  · split_ifs
    · exact queuesOk_areaBytes _ _ _ _ hs0
    · exact hs0
  all_goals exact hs0

theorem execPixelLine_queuesOk (t : Nat) (l : Link) (bytes : List Byte) {s : State} (hs : QueuesOk s) :
    LeavesQueuesOk (execPixelLine t l bytes s) := by
  have hs0 : QueuesOk (s.advance t) := hs.of_queued_eq rfl
  unfold execPixelLine
  dsimp only
  split
  · split_ifs
    · exact hs0.of_queued_eq (queued_storeLine _ _ _)
    · exact hs0
  all_goals exact hs0

theorem execSignalPresent_queuesOk (t : Nat) (l : Link) {s : State} (hs : QueuesOk s) :
    LeavesQueuesOk (execSignalPresent t l s) := by
  have hs0 : QueuesOk (s.advance t) := hs.of_queued_eq rfl
  unfold execSignalPresent
  dsimp only
  cases ((s.advance t).ports.get l).state with
  | off =>
    dsimp only
    split_ifs
    · exact hs0
    · exact hs0.of_queued_eq rfl
    · exact queuesOk_linkEvent hs0 rfl
  | seeking _ | aligned _ _ | locked _ _ | holdover _ _ | quiet _ =>
    dsimp only
    split_ifs
    · exact hs0
    · exact hs0.of_queued_eq rfl

theorem execSignalAbsent_queuesOk (t : Nat) (l : Link) {s : State} (hs : QueuesOk s) :
    LeavesQueuesOk (execSignalAbsent t l s) := by
  have hs0 : QueuesOk (s.advance t) := hs.of_queued_eq rfl
  unfold execSignalAbsent
  dsimp only
  split_ifs
  · exact hs0
  · exact hs0.of_queued_eq (queued_cutPacket _ _)
  · exact hs0.of_queued_eq (queued_cutPacket _ _)

theorem execSignalLost_queuesOk (l : Link) {s : State} (hs : QueuesOk s) : LeavesQueuesOk (execSignalLost l s) := by
  unfold execSignalLost
  cases (s.ports.get l).signalLoss with
  | none => exact hs
  | some e => exact queuesOk_linkEvent hs (queued_loseSignal _ _ _)

theorem execLinkAcquisitionTimeout_queuesOk (l : Link) {s : State} (hs : QueuesOk s) :
    LeavesQueuesOk (execLinkAcquisitionTimeout l s) := by
  unfold execLinkAcquisitionTimeout
  cases (s.ports.get l).state with
  | seeking _ | aligned _ _ => exact queuesOk_linkEvent hs (queued_enterQuiet _ _)
  | off | locked _ _ | holdover _ _ | quiet _ => exact hs

theorem execLossLimitExpiry_queuesOk (l : Link) {s : State} (hs : QueuesOk s) :
    LeavesQueuesOk (execLossLimitExpiry l s) := by
  unfold execLossLimitExpiry
  cases (s.ports.get l).state with
  | holdover _ _ => exact queuesOk_linkEvent hs (queued_enterQuiet _ _)
  | off | seeking _ | aligned _ _ | locked _ _ | quiet _ => exact hs

theorem execQuietTimerExpiry_queuesOk (l : Link) {s : State} (hs : QueuesOk s) :
    LeavesQueuesOk (execQuietTimerExpiry l s) := by
  unfold execQuietTimerExpiry
  cases (s.ports.get l).state with
  | quiet _ => dsimp only; split_ifs <;> exact queuesOk_linkEvent hs rfl
  | off | seeking _ | aligned _ _ | locked _ _ | holdover _ _ => exact hs

theorem execFrameHeader_queuesOk (t : Nat) (l : Link) (bytes : BitVec 96) {s : State} (hs : QueuesOk s) :
    LeavesQueuesOk (execFrameHeader t l bytes s) := by
  unfold execFrameHeader
  dsimp only
  split_ifs
  · cases headerOf bytes with
    | some h => exact queuesOk_linkEvent hs (queued_goodHeader _ _ _)
    | none => exact queuesOk_linkEvent hs (queued_badHeader _ _)
  · exact hs.of_queued_eq rfl

theorem execFrameDelimiter_queuesOk (t : Nat) (l : Link) {s : State} (hs : QueuesOk s) :
    LeavesQueuesOk (execFrameDelimiter t l s) := by
  have hs0 : QueuesOk (s.advance t) := hs.of_queued_eq rfl
  have hend := hs0.of_queued_eq (queued_endFrame l _)
  unfold execFrameDelimiter
  dsimp only
  split_ifs
  · cases ((s.advance t).ports.get l).frame with
    | awaitingHeader | headerLost => exact queuesOk_linkEvent hend (queued_badHeader _ _)
    | none | skipping | body _ => exact queuesOk_linkEvent hend rfl
  · exact hs0

/-! ### The events of the clock -/

theorem queuesOk_startAtWord (d n : Period) (period : Nat) {s : State} (hs : QueuesOk s) :
    QueuesOk (startAtWord d n period s) :=
  queuesOk_makeStart hs (queued_raiseIf _ _ _)

theorem queuesOk_acceptWord (n : Period) {s : State} (hs : QueuesOk s) : QueuesOk (acceptWord n s) := by
  unfold acceptWord
  cases s.clock.state with
  | unsynced => exact hs.of_queued_eq rfl
  | acquiring reference mark expires =>
    dsimp only
    split_ifs
    · exact queuesOk_makeStart hs rfl
    · exact hs.of_queued_eq rfl
  | tracking d opens closes =>
    dsimp only
    split_ifs
    · exact queuesOk_startAtWord _ _ _ hs
    · exact hs
  | freerun d => exact queuesOk_startAtWord _ _ _ hs

theorem execSyncWord_queuesOk (t : Nat) (cells : BitVec 48) {s : State} (hs : QueuesOk s) :
    LeavesQueuesOk (execSyncWord t cells s) := by
  have hs0 : QueuesOk (decoderAtMark (s.advance t)) := hs.of_queued_eq rfl
  unfold execSyncWord
  dsimp only
  split_ifs
  · exact queuesOk_acceptWord _ hs0
  · exact hs0
  · exact hs.of_queued_eq rfl

theorem execGeneratorStart_queuesOk {s : State} (hs : QueuesOk s) : LeavesQueuesOk (execGeneratorStart s) := by
  unfold execGeneratorStart
  cases generatorDue s.clock with
  | none => exact hs
  | some e =>
    have hs0 : QueuesOk (s.advance e) := hs.of_queued_eq rfl
    change QueuesOk (generatorStart (s.advance e))
    unfold generatorStart
    cases (s.advance e).clock.state with
    | freerun d | unsynced | acquiring _ _ _ => exact queuesOk_makeStart hs0 rfl
    | tracking _ _ _ => exact hs0

theorem execTrackingWindowClose_queuesOk {s : State} (hs : QueuesOk s) :
    LeavesQueuesOk (execTrackingWindowClose s) := by
  unfold execTrackingWindowClose
  cases s.clock.state with
  | tracking d opens closes => exact queuesOk_makeStart (hs.of_queued_eq (queued_advance s closes)) rfl
  | unsynced | acquiring _ _ _ | freerun _ => exact hs

theorem execSyncAcquisitionTimeout_queuesOk {s : State} (hs : QueuesOk s) :
    LeavesQueuesOk (execSyncAcquisitionTimeout s) := by
  unfold execSyncAcquisitionTimeout
  cases s.clock.state with
  | acquiring _ _ _ => exact hs.of_queued_eq rfl
  | unsynced | tracking _ _ _ | freerun _ => exact hs

/-! ### The events of the outputs and the part -/

theorem execDouserTimerExpiry_queuesOk (o : Out) {s : State} (hs : QueuesOk s) :
    LeavesQueuesOk (execDouserTimerExpiry o s) := by
  unfold execDouserTimerExpiry
  dsimp only
  cases (s.controllers.get o).douserTimer with
  | none => exact hs
  | some e => exact hs.of_queued_eq rfl

theorem execOpenTimerExpiry_queuesOk (o : Out) {s : State} (hs : QueuesOk s) :
    LeavesQueuesOk (execOpenTimerExpiry o s) := by
  unfold execOpenTimerExpiry
  dsimp only
  cases (s.controllers.get o).openTimer with
  | running e => exact hs.of_queued_eq rfl
  | stopped | expired => exact hs

theorem execIdleTimerExpiry_queuesOk {s : State} (hs : QueuesOk s) : LeavesQueuesOk (execIdleTimerExpiry s) := by
  unfold execIdleTimerExpiry
  cases s.part.idleTimer with
  | none => exact hs
  | some e => exact hs.of_queued_eq (by simp)

theorem execWakingTimerExpiry_queuesOk {s : State} (hs : QueuesOk s) : LeavesQueuesOk (execWakingTimerExpiry s) := by
  unfold execWakingTimerExpiry
  cases s.part.state with
  | waking e => exact hs.of_queued_eq rfl
  | initializing | ready | standby _ => exact hs

theorem execPatternExpiry_queuesOk (o : Out) {s : State} (hs : QueuesOk s) :
    LeavesQueuesOk (execPatternExpiry o s) := by
  unfold execPatternExpiry
  cases s.part.patterns.get o with
  | none => exact hs
  | some p => exact hs.of_queued_eq (by simp)

theorem execGroupTimerExpiry_queuesOk {s : State} (hs : QueuesOk s) : LeavesQueuesOk (execGroupTimerExpiry s) := by
  unfold execGroupTimerExpiry
  cases s.part.decoder.timer with
  | none => exact hs
  | some e => exact hs.of_queued_eq (by simp)

theorem execOverrideTimerExpiry_queuesOk {s : State} (hs : QueuesOk s) :
    LeavesQueuesOk (execOverrideTimerExpiry s) := by
  unfold execOverrideTimerExpiry
  cases s.part.service with
  | none => exact hs
  | dark e | grid e => exact hs.of_queued_eq rfl

theorem execServiceTakenFall_queuesOk (t : Nat) {s : State} (hs : QueuesOk s) :
    LeavesQueuesOk (execServiceTakenFall t s) := by
  unfold execServiceTakenFall
  split_ifs <;> exact hs.of_queued_eq rfl

theorem execServiceTakenRise_queuesOk (t : Nat) {s : State} (hs : QueuesOk s) :
    LeavesQueuesOk (execServiceTakenRise t s) := by
  unfold execServiceTakenRise
  split_ifs <;> exact hs.of_queued_eq rfl

theorem execResetRelease_queuesOk (t : Nat) {s : State} (hs : QueuesOk s) : LeavesQueuesOk (execResetRelease t s) := by
  unfold execResetRelease
  dsimp only
  split_ifs <;> exact hs.of_queued_eq rfl

theorem execInitialisationEnd_queuesOk (t : Nat) {s : State} (hs : QueuesOk s) :
    LeavesQueuesOk (execInitialisationEnd t s) := by
  unfold execInitialisationEnd
  dsimp only
  split_ifs
  · exact hs.of_queued_eq (by simp [endInitialisation])
  · exact hs.of_queued_eq rfl

theorem execSoftReset_queuesOk (t : Nat) {s : State} (hs : QueuesOk s) : LeavesQueuesOk (execSoftReset t s) := by
  unfold execSoftReset
  cases hnext : nextPacket s with
  | none => exact hs.of_queued_eq rfl
  | some next =>
    obtain ⟨l, p, rest⟩ := next
    dsimp only
    split_ifs
    · exact queuesOk_settle (served_dequeue hs hnext t) (generalChecks_keeps fun _ => softResetOwner_keeps l p _)
    · exact hs.of_queued_eq rfl

/-! ### Every step -/

theorem exec_queuesOk (c : Instr) {s : State} (hs : QueuesOk s) : LeavesQueuesOk (exec c s) := by
  cases c with
  | tableOpen t => exact queuesOk_takeOwned_of_leaves tableOpenOwner_leaves hs t
  | tableData t => exact queuesOk_takeOwned_of_leaves tableDataOwner_leaves hs t
  | tableClose t => exact queuesOk_takeOwned (fun _ _ _ _ => tableCloseOwner_keeps) hs t
  | tableDiscard t => exact queuesOk_takeOwned_of_leaves tableDiscardOwner_leaves hs t
  | swap t => exact queuesOk_takeOwned_of_leaves swapOwner_leaves hs t
  | gain t => exact queuesOk_takeOwned_of_leaves gainOwner_leaves hs t
  | cueAdd t => exact queuesOk_takeOwned (channel := true) (fun _ _ _ => cueAddOwner_keeps) hs t
  | cueCancel t => exact queuesOk_takeOwned (fun _ _ _ _ => cueCancelOwner_keeps) hs t
  | cueFlush t => exact queuesOk_takeOwned (fun _ _ _ _ => cueFlushOwner_keeps) hs t
  | report t => exact queuesOk_takeOwned (fun _ _ _ _ => reportOwner_keeps) hs t
  | route t => exact queuesOk_takeOwned_of_leaves routeOwner_leaves hs t
  | select t => exact queuesOk_takeOwned_of_leaves selectOwner_leaves hs t
  | configLock t => exact queuesOk_takeOwned_of_leaves configLockOwner_leaves hs t
  | configUnlock t => exact queuesOk_takeOwned_of_leaves configUnlockOwner_leaves hs t
  | setOutput t => exact queuesOk_takeOwned_of_leaves setOutputOwner_leaves hs t
  | flagsArm t => exact queuesOk_takeOwned_of_leaves (owner := flagsArmOwner) (fun _ _ _ => rfl) hs t
  | flagsClear t => exact queuesOk_takeOwned_of_leaves (owner := flagsClearOwner) (fun _ _ _ => rfl) hs t
  | status t => exact queuesOk_takeOwned_of_leaves (owner := statusOwner) (fun _ _ _ => rfl) hs t
  | pattern t => exact queuesOk_takeOwned_of_leaves patternOwner_leaves hs t
  | patternEnd t =>
    exact queuesOk_takeOwned_of_leaves (owner := patternEndOwner)
      (fun _ _ s => queued_forOutputs queued_endPattern _ s) hs t
  | standbyEnter t => exact queuesOk_takeOwned_of_leaves standbyEnterOwner_leaves hs t
  | standbyExit t => exact queuesOk_takeOwned_of_leaves standbyExitOwner_leaves hs t
  | standbyDelay t => exact queuesOk_takeOwned_of_leaves standbyDelayOwner_leaves hs t
  | softReset t => exact execSoftReset_queuesOk t hs
  | unknownCommand t => exact queuesOk_takeOwned_of_leaves (owner := unknownOwner) (fun _ _ _ => trivial) hs t
  | powerOnReset t => exact queuesOk_of_empty (queued_powerOnReset _)
  | resetPin t => exact queuesOk_of_empty (queued_pinReset _)
  | resetRelease t => exact execResetRelease_queuesOk t hs
  | initialisationEnd t => exact execInitialisationEnd_queuesOk t hs
  | syncWord t cells => exact execSyncWord_queuesOk t cells hs
  | generatorStart => exact execGeneratorStart_queuesOk hs
  | trackingWindowClose => exact execTrackingWindowClose_queuesOk hs
  | syncAcquisitionTimeout => exact execSyncAcquisitionTimeout_queuesOk hs
  | douserTimerExpiry o => exact execDouserTimerExpiry_queuesOk o hs
  | openTimerExpiry o => exact execOpenTimerExpiry_queuesOk o hs
  | signalPresent t l => exact execSignalPresent_queuesOk t l hs
  | signalAbsent t l => exact execSignalAbsent_queuesOk t l hs
  | signalLost l => exact execSignalLost_queuesOk l hs
  | frameDelimiter t l => exact execFrameDelimiter_queuesOk t l hs
  | frameHeader t l bytes => exact execFrameHeader_queuesOk t l bytes hs
  | pixelLine t l bytes => exact execPixelLine_queuesOk t l bytes hs
  | managementPacket t l bytes => exact execManagementPacket_queuesOk t l bytes hs
  | linkAcquisitionTimeout l => exact execLinkAcquisitionTimeout_queuesOk l hs
  | lossLimitExpiry l => exact execLossLimitExpiry_queuesOk l hs
  | quietTimerExpiry l => exact execQuietTimerExpiry_queuesOk l hs
  | verificationEnd t o k => exact queuesOk_endVerification o k (hs.of_queued_eq (queued_advance s t))
  | idleTimerExpiry => exact execIdleTimerExpiry_queuesOk hs
  | wakingTimerExpiry => exact execWakingTimerExpiry_queuesOk hs
  | patternExpiry o => exact execPatternExpiry_queuesOk o hs
  | groupTimerExpiry => exact execGroupTimerExpiry_queuesOk hs
  | overrideTimerExpiry => exact execOverrideTimerExpiry_queuesOk hs
  | serviceTakenFall t => exact execServiceTakenFall_queuesOk t hs
  | serviceTakenRise t => exact execServiceTakenRise_queuesOk t hs

@[simp] theorem queued_sampleSync (sample : Bool) (s : State) : (sampleSync sample s).queued = s.queued := by
  unfold sampleSync
  dsimp only
  split_ifs
  · split <;> rfl
  · rfl

@[simp] theorem queued_sampleService (sample : Bool) (s : State) : (sampleService sample s).queued = s.queued := by
  unfold sampleService
  dsimp only
  split_ifs
  · split <;> rfl
  · rfl

theorem queued_sampleTick (s : State) : (sampleTick s).queued = s.queued := by
  unfold sampleTick
  cases s.samples with
  | nil => rfl
  | cons x rest =>
    dsimp only
    cases x.line with
    | sync => exact queued_sampleSync _ _
    | service => exact queued_sampleService _ _

/-- Settles O56: the command at the front keeps the queues row by row, and a sample leaves them. -/
theorem stepKeepsQueues : Obligations.StepKeepsQueues := by
  unfold Obligations.StepKeepsQueues
  intro s s' hs h
  have leaves : LeavesQueuesOk (step s) := by
    unfold step
    cases s.pending with
    | nil => exact hs.of_queued_eq (queued_sampleTick s)
    | cons c rest => exact exec_queuesOk c (hs.of_queued_eq rfl)
  rw [h] at leaves
  exact leaves

end Sys2Proof.Machine
end

section
/-!
PROOFS. SWAP, GAIN, CUE_CANCEL, CUE_FLUSH and REPORT: what the owner of each replies to the state that the taking
leaves, and so the whole next state; the outcome queue and the bytes of a record.
-/
namespace Sys2Proof.Machine

open Sys2Proof

/-! ### Answers of a taken command (R156, R157) -/

section
variable {names : Packet → Bool} {lengthOk : Nat → Bool} {channel : Bool} {owner : Link → Packet → State → Reply}
  {t : Nat} {s : State} {l : Link} {p : Packet} {rest : List Packet}

/-- A packet that passes the checks and that its owner refuses is answered with that refusal. -/
theorem takeOwned_answered_of_refuse {st : Status} {payload : List Byte} (h : nextPacket s = some (l, p, rest))
    (hn : names p = true) (hl : lengthOk p.payload.length = true) (hm : (channel && p.noOutput) = false)
    (ho : owner l p (dequeue l rest (s.advance t)) = .refuse st payload) :
    takeOwned names lengthOk channel owner t s = answered s t l p rest st payload :=
  takeOwned_refused_answered h hn ((generalChecks_pass hl hm).trans ho)

/-- A packet that passes the checks and that its owner accepts, with the Cue Scheduler's records and the pairs alone
changed, is answered OK beside that change. -/
theorem takeOwned_answered_of_accept {s' : State} {payload : List Byte} (h : nextPacket s = some (l, p, rest))
    (hn : names p = true) (hl : lengthOk p.payload.length = true) (hm : (channel && p.noOutput) = false)
    (ho : owner l p (dequeue l rest (s.advance t)) = .accept s' payload)
    (hs : s' = schedulerPart (dequeue l rest (s.advance t)) s') :
    takeOwned names lengthOk channel owner t s = schedulerPart (answered s t l p rest .ok payload) s' := by
  have hlevels : levels s = levels s' := by rw [hs]; exact levels_congr rfl rfl rfl rfl rfl
  rw [takeOwned_accepted_of_levels_eq h hn hl hm ho hlevels, hs]
  rfl

end

/-! ### The pairs that a mask and kinds name (R29) -/

/-- Some named pair has the property. -/
theorem namedPairs_any (m : Mask) (ks : Kinds) (f : Out → Kind → Bool) :
    ((namedPairs m ks).any fun ok => f ok.1 ok.2) = somePair fun o k => namesPair m ks o k && f o k := by
  simp [namedPairs, allPairs, List.any_filter, somePair, namesPair, Bool.or_assoc]

/-- A fold over the named pairs meets the four pairs in their order, and acts where the pair is named. -/
theorem namedPairs_foldl {α : Type} (m : Mask) (ks : Kinds) (f : α → Out × Kind → α) (x : α) :
    (namedPairs m ks).foldl f x = allPairs.foldl (fun y ok => if namesPair m ks ok.1 ok.2 then f y ok else y) x :=
  List.foldl_filter

/-! ### SWAP (R29) -/

/-- One pair of a SWAP: a pending-swap record and its pin if the pair is named, and no change otherwise. -/
theorem bookSwap_where (named : Bool) (fade : Nat) (s : State) (o : Out) (k : Kind) :
    (if named then bookSwap fade s (o, k) else s) = { s with
      pairs := s.pairs.set2 o k (if named then { s.pair o k with pin := true } else s.pair o k)
      pendingSwaps := s.pendingSwaps.set2 o k
        (if named then some (if k = .blend then fade else 0) else s.pendingSwaps.at2 o k) } := by
  cases named <;> cases o <;> cases k <;> rfl

theorem bookSwap_namedPairs (m : Mask) (ks : Kinds) (fade : Nat) (s : State) :
    (namedPairs m ks).foldl (bookSwap fade) s = { s with
      pairs := forPairs fun o k => if namesPair m ks o k then { s.pair o k with pin := true } else s.pair o k
      pendingSwaps := forPairs fun o k =>
        if namesPair m ks o k then some (if k = .blend then fade else 0) else s.pendingSwaps.at2 o k } := by
  rw [namedPairs_foldl]
  simp only [allPairs, List.foldl_cons, List.foldl_nil, bookSwap_where]
  rfl

theorem swapInFlight_eq (s : State) (o : Out) (k : Kind) :
    swapInFlight s o k = ((s.pendingSwaps.at2 o k).isSome || fadeOn s o k) := by
  cases k <;> simp [swapInFlight, fadeOn]

theorem badSwapFields_iff (ks : Kinds) (fade : Nat) :
    badSwapFields (some ks) fade = true ↔ 250 < fade ∨ (fade ≠ 0 ∧ ks.warp = true) := by
  simp [badSwapFields]

/-- The owner's tests in their order, on the state that the taking of the packet leaves (R29). -/
theorem swapOwner_dequeue {p : Packet} {ks : Kinds} (hks : swapKindsOf (p.u8 0) = some ks) (l : Link)
    (rest : List Packet) (s : State) (t : Nat) :
    swapOwner l p (dequeue l rest (s.advance t)) =
      if 250 < (p.u8 1).toNat ∨ ((p.u8 1).toNat ≠ 0 ∧ ks.warp = true) then .refuse .badParam []
      else if somePair fun o k => namesPair p.outputs ks o k &&
          ((s.pendingSwaps.at2 o k).isSome || fadeOn s o k) then .refuse .busy []
      else if somePair fun o k => namesPair p.outputs ks o k && (s.pair o k).shadow.table.isNone then
        .refuse .notReady []
      else .accept ((namedPairs p.outputs ks).foldl (bookSwap (p.u8 1).toNat) (dequeue l rest (s.advance t))) [] := by
  simp only [swapOwner, kindsOf_eq, hks, badSwapFields_iff, ← swapInFlight_eq, ← namedPairs_any]
  rfl

/-- Settles O10: the owner's refusals in the order of R29, each followed to its answer, and the records and pins of an
accepted SWAP. -/
theorem swapBooksEveryNamedPair : Obligations.SwapBooksEveryNamedPair := by
  unfold Obligations.SwapBooksEveryNamedPair
  intro s t l p rest h hcode hlength hmask
  have hn : (p.code == 0x21#8) = true := beq_iff_eq.mpr hcode
  have hl : (p.payload.length == 2) = true := beq_iff_eq.mpr hlength
  refine congrArg Host.Outcome.next ?_
  cases hks : swapKindsOf (p.u8 0) with
  | none => exact takeOwned_answered_of_refuse h hn hl hmask (by simp [swapOwner, kindsOf_eq, hks])
  | some ks =>
    have owner := swapOwner_dequeue hks l rest s t
    dsimp only
    split_ifs with hbad hbusy hready
    · exact takeOwned_answered_of_refuse h hn hl hmask (owner.trans (if_pos hbad))
    all_goals rw [if_neg hbad] at owner
    · exact takeOwned_answered_of_refuse h hn hl hmask (owner.trans (if_pos hbusy))
    all_goals rw [if_neg hbusy] at owner
    · exact takeOwned_answered_of_refuse h hn hl hmask (owner.trans (if_pos hready))
    · rw [if_neg hready, bookSwap_namedPairs] at owner
      exact Eq.trans (takeOwned_answered_of_accept h hn hl hmask owner rfl) rfl

/-! ### GAIN (R35) -/

/-- The ramps of the outputs that a mask names begin anew from the gain in force; the others stay. -/
theorem mapWhere_begin (ramps : PerOut Ramp) (m : Mask) (target : Word16) (length : Nat) :
    ramps.mapWhere m (Ramp.begin target length) = forOuts fun o =>
      if m.get o then { ramps.get o with target := target, remaining := if length = 0 then 1 else length }
      else ramps.get o := by
  have count : max length 1 = if length = 0 then 1 else length := by split_ifs <;> omega
  simp only [PerOut.mapWhere, Ramp.begin, count]
  rfl

/-- Settles O11: the owner refuses a length above 1000 and otherwise begins the ramps. -/
theorem gainStartsARamp : Obligations.GainStartsARamp := by
  unfold Obligations.GainStartsARamp
  intro s t l p rest h hcode hlength hmask
  have hn : (p.code == 0x22#8) = true := beq_iff_eq.mpr hcode
  have hl : (p.payload.length == 4) = true := beq_iff_eq.mpr hlength
  have owner : gainOwner l p (dequeue l rest (s.advance t)) =
      if 1000 < (p.u16 2).toNat then .refuse .badParam []
      else .accept { dequeue l rest (s.advance t) with
        ramps := s.ramps.mapWhere p.outputs (Ramp.begin (p.u16 0) (p.u16 2).toNat) } [] := rfl
  refine congrArg Host.Outcome.next ?_
  by_cases hlong : 1000 < (p.u16 2).toNat
  · rw [if_pos hlong] at owner ⊢
    exact takeOwned_answered_of_refuse h hn hl hmask owner
  · rw [if_neg hlong, mapWhere_begin] at owner
    rw [if_neg hlong]
    exact Eq.trans (takeOwned_answered_of_accept h hn hl hmask owner rfl) rfl

/-! ### CUE_CANCEL and CUE_FLUSH (R42, R43) -/

/-- Settles O13: CUE_CANCEL looks for its id in the list; CUE_FLUSH accepts whatever the list holds. -/
theorem cueCancelAndFlushRemoveEntries : Obligations.CueCancelAndFlushRemoveEntries := by
  unfold Obligations.CueCancelAndFlushRemoveEntries
  intro s t l p rest h
  refine ⟨fun hcode hlength => congrArg Host.Outcome.next ?_, fun hcode hlength => congrArg Host.Outcome.next ?_⟩
  · have hn : (p.code == 0x24#8) = true := beq_iff_eq.mpr hcode
    have hl : (p.payload.length == 1) = true := beq_iff_eq.mpr hlength
    have owner : cueCancelOwner l p (dequeue l rest (s.advance t)) =
        if s.cues.any fun c => c.id == p.u8 0 then
          .accept { dequeue l rest (s.advance t) with cues := s.cues.filter fun c => c.id != p.u8 0 } []
        else .refuse .noCue [] := rfl
    split_ifs with hfound
    · exact takeOwned_answered_of_accept h hn hl rfl (owner.trans (if_pos hfound)) rfl
    · exact takeOwned_answered_of_refuse h hn hl rfl (owner.trans (if_neg hfound))
  · have hn : (p.code == 0x25#8) = true := beq_iff_eq.mpr hcode
    have hl : (p.payload.length == 0) = true := beq_iff_eq.mpr hlength
    have owner : cueFlushOwner l p (dequeue l rest (s.advance t)) =
        .accept { dequeue l rest (s.advance t) with cues := [] } [] := rfl
    exact takeOwned_answered_of_accept h hn hl rfl owner rfl

/-! ### REPORT (R50) -/

theorem exec_report {s : State} {t : Nat} {l : Link} {p : Packet} {rest : List Packet}
    (h : nextPacket s = some (l, p, rest)) (hcode : p.code = 0x26#8) (hlength : p.payload.length = 0) :
    exec (.report t) s = .next
      { answered s t l p rest .ok
          (BitVec.ofNat 8 (min 8 s.outcomes.length) :: (s.outcomes.take 8).flatMap CueRecord.bytes) with
        outcomes := s.outcomes.drop 8 } := by
  have hn : (p.code == 0x26#8) = true := beq_iff_eq.mpr hcode
  have hl : (p.payload.length == 0) = true := beq_iff_eq.mpr hlength
  have owner : reportOwner l p (dequeue l rest (s.advance t)) =
      .accept { dequeue l rest (s.advance t) with outcomes := s.outcomes.drop 8 }
        (BitVec.ofNat 8 (s.outcomes.take 8).length :: (s.outcomes.take 8).flatMap CueRecord.bytes) := rfl
  rw [List.length_take] at owner
  exact congrArg Host.Outcome.next (takeOwned_answered_of_accept h hn hl rfl owner rfl)

/-! ### The flags that an event sets (R168, R170) -/

/-- The flags after an event, one by one: its own is set by its rising enable, the others stay. -/
theorem raise_flag (s : State) (e : Event) {n : Nat} (h : n < 24) :
    (s.raise e).flagUnit.flags.getLsbD n =
      (s.flagUnit.flags.getLsbD n || (s.flagUnit.rising.getLsbD n && n == e.number)) := by
  have hbit : (1#24 <<< e.number).getLsbD n = (n == e.number) := by
    rw [← BitVec.twoPow_eq, BitVec.getLsbD_twoPow]
    by_cases hn : e.number = n
    · simp [hn, h]
    · simp [hn, Ne.symm hn]
  by_cases hn : n = e.number
  · subst hn
    cases he : s.flagUnit.rising.getLsbD e.number with
    | true => simp [raise_enabled he, hbit]
    | false => simp [raise_disabled he]
  · rw [beq_eq_false_iff_ne.mpr hn] at hbit ⊢
    cases he : s.flagUnit.rising.getLsbD e.number with
    | true => simp [raise_enabled he, hbit]
    | false => simp [raise_disabled he]

theorem raiseIf_flag (s : State) (b : Bool) (e : Event) {n : Nat} (h : n < 24) :
    (s.raiseIf b e).flagUnit.flags.getLsbD n =
      (s.flagUnit.flags.getLsbD n || (s.flagUnit.rising.getLsbD n && (n == e.number && b))) := by
  cases b
  · simp [State.raiseIf]
  · simpa [State.raiseIf] using raise_flag s e h

@[simp] theorem raise_rising (s : State) (e : Event) : (s.raise e).flagUnit.rising = s.flagUnit.rising := by
  rw [raise_eq]
@[simp] theorem raise_falling (s : State) (e : Event) : (s.raise e).flagUnit.falling = s.flagUnit.falling := by
  rw [raise_eq]
@[simp] theorem raiseIf_rising (s : State) (b : Bool) (e : Event) :
    (s.raiseIf b e).flagUnit.rising = s.flagUnit.rising := by
  rw [raiseIf_eq]

/-! ### The outcome queue (R49) -/

/-- CUE_OUTCOME is raised, CUE_FAULT unless the result is DONE, and REPORT_LOST where the queue was full. -/
theorem appendOutcome_flag (r : CueRecord) (s : State) {n : Nat} (h : n < 24) :
    (appendOutcome r s).flagUnit.flags.getLsbD n =
      (s.flagUnit.flags.getLsbD n || (s.flagUnit.rising.getLsbD n &&
        (n == 19 || (n == 20 && r.result != .done) || (n == 21 && decide (outcomePlaces ≤ s.outcomes.length))))) := by
  rw [appendOutcome, raiseIf_flag _ _ _ h, raise_flag _ _ h, raiseIf_flag _ _ _ h, raise_rising, raiseIf_rising]
  simp only [Event.number]
  cases s.flagUnit.rising.getLsbD n
  · simp
  · simp only [Bool.true_and]
    ac_rfl

theorem appendOutcome_spec (r : CueRecord) {s : State} (h : s.outcomes.length ≤ 16) :
    let s' := appendOutcome r s
    s'.outcomes = (if s.outcomes.length < 16 then s.outcomes else s.outcomes.drop 1) ++ [r]
    ∧ s'.outcomes.length ≤ 16
    ∧ s' = { s with outcomes := s'.outcomes, flagUnit := { s.flagUnit with flags := s'.flagUnit.flags } }
    ∧ ∀ n : Nat, n < 24 → s'.flagUnit.flags.getLsbD n =
        (s.flagUnit.flags.getLsbD n || (s.flagUnit.rising.getLsbD n &&
          (n == 19 || (n == 20 && r.result != .done) || (n == 21 && decide (s.outcomes.length = 16))))) := by
  refine ⟨appendOutcome_outcomes r s, length_appendOutcome r h, appendOutcome_eq r s, fun n hn => ?_⟩
  have hfull : outcomePlaces ≤ s.outcomes.length ↔ s.outcomes.length = 16 := by unfold outcomePlaces; omega
  rw [appendOutcome_flag r s hn, decide_eq_decide.mpr hfull]

/-! ### The bytes of a record (R196) -/

theorem appliedByte_eq (m : PerOut (PerKind Bool)) :
    appliedByte m = BitVec.ofNat 8 ((if m.out0.warp then 2 ^ 0 else 0) + (if m.out0.blend then 2 ^ 1 else 0)
      + (if m.out1.warp then 2 ^ 2 else 0) + (if m.out1.blend then 2 ^ 3 else 0)) := by
  obtain ⟨⟨w0, b0⟩, ⟨w1, b1⟩⟩ := m
  revert w0 b0 w1 b1
  decide

theorem cueRecord_bytes_eq (r : CueRecord) :
    r.bytes = [r.id] ++ (beBytes 4 r.target.toNat ++ (beBytes 4 r.fired.toNat ++
      ([linkCode r.origin] ++ ([appliedByte r.applied] ++ [r.result.code])))) := by
  simp [CueRecord.bytes]

theorem cueRecord_fields (r : CueRecord) :
    r.bytes.length = 12
    ∧ fieldAt r.bytes 0 [r.id] ∧ fieldAt r.bytes 1 (beBytes 4 r.target.toNat)
    ∧ fieldAt r.bytes 5 (beBytes 4 r.fired.toNat) ∧ fieldAt r.bytes 9 [linkCode r.origin]
    ∧ fieldAt r.bytes 10 [appliedByte r.applied] ∧ fieldAt r.bytes 11 [r.result.code] := by
  refine ⟨?_, ?_, ?_, ?_, ?_, ?_, ?_⟩ <;> simp [cueRecord_bytes_eq, fieldAt, beBytes]

/-- Settles O14: REPORT, an appended outcome and the bytes of a record, each from its own rule. -/
theorem outcomesAreKeptAndReported : Obligations.OutcomesAreKeptAndReported := by
  unfold Obligations.OutcomesAreKeptAndReported
  refine ⟨fun s t l p rest h hcode hlength => exec_report h hcode hlength, fun r s h => appendOutcome_spec r h,
    fun r => ?_⟩
  obtain ⟨hlength, hid, htarget, hfired, horigin, happlied, hresult⟩ := cueRecord_fields r
  rw [appliedByte_eq] at happlied
  refine ⟨hlength, hid, htarget, hfired, ?_, happlied, ?_⟩
  · cases ho : r.origin <;> (rw [ho] at horigin; exact horigin)
  · cases hr : r.result <;> (rw [hr] at hresult; exact hresult)

end Sys2Proof.Machine
end

section
/-!
PROOFS. What a period start may write, which flags it may set, and what its verifications leave of the banks.
-/
namespace Sys2Proof.Machine

open Sys2Proof

/-! ### The records that a start may write (R60) -/

/-- What the controllers, the release, the formats and the rasters may write at a start. -/
def outputsPart (s t : State) : State :=
  { s with controllers := t.controllers, store := t.store, pipelines := t.pipelines, flagUnit := t.flagUnit }

theorem outputsPart_trans {s t u : State} (h : t = outputsPart s t) (h' : u = outputsPart t u) :
    u = outputsPart s u := by
  rw [h', h]; rfl

theorem controllerWork_part (o : Out) (s : State) : controllerWork o s = outputsPart s (controllerWork o s) := by
  rw [controllerWork_eq]; rfl

theorem releaseWork_part (s : State) : releaseWork s = outputsPart s (releaseWork s) := by
  rw [releaseWork_eq]; rfl

theorem beginRasters_part (s : State) :
    beginRasters (applyFormats s) = outputsPart s (beginRasters (applyFormats s)) := rfl

/-- After the Cue Scheduler a start writes the controllers, the store, the pipelines and the flags. -/
theorem startWork_part (s : State) :
    startWork s = outputsPart (schedulerWork (verificationsAtStart s)) (startWork s) := by
  have controllers := outputsPart_trans (controllerWork_part .out0 (schedulerWork (verificationsAtStart s)))
    (controllerWork_part .out1 _)
  exact outputsPart_trans (outputsPart_trans controllers (releaseWork_part _)) (beginRasters_part _)

/-- What a period start may write. -/
def startPart (s t : State) : State :=
  { s with
    pairs := t.pairs, cues := t.cues, outcomes := t.outcomes, pendingSwaps := t.pendingSwaps, fades := t.fades
    ramps := t.ramps, pipelines := t.pipelines, store := t.store, controllers := t.controllers, flagUnit := t.flagUnit
    ports := ⟨{ s.ports.a with sent := t.ports.a.sent }, { s.ports.b with sent := t.ports.b.sent }⟩
    engine := { s.engine with results := t.engine.results, reserved := t.engine.reserved } }

/-- The verifications, the scheduler's work and what follows it write no more than a start may. -/
theorem startPart_of_parts {s v w t : State} (hv : v = { s with
      pairs := v.pairs, engine := { s.engine with results := v.engine.results, reserved := v.engine.reserved } })
    (hw : w = schedulerPart v w) (ht : t = outputsPart w t) : t = startPart s t := by
  rw [ht, hw, hv]; rfl

theorem startPart_sendReturnFrames {before s t : State} (h : t = startPart s t) :
    sendReturnFrames (latchEdges before t) = startPart s (sendReturnFrames (latchEdges before t)) := by
  rw [h]; rfl

theorem periodStart_part (before s : State) : periodStart before s = startPart s (periodStart before s) :=
  startPart_sendReturnFrames
    (startPart_of_parts (verificationsAtStart_eq s) (schedulerWork_part _) (startWork_part s))

/-- What a start leaves as it was. -/
theorem frame_of_startPart {s t : State} (h : t = startPart s t) :
    t.now = s.now ∧ t.clock = s.clock ∧ t.part = s.part ∧ t.samples = s.samples ∧ t.pending = s.pending
    ∧ t.engine.commands = s.engine.commands ∧ t.engine.arbiter = s.engine.arbiter ∧ t.engine.lock = s.engine.lock
    ∧ ∀ l : Link, t.ports.get l = { s.ports.get l with sent := (t.ports.get l).sent } := by
  rw [h]
  exact ⟨rfl, rfl, rfl, rfl, rfl, rfl, rfl, rfl, fun l => by cases l <;> rfl⟩

/-! ### The flags that a start may set before the edges (R168) -/

/-- The condition numbers of the events that the work of a start may raise: frames dropped, outcomes, STARVED. -/
def startEvents : List Nat := [17, 18, 19, 20, 21, 23]

/-- The enables stay, no flag is cleared, and the flags of other conditions than those of `startEvents` stay. -/
structure StartFlags (u v : FlagUnit) : Prop where
  rising : v.rising = u.rising
  falling : v.falling = u.falling
  kept : ∀ n : Nat, u.flags.getLsbD n = true → v.flags.getLsbD n = true
  others : ∀ n : Nat, n < 24 → n ∉ startEvents → v.flags.getLsbD n = u.flags.getLsbD n

theorem StartFlags.refl (u : FlagUnit) : StartFlags u u := ⟨rfl, rfl, fun _ h => h, fun _ _ _ => rfl⟩

theorem StartFlags.trans {u v w : FlagUnit} (h : StartFlags u v) (h' : StartFlags v w) : StartFlags u w where
  rising := h'.rising.trans h.rising
  falling := h'.falling.trans h.falling
  kept n hn := h'.kept n (h.kept n hn)
  others n hlt hn := (h'.others n hlt hn).trans (h.others n hlt hn)

theorem raise_startFlags (s : State) {e : Event} (he : e.number ∈ startEvents) :
    StartFlags s.flagUnit (s.raise e).flagUnit where
  rising := raise_rising s e
  falling := raise_falling s e
  kept n hn := by rw [raise_flag s e (BitVec.lt_of_getLsbD hn), hn, Bool.true_or]
  others n hlt hn := by
    rw [raise_flag s e hlt, beq_eq_false_iff_ne.mpr fun h => hn (by rwa [h]), Bool.and_false, Bool.or_false]

theorem raiseIf_startFlags (s : State) (b : Bool) {e : Event} (he : e.number ∈ startEvents) :
    StartFlags s.flagUnit (s.raiseIf b e).flagUnit := by
  cases b
  · exact .refl _
  · exact raise_startFlags s he

/-- What is folded over a list sets these flags alone if each of its steps does. -/
theorem foldl_startFlags {β : Type} {f : State → β → State} (hf : ∀ s y, StartFlags s.flagUnit (f s y).flagUnit)
    (ys : List β) (s : State) : StartFlags s.flagUnit (ys.foldl f s).flagUnit := by
  induction ys generalizing s with
  | nil => exact .refl _
  | cons y ys ih => exact (hf s y).trans (ih _)

theorem appendOutcome_startFlags (r : CueRecord) (s : State) : StartFlags s.flagUnit (appendOutcome r s).flagUnit where
  rising := by rw [appendOutcome_eq]
  falling := by rw [appendOutcome_eq]
  kept n hn := by rw [appendOutcome_flag r s (BitVec.lt_of_getLsbD hn), hn, Bool.true_or]
  others n hlt hn := by
    have other : n ≠ 19 ∧ n ≠ 20 ∧ n ≠ 21 := by
      refine ⟨?_, ?_, ?_⟩ <;> (rintro rfl; exact hn (by decide))
    rw [appendOutcome_flag r s hlt]
    simp [other]

/-! The steps of swaps and fades write no flag. -/

theorem stepFade_flagUnit (o : Out) (s : State) : (stepFade o s).flagUnit = s.flagUnit := by
  unfold stepFade
  cases s.fades.get o with
  | none => rfl
  | some f => dsimp only; split_ifs <;> rfl

theorem afterExchange_flagUnit (o : Out) (k : Kind) (fade : Nat) (s : State) :
    (afterExchange o k fade s).flagUnit = s.flagUnit := by
  cases k <;> cases fade <;> rfl

theorem carryOutSwap_flagUnit (s : State) (ok : Out × Kind) : (carryOutSwap s ok).flagUnit = s.flagUnit := by
  unfold carryOutSwap
  cases s.pendingSwaps.at2 ok.1 ok.2 with
  | none => rfl
  | some fade =>
    dsimp only
    split
    · exact afterExchange_flagUnit _ _ _ _
    · rfl

theorem endFade_flagUnit (o : Out) (k : Kind) (s : State) : (endFade o k s).flagUnit = s.flagUnit := by
  unfold endFade
  cases k with
  | warp => rfl
  | blend => cases s.fades.get o <;> rfl

theorem fireSwapPart_flagUnit (fade : Nat) (acc : State × PerOut (PerKind Bool)) (ok : Out × Kind) :
    (fireSwapPart fade acc ok).1.flagUnit = acc.1.flagUnit := by
  unfold fireSwapPart
  dsimp only
  split
  · exact endFade_flagUnit _ _ _
  · exact (afterExchange_flagUnit _ _ _ _).trans (endFade_flagUnit _ _ _)

theorem fireAction_flagUnit (c : Cue) (s : State) : (fireAction c s).1.flagUnit = s.flagUnit := by
  unfold fireAction
  cases c.action with
  | swap ks fade =>
    exact foldl_keeps (view := fun acc => acc.1.flagUnit) (fireSwapPart_flagUnit fade) _ (s, noneApplied)
  | gain target ramp => rfl

theorem fireCue_startFlags (d : Period) (s : State) (c : Cue) : StartFlags s.flagUnit (fireCue d s c).flagUnit := by
  rw [← fireAction_flagUnit c s]
  exact appendOutcome_startFlags _ _

theorem fireCues_startFlags (d : Period) (s : State) : StartFlags s.flagUnit (fireCues d s).flagUnit :=
  foldl_startFlags (fireCue_startFlags d) (s.cues.filter fun c => atOrBefore c.target d)
    { s with cues := s.cues.filter fun c => !atOrBefore c.target d }

theorem schedulerWork_startFlags (s : State) : StartFlags s.flagUnit (schedulerWork s).flagUnit := by
  have swaps := (foldl_keeps (view := State.flagUnit) carryOutSwap_flagUnit allPairs
    (stepFade .out1 (stepFade .out0 s))).trans ((stepFade_flagUnit _ _).trans (stepFade_flagUnit _ _))
  unfold schedulerWork
  cases s.dome with
  | none => exact .refl _
  | some d =>
    rw [← swaps]
    exact fireCues_startFlags d _

theorem controllerWork_startFlags (o : Out) (s : State) : StartFlags s.flagUnit (controllerWork o s).flagUnit := by
  unfold controllerWork
  dsimp only
  rw [moveViewer_eq]
  exact raiseIf_startFlags (s.setController o _) _ (by decide)

theorem dropFrame_startFlags (l : Link) (cause : DropCause) (s : State) :
    StartFlags s.flagUnit (dropFrame l cause s).flagUnit :=
  raise_startFlags (s.setLinkStore l _) (by cases l <;> decide)

theorem dropFilling_startFlags (l : Link) (cause : DropCause) (s : State) :
    StartFlags s.flagUnit (dropFilling l cause s).flagUnit := by
  unfold dropFilling
  cases fillingIndex s l with
  | none => exact .refl _
  | some i => exact dropFrame_startFlags l cause (s.setSlot ⟨l, i⟩ .free)

/-- The FILLING slot of a link is dropped with a cause, or left. -/
theorem testFilling_cases (l : Link) (s : State) :
    testFilling l s = s ∨ ∃ cause, testFilling l s = dropFilling l cause s := by
  unfold testFilling
  split
  · split
    · split_ifs
      · exact .inr ⟨_, rfl⟩
      · exact .inr ⟨_, rfl⟩
      · exact .inl rfl
    · exact .inl rfl
  · exact .inl rfl

theorem testFilling_startFlags (l : Link) (s : State) : StartFlags s.flagUnit (testFilling l s).flagUnit := by
  obtain h | ⟨cause, h⟩ := testFilling_cases l s <;> rw [h]
  · exact .refl _
  · exact dropFilling_startFlags l cause s

theorem releaseWork_startFlags (s : State) : StartFlags s.flagUnit (releaseWork s).flagUnit := by
  unfold releaseWork
  refine StartFlags.trans ?_ (testFilling_startFlags .b _)
  exact testFilling_startFlags .a
    { s with store := s.store.map fun st => { st with slots := st.slots.map (Slot.release s.dome) } }

theorem beginRasters_flagUnit (s : State) : (beginRasters (applyFormats s)).flagUnit = s.flagUnit := rfl

theorem startWork_startFlags (s : State) : StartFlags s.flagUnit (startWork s).flagUnit := by
  have verifications : (verificationsAtStart s).flagUnit = s.flagUnit := by rw [verificationsAtStart_eq]
  rw [startWork, beginRasters_flagUnit, ← verifications]
  exact (schedulerWork_startFlags _).trans <| (controllerWork_startFlags .out0 _).trans <|
    (controllerWork_startFlags .out1 _).trans (releaseWork_startFlags _)

/-! ### The edges of a start (R170, R175) -/

theorem levels_sendReturnFrames (before s : State) : levels (sendReturnFrames (latchEdges before s)) = levels s := rfl

theorem flags_sendReturnFrames (before s : State) :
    (sendReturnFrames (latchEdges before s)).flagUnit.flags
      = s.flagUnit.flags ||| edgeFlags s.flagUnit (levels before) (levels s) := rfl

theorem enables_sendReturnFrames (before s : State) :
    (sendReturnFrames (latchEdges before s)).flagUnit.rising = s.flagUnit.rising
    ∧ (sendReturnFrames (latchEdges before s)).flagUnit.falling = s.flagUnit.falling := ⟨rfl, rfl⟩

theorem periodStart_enables (before s : State) :
    (periodStart before s).flagUnit.rising = s.flagUnit.rising
    ∧ (periodStart before s).flagUnit.falling = s.flagUnit.falling := by
  have work := startWork_startFlags s
  rw [periodStart, ← work.rising, ← work.falling]
  exact enables_sendReturnFrames before _

/-- The flags that a start leaves: those of its work, and the edges of the levels, each by its enable. -/
theorem periodStart_flag (before s : State) {n : Nat} (h : n < 24) :
    (periodStart before s).flagUnit.flags.getLsbD n =
      ((startWork s).flagUnit.flags.getLsbD n || (decide (n < 12) &&
        ((!(levels before).getLsbD n && (levels (periodStart before s)).getLsbD n && s.flagUnit.rising.getLsbD n)
          || ((levels before).getLsbD n && !(levels (periodStart before s)).getLsbD n
            && s.flagUnit.falling.getLsbD n)))) := by
  have work := startWork_startFlags s
  rw [← work.rising, ← work.falling, periodStart, flags_sendReturnFrames, levels_sendReturnFrames, BitVec.getLsbD_or,
    edgeFlags_getLsbD _ _ _ n h]

/-! ### The lead histories (R96) -/

theorem leads_setSlot (s : State) (i : SlotId) (x : Slot) (l : Link) :
    ((s.setSlot i x).store.get l).leads = (s.store.get l).leads := by
  rw [State.setSlot_store, PerLink.get_set]
  split_ifs with h
  · rw [h]
  · rfl

theorem leads_moveViewer (o : Out) (old new : Option SlotId) (s : State) (l : Link) :
    ((moveViewer o old new s).store.get l).leads = (s.store.get l).leads := by
  unfold moveViewer
  split_ifs
  · rfl
  · cases old <;> cases new <;> simp only [leads_setSlot]

theorem leads_controllerWork (o : Out) (s : State) (l : Link) :
    ((controllerWork o s).store.get l).leads = (s.store.get l).leads := by
  unfold controllerWork
  dsimp only
  rw [leads_moveViewer, raiseIf_eq]
  rfl

theorem leads_dropFilling (m : Link) (cause : DropCause) (s : State) (l : Link) :
    ((dropFilling m cause s).store.get l).leads = (s.store.get l).leads := by
  unfold dropFilling
  cases fillingIndex s m with
  | none => rfl
  | some i =>
    dsimp only [dropFrame]
    rw [raise_store, State.setLinkStore_store, PerLink.get_set]
    split_ifs with h
    · rw [h]; exact leads_setSlot _ _ _ _
    · exact leads_setSlot _ _ _ _

theorem leads_testFilling (m : Link) (s : State) (l : Link) :
    ((testFilling m s).store.get l).leads = (s.store.get l).leads := by
  obtain h | ⟨cause, h⟩ := testFilling_cases m s <;> rw [h]
  exact leads_dropFilling m cause s l

theorem store_beginRasters (s : State) : (beginRasters (applyFormats s)).store = s.store := rfl

theorem leads_startWork (s : State) (l : Link) : ((startWork s).store.get l).leads = (s.store.get l).leads := by
  have scheduler : (schedulerWork (verificationsAtStart s)).store = s.store := by
    rw [schedulerWork_part, verificationsAtStart_eq]; rfl
  rw [startWork, store_beginRasters, releaseWork, leads_testFilling, leads_testFilling, PerLink.get_map,
    leads_controllerWork, leads_controllerWork, scheduler]

theorem store_sendReturnFrames (before s : State) : (sendReturnFrames (latchEdges before s)).store = s.store := rfl

theorem leads_periodStart (before s : State) (l : Link) :
    ((periodStart before s).store.get l).leads = (s.store.get l).leads := by
  rw [periodStart, store_sendReturnFrames, leads_startWork]

/-! ### The banks after the verifications (R18, R19) -/

/-- A pair after the verifications of a start: its shadow has met the start. -/
def BankPair.verified (p : BankPair) : BankPair := p.setShadow (verifiedBank p.shadow)

@[simp] theorem BankPair.verified_active (p : BankPair) : p.verified.active = p.active := BankPair.active_setShadow _ _
@[simp] theorem BankPair.verified_pin (p : BankPair) : p.verified.pin = p.pin := BankPair.pin_setShadow _ _
@[simp] theorem BankPair.verified_shadow (p : BankPair) : p.verified.shadow = verifiedBank p.shadow :=
  BankPair.shadow_setShadow _ _

theorem BankPair.setShadow_self (p : BankPair) : p.setShadow p.shadow = p := by
  rcases p with ⟨b0, b1, a, pin⟩
  cases a <;> rfl

theorem State.setPair_self (s : State) (o : Out) (k : Kind) : s.setPair o k (s.pair o k) = s := by
  cases o <;> cases k <;> rfl

/-- A verification ends by the CRC of its image, read as R18 has it. -/
theorem endVerification_pairs {o : Out} {k : Kind} {s : State} {ld : Load} {tag : Word16} {n : Nat}
    (h : (s.pair o k).shadow = .verifying ld tag n) :
    (endVerification o k s).pairs = s.pairs.set2 o k ((s.pair o k).setShadow
      (if imageCheck ld.bytes = ld.expected then .ready ⟨ld.grid, ld.label, imageCheck ld.bytes, ld.bytes⟩
        else .empty)) := by
  simp only [endVerification, h, crc32_eq]
  split_ifs <;> rfl

theorem verificationAtStart_pairs (s : State) (ok : Out × Kind) :
    (verificationAtStart s ok).pairs = s.pairs.set2 ok.1 ok.2 (s.pair ok.1 ok.2).verified := by
  have stays (h : verifiedBank (s.pair ok.1 ok.2).shadow = (s.pair ok.1 ok.2).shadow) :
      s.pairs = s.pairs.set2 ok.1 ok.2 (s.pair ok.1 ok.2).verified := by
    rw [BankPair.verified, h, BankPair.setShadow_self]
    exact (congrArg State.pairs (s.setPair_self ok.1 ok.2)).symm
  unfold verificationAtStart
  cases hb : (s.pair ok.1 ok.2).shadow with
  | verifying ld tag n =>
    cases n with
    | zero => rw [BankPair.verified, hb]; rfl
    | succ n => rw [BankPair.verified, hb]; exact endVerification_pairs hb
  | empty | loading _ | ready _ => exact stays (by rw [hb]; rfl)

theorem verificationsAtStart_pairs (s : State) :
    (verificationsAtStart s).pairs = forPairs fun o k => (s.pair o k).verified := by
  simp only [verificationsAtStart, allPairs, List.foldl_cons, List.foldl_nil, verificationAtStart_pairs, State.pair]
  rfl

theorem at2_forPairs {α : Type} (f : Out → Kind → α) (o : Out) (k : Kind) : (forPairs f).at2 o k = f o k := by
  cases o <;> cases k <;> rfl

theorem pair_of_forPairs {s : State} {f : Out → Kind → BankPair} (h : s.pairs = forPairs f) (o : Out) (k : Kind) :
    s.pair o k = f o k := by
  rw [State.pair, h, at2_forPairs]

/-! ### The frame of a start -/

theorem schedulerWork_of_no_dome {s : State} (h : s.dome = none) : schedulerWork s = s := by
  simp only [schedulerWork, h]

theorem verificationsAtStart_dome (s : State) : (verificationsAtStart s).dome = s.dome := by
  rw [verificationsAtStart_eq]; rfl

theorem sendReturnFrames_outputsPart (before w t : State) :
    let s' := sendReturnFrames (latchEdges before (outputsPart w t))
    s'.pairs = w.pairs ∧ s'.cues = w.cues ∧ s'.outcomes = w.outcomes ∧ s'.pendingSwaps = w.pendingSwaps
    ∧ s'.fades = w.fades ∧ s'.ramps = w.ramps := ⟨rfl, rfl, rfl, rfl, rfl, rfl⟩

/-- The Cue Scheduler's records and the pairs as a start leaves them are those of the scheduler's work. -/
theorem periodStart_scheduler (before s : State) :
    (periodStart before s).pairs = (schedulerWork (verificationsAtStart s)).pairs
    ∧ (periodStart before s).cues = (schedulerWork (verificationsAtStart s)).cues
    ∧ (periodStart before s).outcomes = (schedulerWork (verificationsAtStart s)).outcomes
    ∧ (periodStart before s).pendingSwaps = (schedulerWork (verificationsAtStart s)).pendingSwaps
    ∧ (periodStart before s).fades = (schedulerWork (verificationsAtStart s)).fades
    ∧ (periodStart before s).ramps = (schedulerWork (verificationsAtStart s)).ramps := by
  rw [periodStart, startWork_part]
  exact sendReturnFrames_outputsPart before _ _

/-- At a start that gives no D the Cue Scheduler takes no step; a verification that ends writes its bank alone. -/
theorem periodStart_of_no_dome (before : State) {s : State} (h : s.dome = none) :
    let s' := periodStart before s
    s'.cues = s.cues ∧ s'.outcomes = s.outcomes ∧ s'.pendingSwaps = s.pendingSwaps ∧ s'.fades = s.fades
    ∧ s'.ramps = s.ramps ∧ ∀ (o : Out) (k : Kind), (s'.pair o k).active = (s.pair o k).active
        ∧ (s'.pair o k).pin = (s.pair o k).pin := by
  obtain ⟨pairs, cues, outcomes, pendingSwaps, fades, ramps⟩ := periodStart_scheduler before s
  rw [schedulerWork_of_no_dome ((verificationsAtStart_dome s).trans h)] at pairs cues outcomes pendingSwaps fades ramps
  rw [verificationsAtStart_pairs] at pairs
  rw [verificationsAtStart_eq] at cues outcomes pendingSwaps fades ramps
  refine ⟨cues, outcomes, pendingSwaps, fades, ramps, fun o k => ?_⟩
  rw [pair_of_forPairs pairs]
  exact ⟨BankPair.verified_active _, BankPair.verified_pin _⟩

/-- Settles O33: what a start may write, the flags of its work and of the edges, and a start that gives no D. -/
theorem periodStartFrame : Obligations.PeriodStartFrame := by
  unfold Obligations.PeriodStartFrame
  intro before s
  have work := startWork_startFlags s
  obtain ⟨now, clock, part, samples, pending, commands, arbiter, lock, ports⟩ :=
    frame_of_startPart (periodStart_part before s)
  obtain ⟨rising, falling⟩ := periodStart_enables before s
  refine ⟨now, clock, part, samples, pending, commands, arbiter, lock, rising, falling,
    fun l => ⟨leads_periodStart before s l, ports l⟩, fun n hn => ?_, fun n hn => ?_, fun n hn => ?_,
    periodStart_of_no_dome before⟩
  · rw [periodStart_flag before s (BitVec.lt_of_getLsbD hn), work.kept n hn, Bool.true_or]
  · have other : n ∉ startEvents := by unfold startEvents; simp; omega
    rw [periodStart_flag before s (by omega), work.others n (by omega) other, decide_eq_true hn, Bool.true_and,
      Bool.or_assoc]
    congr 2 <;> ac_rfl
  · have range : n < 24 ∧ ¬n < 12 ∧ n ∉ startEvents := by revert n; decide
    obtain ⟨hlt, hlevel, other⟩ := range
    rw [periodStart_flag before s hlt, work.others n hlt other, decide_eq_false hlevel, Bool.false_and, Bool.or_false]

end Sys2Proof.Machine
end

section
/-!
PROOFS. Ramps, fades and pending swaps at a start that gives D: one equation for each operation on a pair, the steps of
all four pairs together, and the rounding of a ramp step.
-/
namespace Sys2Proof.Machine

open Sys2Proof

/-! ### Fades (R33) -/

/-- The fade of an output after its step: it ends behind its last one. -/
def fadeStepped : Option Fade → Option Fade
  | none => none
  | some f => if f.step < f.length then some { f with step := f.step + 1 } else none

/-- A pair after the step of its output's fade: where that fade ends, the pin of the BLEND pair is released. -/
def BankPair.fadeStep (k : Kind) (f : Option Fade) (p : BankPair) : BankPair :=
  match k with
  | .warp => p
  | .blend => { p with pin := p.pin && !(f.isSome && (fadeStepped f).isNone) }

theorem stepFade_eq (o : Out) (s : State) :
    stepFade o s = { s with
      fades := s.fades.set o (fadeStepped (s.fades.get o))
      pairs := s.pairs.set2 o .blend ((s.pair o .blend).fadeStep .blend (s.fades.get o)) } := by
  have stays (h : (s.pair o .blend).fadeStep .blend (s.fades.get o) = s.pair o .blend) :
      s.pairs.set2 o .blend ((s.pair o .blend).fadeStep .blend (s.fades.get o)) = s.pairs := by
    rw [h]
    exact congrArg State.pairs (s.setPair_self o .blend)
  unfold stepFade
  cases hf : s.fades.get o with
  | none =>
    rw [← hf, stays (by simp [BankPair.fadeStep, hf]), hf]
    cases o <;> simp only [PerOut.get] at hf <;> simp only [fadeStepped, PerOut.set, ← hf]
  | some f =>
    dsimp only
    split_ifs with hstep
    · rw [← hf, stays (by simp [BankPair.fadeStep, hf, fadeStepped, hstep]), hf, fadeStepped, if_pos hstep]
      rfl
    · simp only [setPin, setFade, State.setPair, BankPair.fadeStep, fadeStepped, if_neg hstep, Option.isSome_some,
        Option.isNone_none, Bool.and_self, Bool.not_true, Bool.and_false]
      rfl

/-! ### Pending swaps (R8, R30) -/

theorem BankPair.exchange_eq (p : BankPair) :
    p.exchange = if p.shadow.table.isSome then some { p with active := p.active.other } else none := by
  unfold BankPair.exchange
  cases p.shadow <;> rfl

/-- A pair after its pending swap, if it has one: exchanged if its shadow is READY, and pinned for a fade that
starts. -/
def BankPair.carried (k : Kind) (pending : Option Nat) (p : BankPair) : BankPair :=
  match pending with
  | none => p
  | some fade =>
    if p.shadow.table.isSome then { p with active := p.active.other, pin := k == .blend && fade != 0 }
    else { p with pin := false }

/-- The fade of an output after the pending swap of its BLEND pair. -/
def fadeCarried (pending : Option Nat) (p : BankPair) (f : Option Fade) : Option Fade :=
  match pending with
  | none => f
  | some fade => if p.shadow.table.isSome && fade != 0 then some ⟨fade, 1⟩ else f

/-- The fades after a pending swap on the pair: only a BLEND pair's swap starts one. -/
def fadesCarried (s : State) (o : Out) : Kind → PerOut (Option Fade)
  | .warp => s.fades
  | .blend => s.fades.set o (fadeCarried (s.pendingSwaps.at2 o .blend) (s.pair o .blend) (s.fades.get o))

theorem PerOut.set_self {α : Type} (p : PerOut α) (o : Out) : p.set o (p.get o) = p := by
  cases o <;> rfl

theorem PerOut.set2_self {α : Type} (p : PerOut (PerKind α)) (o : Out) (k : Kind) : p.set2 o k (p.at2 o k) = p := by
  cases o <;> cases k <;> rfl

/-- What follows an exchange writes the pair's pin and, for a BLEND pair with a fade length, the fade. -/
theorem afterExchange_eq (o : Out) (k : Kind) (fade : Nat) (s : State) :
    afterExchange o k fade s = { s with
      pairs := s.pairs.set2 o k { s.pair o k with pin := k == .blend && fade != 0 }
      fades := if k == .blend && fade != 0 then s.fades.set o (some ⟨fade, 1⟩) else s.fades } := by
  cases k with
  | warp => rfl
  | blend => cases fade <;> rfl

theorem carryOutSwap_eq (s : State) (o : Out) (k : Kind) :
    carryOutSwap s (o, k) = { s with
      pendingSwaps := s.pendingSwaps.set2 o k none
      pairs := s.pairs.set2 o k ((s.pair o k).carried k (s.pendingSwaps.at2 o k))
      fades := fadesCarried s o k } := by
  unfold carryOutSwap
  cases hp : s.pendingSwaps.at2 o k with
  | none =>
    have swaps : s.pendingSwaps.set2 o k none = s.pendingSwaps := by rw [← hp, PerOut.set2_self]
    have pairs : s.pairs.set2 o k ((s.pair o k).carried k none) = s.pairs := PerOut.set2_self _ _ _
    have fades : fadesCarried s o k = s.fades := by
      cases k with
      | warp => rfl
      | blend => rw [fadesCarried, hp]; exact PerOut.set_self _ _
    rw [swaps, pairs, fades]
  | some fade =>
    dsimp only
    split
    · next pair hpair =>
      rw [BankPair.exchange_eq] at hpair
      split_ifs at hpair with hready
      cases hpair
      have hready : (s.pair o k).shadow.table.isSome = true := hready
      rw [afterExchange_eq, BankPair.carried, if_pos hready]
      cases k with
      | warp => cases o <;> rfl
      | blend =>
        simp only [fadesCarried, fadeCarried, hp, hready]
        cases fade with
        | zero => cases o <;> rfl
        | succ n => cases o <;> rfl
    · next hpair =>
      rw [BankPair.exchange_eq] at hpair
      split_ifs at hpair with hready
      have hready : ¬(s.pair o k).shadow.table.isSome = true := hready
      have fades : fadesCarried s o k = s.fades := by
        cases k with
        | warp => rfl
        | blend =>
          simp only [fadesCarried, fadeCarried, hp, hready, Bool.false_and]
          exact PerOut.set_self _ _
      rw [BankPair.carried, if_neg hready, fades]
      rfl

/-! ### The steps of a start on all four pairs (R28) -/

/-- Every pair and every fade after the fades' step and the pending swaps. -/
theorem fadesAndSwaps_eq (s : State) :
    allPairs.foldl carryOutSwap (stepFade .out1 (stepFade .out0 s)) = { s with
      pairs := forPairs fun o k => ((s.pair o k).fadeStep k (s.fades.get o)).carried k (s.pendingSwaps.at2 o k)
      fades := forOuts fun o => fadeCarried (s.pendingSwaps.at2 o .blend)
        ((s.pair o .blend).fadeStep .blend (s.fades.get o)) (fadeStepped (s.fades.get o))
      pendingSwaps := forPairs fun _ _ => none } := by
  simp only [allPairs, List.foldl_cons, List.foldl_nil, stepFade_eq, carryOutSwap_eq]
  rfl

/-! ### Pairs that keep the bank invariant (R4, R7, R30) -/

theorem verifiedBank_of_not_inLoad {b : Bank} (h : b.inLoad = false) : verifiedBank b = b := by
  cases b with
  | empty | ready _ => rfl
  | loading _ | verifying _ _ _ => cases h

theorem verifiedBank_of_table {b : Bank} (h : b.table.isSome = true) : verifiedBank b = b := by
  cases b with
  | ready _ => rfl
  | empty | loading _ | verifying _ _ _ => cases h

/-- With the active bank out of a load, the verifications of a start are those of both banks. -/
theorem BankPair.verified_eq {p : BankPair} (h : p.activeBank.inLoad = false) :
    p.verified = { p with bank0 := verifiedBank p.bank0, bank1 := verifiedBank p.bank1 } := by
  have active := verifiedBank_of_not_inLoad h
  rcases p with ⟨b0, b1, a, pin⟩
  cases a
  · exact congrArg (BankPair.mk · _ _ _) active.symm
  · exact congrArg (BankPair.mk _ · _ _) active.symm

theorem BankPair.shadow_fadeStep (k : Kind) (f : Option Fade) (p : BankPair) : (p.fadeStep k f).shadow = p.shadow := by
  cases k <;> rfl

theorem fadeAtStart_of_no_swap {s : State} {o : Out} (h : s.pendingSwaps.at2 o .blend = none) :
    fadeAtStart s o = fadeStepped (s.fades.get o) := by
  rw [fadeAtStart, h]
  cases s.fades.get o <;> rfl

theorem fadeAtStart_of_swap {s : State} {o : Out} {n : Nat} (h : s.pendingSwaps.at2 o .blend = some n) :
    fadeAtStart s o = if n = 0 then none else some ⟨n, 1⟩ := by
  rw [fadeAtStart, h]

/-- A pair of a state that keeps the bank invariant, after the verifications, the fades' step and the pending swaps. -/
theorem pair_fadesAndSwaps {s : State} {o : Out} {k : Kind} (h : PairOk s o k) :
    ((s.pair o k).verified.fadeStep k (s.fades.get o)).carried k (s.pendingSwaps.at2 o k) =
      { bank0 := verifiedBank (s.pair o k).bank0
        bank1 := verifiedBank (s.pair o k).bank1
        active := if (s.pendingSwaps.at2 o k).isSome then (s.pair o k).active.other else (s.pair o k).active
        pin := k == .blend && (fadeAtStart s o).isSome } := by
  obtain ⟨-, -, hactive, hpin, hone, hready, -⟩ := h
  cases hp : s.pendingSwaps.at2 o k with
  | some n =>
    have hshadow : ((s.pair o k).verified.fadeStep k (s.fades.get o)).shadow.table.isSome = true := by
      have := hready (by rw [hp]; rfl)
      rwa [BankPair.shadow_fadeStep, BankPair.verified_shadow, verifiedBank_of_table this]
    rw [BankPair.carried, if_pos hshadow, BankPair.verified_eq hactive]
    cases k with
    | warp => rfl
    | blend =>
      rw [fadeAtStart_of_swap hp]
      cases n <;> rfl
  | none =>
    rw [BankPair.carried, BankPair.verified_eq hactive]
    rw [hp] at hpin
    cases k with
    | warp => exact congrArg (BankPair.mk _ _ _) hpin
    | blend =>
      have pin : ((s.pair o .blend).pin && !((s.fades.get o).isSome && (fadeStepped (s.fades.get o)).isNone))
          = (fadeStepped (s.fades.get o)).isSome := by
        rw [show (s.pair o .blend).pin = (s.fades.get o).isSome from hpin]
        cases s.fades.get o with
        | none => rfl
        | some f => cases fadeStepped (some f) <;> rfl
      rw [fadeAtStart_of_no_swap hp, ← pin]
      rfl

theorem fade_fadesAndSwaps {s : State} {o : Out} (h : PairOk s o .blend) :
    fadeCarried (s.pendingSwaps.at2 o .blend) ((s.pair o .blend).verified.fadeStep .blend (s.fades.get o))
      (fadeStepped (s.fades.get o)) = fadeAtStart s o := by
  obtain ⟨-, -, -, -, hone, hready, -⟩ := h
  cases hp : s.pendingSwaps.at2 o .blend with
  | none => exact (fadeAtStart_of_no_swap hp).symm
  | some n =>
    have hshadow := hready (by rw [hp]; rfl)
    have hfade : s.fades.get o = none := by
      rw [hp] at hone
      exact Option.isNone_iff_eq_none.mp (Option.isSome_eq_false_iff.mp hone)
    rw [fadeAtStart_of_swap hp, fadeCarried, BankPair.shadow_fadeStep, BankPair.verified_shadow,
      verifiedBank_of_table hshadow, hshadow, hfade]
    cases n <;> rfl

/-- In a state that keeps the bank invariant, the verifications and the Cue Scheduler's steps 1 and 2 leave what R30 and
R33 give; the verifications that end write the results and reserved places beside it. -/
theorem fadesAndSwaps_done {s : State} (hs : BanksOk s) :
    allPairs.foldl carryOutSwap (stepFade .out1 (stepFade .out0 (verificationsAtStart s))) =
      { fadesAndSwapsDone s with engine := (verificationsAtStart s).engine } := by
  obtain ⟨pairsOk, -, -, -⟩ := hs
  have pairs := pair_of_forPairs (verificationsAtStart_pairs s)
  rw [fadesAndSwaps_eq]
  simp only [pairs]
  rw [verificationsAtStart_eq]
  simp only [pair_fadesAndSwaps (pairsOk _ _), fade_fadesAndSwaps (pairsOk _ _)]
  rfl

end Sys2Proof.Machine
end

section
/-!
PROOFS. The rounding of a ramp step, and a start that gives D without a due cue: its ramps, fades and pending swaps.
-/
namespace Sys2Proof.Machine

open Sys2Proof

/-! ### The rounded quotient (R36) -/

/-- Rounding treats a move downwards as the mirror image of a move upwards. -/
theorem roundDiv_neg {n : Int} (h : 0 < n) (r : Nat) : roundDiv (-n) r = -roundDiv n r := by
  simp only [roundDiv, if_pos h.le, if_neg (show ¬0 ≤ -n by omega), neg_neg]

/-- Upwards, the rounded quotient is the one integer whose `r`-fold lies above `n` by `r / 2` at most and below it by
less than that. -/
theorem roundDiv_bounds {n : Int} (h : 0 ≤ n) {r : Nat} (hr : 0 < r) :
    2 * (r * roundDiv n r) ≤ 2 * n + r ∧ 2 * n < 2 * (r * roundDiv n r) + r := by
  have hpos : (0 : Int) < 2 * r := by omega
  rw [roundDiv, if_pos h]
  have hlow := Int.ediv_mul_le (2 * n + r) hpos.ne'
  have hhigh := Int.lt_ediv_add_one_mul_self (2 * n + r) hpos
  generalize (2 * n + (r : Int)) / (2 * r) = q at hlow hhigh ⊢
  have hq : q * (2 * r) = 2 * (r * q) := by ring
  rw [add_mul, one_mul] at hhigh
  omega

/-- The rounded quotient is nearest to the exact one, and of two nearest integers it is the one away from zero. -/
theorem roundDiv_nearest (n : Int) {r : Nat} (hr : 0 < r) :
    2 * (r * roundDiv n r - n).natAbs ≤ r
    ∧ (2 * (r * roundDiv n r - n).natAbs = r → n.natAbs < (r * roundDiv n r).natAbs) := by
  rcases le_or_gt 0 n with h | h
  · have := roundDiv_bounds h hr
    omega
  · have hn : 0 < -n := by omega
    have := roundDiv_bounds hn.le hr
    have hneg := roundDiv_neg hn r
    rw [neg_neg] at hneg
    rw [hneg, mul_neg]
    omega

/-- Upwards, a step does not go beyond the whole difference. -/
theorem roundDiv_mem {n : Int} (h : 0 ≤ n) {r : Nat} (hr : 0 < r) : 0 ≤ roundDiv n r ∧ roundDiv n r ≤ n := by
  have hpos : (0 : Int) < 2 * r := by omega
  rw [roundDiv, if_pos h]
  refine ⟨Int.ediv_nonneg (by omega) hpos.le, Int.lt_add_one_iff.mp ((Int.ediv_lt_iff_lt_mul hpos).mpr ?_)⟩
  have hmul : n * 1 ≤ n * r := Int.mul_le_mul_of_nonneg_left (by omega) h
  have hexpand : (n + 1) * (2 * (r : Int)) = 2 * (n * r) + 2 * r := by ring
  omega

theorem roundDiv_one (n : Int) : roundDiv n 1 = n := by
  have near := roundDiv_nearest n Nat.one_pos
  omega

/-! ### One ramp step (R36) -/

/-- A step from a gain towards a target stays between the two. -/
theorem rampMove_mem (gain target : Word16) {r : Nat} (hr : 0 < r) :
    0 ≤ (gain.toNat : Int) + roundDiv ((target.toNat : Int) - gain.toNat) r
    ∧ (gain.toNat : Int) + roundDiv ((target.toNat : Int) - gain.toNat) r < 2 ^ 16 := by
  have hgain := gain.isLt
  have htarget := target.isLt
  rcases le_or_gt (gain.toNat : Int) target.toNat with h | h
  · have := roundDiv_mem (n := (target.toNat : Int) - gain.toNat) (by omega) hr
    omega
  · have hn : (0 : Int) < gain.toNat - target.toNat := by omega
    have := roundDiv_mem hn.le hr
    have hneg := roundDiv_neg hn r
    rw [neg_sub] at hneg
    omega

theorem rampStep_gain {r : Ramp} (h : r.remaining ≠ 0) :
    (r.step.gain.toNat : Int) = r.gain.toNat + roundDiv ((r.target.toNat : Int) - r.gain.toNat) r.remaining := by
  obtain ⟨hlow, hhigh⟩ := rampMove_mem r.gain r.target (Nat.pos_of_ne_zero h)
  rw [Ramp.step, if_neg h]
  dsimp only
  rw [BitVec.toNat_ofInt, Int.toNat_of_nonneg (Int.emod_nonneg _ (by decide))]
  exact Int.emod_eq_of_lt hlow hhigh

theorem rampStep_target (r : Ramp) : r.step.target = r.target := by
  unfold Ramp.step
  split_ifs <;> rfl

theorem rampStep_remaining (r : Ramp) : r.step.remaining = r.remaining - 1 := by
  unfold Ramp.step
  split_ifs with h
  · rw [h]
  · rfl

theorem rampStep_stopped {r : Ramp} (h : r.remaining = 0) : r.step.gain = r.gain := by
  rw [Ramp.step, if_pos h]

/-- The last step ends at the target. -/
theorem rampStep_last {r : Ramp} (h : r.remaining = 1) : r.step.gain = r.target := by
  have hgain := rampStep_gain (r := r) (by omega)
  rw [h, roundDiv_one] at hgain
  exact BitVec.eq_of_toNat_eq (by omega)

/-! ### A start without a due cue (R28) -/

theorem fireCues_of_noCueDue {d : Period} {s : State} (h : noCueDue d s) : fireCues d s = s := by
  have due : (s.cues.filter fun c => atOrBefore c.target d) = [] :=
    List.filter_eq_nil_iff.mpr fun c hc => by rw [h c hc]; decide
  have left : (s.cues.filter fun c => !atOrBefore c.target d) = s.cues :=
    List.filter_eq_self.mpr fun c hc => by rw [h c hc]; rfl
  rw [fireCues, due, left]
  rfl

/-- Without a due cue the scheduler's work is the fades' step, the pending swaps and the ramps' step. -/
theorem schedulerWork_of_noCueDue {d : Period} {s : State} (hd : s.dome = some d) (h : noCueDue d s) :
    schedulerWork (verificationsAtStart s) =
      { allPairs.foldl carryOutSwap (stepFade .out1 (stepFade .out0 (verificationsAtStart s))) with
        ramps := s.ramps.map Ramp.step } := by
  simp only [schedulerWork, verificationsAtStart_dome, hd]
  generalize hswapped : allPairs.foldl carryOutSwap (stepFade .out1 (stepFade .out0 (verificationsAtStart s))) = swapped
  have cues : swapped.cues = s.cues := by rw [← hswapped, fadesAndSwaps_eq, verificationsAtStart_eq]
  have ramps : swapped.ramps = s.ramps := by rw [← hswapped, fadesAndSwaps_eq, verificationsAtStart_eq]
  rw [fireCues_of_noCueDue fun c hc => h c (cues ▸ hc), ramps]

theorem periodStart_ramps {before s : State} {d : Period} (hd : s.dome = some d) (h : noCueDue d s) (o : Out) :
    (periodStart before s).ramps.get o = (s.ramps.get o).step := by
  obtain ⟨-, -, -, -, -, ramps⟩ := periodStart_scheduler before s
  rw [ramps, schedulerWork_of_noCueDue hd h, PerOut.get_map]

/-- The pairs, fades and pending swaps are those of `fadesAndSwapsDone`. -/
theorem periodStart_swaps {before s : State} {d : Period} (hd : s.dome = some d) (h : noCueDue d s) (hs : BanksOk s) :
    (periodStart before s).pairs = (fadesAndSwapsDone s).pairs
    ∧ (periodStart before s).pendingSwaps = (fadesAndSwapsDone s).pendingSwaps
    ∧ (periodStart before s).fades = (fadesAndSwapsDone s).fades := by
  obtain ⟨pairs, -, -, pendingSwaps, fades, -⟩ := periodStart_scheduler before s
  rw [pairs, pendingSwaps, fades, schedulerWork_of_noCueDue hd h, fadesAndSwaps_done hs]
  exact ⟨rfl, rfl, rfl⟩

theorem pair_fadesAndSwapsDone (s : State) (o : Out) (k : Kind) :
    (fadesAndSwapsDone s).pair o k =
      { bank0 := verifiedBank (s.pair o k).bank0
        bank1 := verifiedBank (s.pair o k).bank1
        active := if (s.pendingSwaps.at2 o k).isSome then (s.pair o k).active.other else (s.pair o k).active
        pin := k == .blend && (fadeAtStart s o).isSome } := by
  cases o <;> cases k <;> rfl

/-- Settles O34: the ramps by their step, its rounding, and the fades and pending swaps by the scheduler's steps 1
and 2. -/
theorem rampsFadesAndSwapsAtAStart : Obligations.RampsFadesAndSwapsAtAStart := by
  unfold Obligations.RampsFadesAndSwapsAtAStart
  refine ⟨fun before s d o hd h => ?_, fun n r hr => roundDiv_nearest n hr, fun before s d hd h hs => ?_⟩
  · dsimp only
    rw [periodStart_ramps hd h o]
    exact ⟨rampStep_target _, rampStep_remaining _, rampStep_stopped, rampStep_last, rampStep_gain⟩
  · obtain ⟨pairs, pendingSwaps, fades⟩ := periodStart_swaps (before := before) hd h hs
    have fade : ∀ o : Out, (periodStart before s).fades.get o = fadeAtStart s o := fun o => by
      rw [fades]
      cases o <;> rfl
    refine ⟨pendingSwaps, fun o k => ?_, fade⟩
    have pair : (periodStart before s).pair o k = (fadesAndSwapsDone s).pair o k :=
      congrArg (PerOut.at2 · o k) pairs
    rw [pair, pair_fadesAndSwapsDone]
    refine ⟨rfl, ?_⟩
    cases k with
    | warp => rfl
    | blend => exact (congrArg Option.isSome (fade o)).symm

end Sys2Proof.Machine
end

section
/-!
PROOFS. A fired cue: one pair of a SWAP cue, all the pairs that it names, the outcome that it appends, and a GAIN cue.
-/
namespace Sys2Proof.Machine

open Sys2Proof

/-! ### One pair of a SWAP cue (R45) -/

/-- A pair whose fade in flight, if it has one, has ended: the pin of a BLEND pair is released with it. -/
def BankPair.fadeEnded (k : Kind) (f : Option Fade) (p : BankPair) : BankPair :=
  { p with pin := p.pin && !(k == .blend && f.isSome) }

/-- A pair on which a SWAP cue has acted: its fade in flight has ended, and with a READY shadow it is exchanged, and
pinned for a fade of the cue's own. -/
def BankPair.fired (k : Kind) (fade : Nat) (f : Option Fade) (p : BankPair) : BankPair :=
  if p.shadow.table.isSome then { p with active := p.active.other, pin := k == .blend && fade != 0 }
  else p.fadeEnded k f

/-- The fade of an output on whose BLEND pair a SWAP cue has acted. -/
def fadeFired (fade : Nat) (p : BankPair) : Option Fade :=
  if p.shadow.table.isSome && fade != 0 then some ⟨fade, 1⟩ else none

/-- The fades after a SWAP cue on one pair, if it is named: only a BLEND pair has one. -/
def fadesFired (named : Bool) (fade : Nat) (s : State) (o : Out) : Kind → PerOut (Option Fade)
  | .warp => s.fades
  | .blend => s.fades.set o (if named then fadeFired fade (s.pair o .blend) else s.fades.get o)

/-- The end of a fade in flight releases the pin of its BLEND pair (R45 step 1). -/
theorem endFade_eq (o : Out) (k : Kind) (s : State) :
    endFade o k s = { s.setPair o k ((s.pair o k).fadeEnded k (s.fades.get o)) with
      fades := if k = .blend then s.fades.set o none else s.fades } := by
  have stays (h : (k == .blend && (s.fades.get o).isSome) = false) :
      s.setPair o k ((s.pair o k).fadeEnded k (s.fades.get o)) = s := by
    rw [BankPair.fadeEnded, h, Bool.not_false, Bool.and_true]
    exact s.setPair_self o k
  unfold endFade
  cases k with
  | warp => rw [stays rfl]; rfl
  | blend =>
    cases hf : s.fades.get o with
    | none =>
      have fades : s.fades.set o none = s.fades := by rw [← hf, PerOut.set_self]
      rw [hf] at stays
      rw [stays rfl, fades]
      rfl
    | some f =>
      rw [BankPair.fadeEnded, Option.isSome_some, Bool.and_true, beq_self_eq_true, Bool.not_true, Bool.and_false]
      rfl

theorem pair_endFade (o : Out) (k : Kind) (s : State) :
    (endFade o k s).pair o k = (s.pair o k).fadeEnded k (s.fades.get o) := by
  rw [endFade_eq]
  exact s.pair_setPair_same o k _

/-- A SWAP cue on a named pair: exchanged and marked applied if its shadow is READY. -/
theorem fireSwapPart_eq (fade : Nat) (s : State) (applied : PerOut (PerKind Bool)) (o : Out) (k : Kind) :
    fireSwapPart fade (s, applied) (o, k) =
      ({ s with
          pairs := s.pairs.set2 o k ((s.pair o k).fired k fade (s.fades.get o))
          fades := fadesFired true fade s o k },
        applied.set2 o k (applied.at2 o k || (s.pair o k).shadow.table.isSome)) := by
  have exchange : ((endFade o k s).pair o k).exchange =
      if (s.pair o k).shadow.table.isSome then
        some { (s.pair o k).fadeEnded k (s.fades.get o) with active := (s.pair o k).active.other }
      else none := by
    rw [pair_endFade, BankPair.exchange_eq]
    rfl
  unfold fireSwapPart
  dsimp only
  rw [exchange, BankPair.fired]
  cases hready : (s.pair o k).shadow.table.isSome with
  | false =>
    have fades : fadesFired true fade s o k = if k = .blend then s.fades.set o none else s.fades := by
      cases k with
      | warp => rfl
      | blend => rw [fadesFired, fadeFired, hready]; rfl
    rw [Bool.or_false, PerOut.set2_self, fades, endFade_eq]
    rfl
  | true =>
    simp only [if_true, afterExchange_eq, endFade_eq, Bool.or_true]
    cases k with
    | warp => cases o <;> rfl
    | blend =>
      simp only [fadesFired, fadeFired, hready]
      cases fade <;> cases o <;> rfl

/-- The same, and no change on a pair that is not named. -/
theorem fireSwapPart_where (named : Bool) (fade : Nat) (acc : State × PerOut (PerKind Bool)) (o : Out) (k : Kind) :
    (if named then fireSwapPart fade acc (o, k) else acc) =
      ({ acc.1 with
          pairs := acc.1.pairs.set2 o k
            (if named then (acc.1.pair o k).fired k fade (acc.1.fades.get o) else acc.1.pair o k)
          fades := fadesFired named fade acc.1 o k },
        acc.2.set2 o k (acc.2.at2 o k || (named && (acc.1.pair o k).shadow.table.isSome))) := by
  cases named with
  | true => exact fireSwapPart_eq fade acc.1 acc.2 o k
  | false =>
    have pairs : acc.1.pairs.set2 o k (acc.1.pair o k) = acc.1.pairs := PerOut.set2_self _ _ _
    have fades : fadesFired false fade acc.1 o k = acc.1.fades := by
      cases k with
      | warp => rfl
      | blend => exact PerOut.set_self _ _
    simp only [Bool.false_eq_true, if_false, pairs, fades, Bool.false_and, Bool.or_false, PerOut.set2_self]

/-! ### Every pair that a SWAP cue names -/

/-- A SWAP cue on the pairs that it names, and the mask of those exchanged. -/
theorem fireSwapParts_eq (m : Mask) (ks : Kinds) (fade : Nat) (s : State) :
    (namedPairs m ks).foldl (fireSwapPart fade) (s, noneApplied) =
      ({ s with
          pairs := forPairs fun o k =>
            if namesPair m ks o k then (s.pair o k).fired k fade (s.fades.get o) else s.pair o k
          fades := forOuts fun o =>
            if namesPair m ks o .blend then fadeFired fade (s.pair o .blend) else s.fades.get o },
        forPairs fun o k => namesPair m ks o k && (s.pair o k).shadow.table.isSome) := by
  rw [namedPairs_foldl]
  simp only [allPairs, List.foldl_cons, List.foldl_nil, fireSwapPart_where]
  rfl

/-- In a state that keeps the bank invariant, a named pair without a pending swap. -/
theorem fired_of_pairOk {s : State} {o : Out} {k : Kind} (h : PairOk s o k) (hp : s.pendingSwaps.at2 o k = none)
    (fade : Nat) :
    (s.pair o k).fired k fade (s.fades.get o) = { s.pair o k with
      active := if (s.pair o k).shadow.table.isSome then (s.pair o k).active.other else (s.pair o k).active
      pin := (s.pair o k).shadow.table.isSome && decide (k = .blend ∧ fade ≠ 0) } := by
  obtain ⟨-, -, -, hpin, -, -, -⟩ := h
  rw [hp] at hpin
  cases hready : (s.pair o k).shadow.table.isSome with
  | true =>
    rw [BankPair.fired, if_pos hready]
    cases k with
    | warp => rfl
    | blend => cases fade <;> rfl
  | false =>
    have released : ((s.pair o k).pin && !(k == .blend && (s.fades.get o).isSome)) = false := by
      rw [hpin]
      cases k with
      | warp => rfl
      | blend => cases h : s.fades.get o <;> simp [fadeOn, h]
    rw [BankPair.fired, if_neg (by rw [hready]; decide), BankPair.fadeEnded, released]
    rfl

/-! ### The outcome of a fired cue (R47) -/

theorem namedPairs_all (m : Mask) (ks : Kinds) (f : Out → Kind → Bool) :
    ((namedPairs m ks).all fun ok => f ok.1 ok.2) = !somePair fun o k => namesPair m ks o k && !f o k := by
  rw [← namedPairs_any, List.not_any_eq_all_not]
  simp

/-- The result of a cue that names pairs, from which of them it was applied to. -/
theorem cueResult_eq {c : Cue} {ks : Kinds} (h : partsOf c = namedPairs c.mask ks) (d : Period)
    (ready : Out → Kind → Bool) :
    cueResult c d (forPairs fun o k => namesPair c.mask ks o k && ready o k) =
      if somePair fun o k => namesPair c.mask ks o k && !ready o k then
        if somePair fun o k => namesPair c.mask ks o k && ready o k then .partly else .notReady
      else if d = c.target then .done else .late := by
  have missed : ∀ o k, (namesPair c.mask ks o k && !(namesPair c.mask ks o k && ready o k))
      = (namesPair c.mask ks o k && !ready o k) := fun o k => by cases namesPair c.mask ks o k <;> rfl
  have made : ∀ o k, (namesPair c.mask ks o k && (namesPair c.mask ks o k && ready o k))
      = (namesPair c.mask ks o k && ready o k) := fun o k => by cases namesPair c.mask ks o k <;> rfl
  simp only [cueResult, h, at2_forPairs, namedPairs_all _ _ fun o k => namesPair c.mask ks o k && ready o k,
    namedPairs_any _ _ fun o k => namesPair c.mask ks o k && ready o k, missed, made, beq_iff_eq]
  cases somePair fun o k => namesPair c.mask ks o k && !ready o k <;> rfl

/-- A fired SWAP cue, as its action and its outcome. -/
theorem fireCue_swap {c : Cue} {ks : Kinds} {fade : Nat} (h : c.action = .swap ks fade) (d : Period) (s : State) :
    fireCue d s c = appendOutcome
      ⟨c.id, c.target, d, c.origin,
        forPairs fun o k => namesPair c.mask ks o k && (s.pair o k).shadow.table.isSome,
        if somePair fun o k => namesPair c.mask ks o k && !(s.pair o k).shadow.table.isSome then
          if somePair fun o k => namesPair c.mask ks o k && (s.pair o k).shadow.table.isSome then .partly else .notReady
        else if d = c.target then .done else .late⟩
      { s with
        pairs := forPairs fun o k =>
          if namesPair c.mask ks o k then (s.pair o k).fired k fade (s.fades.get o) else s.pair o k
        fades := forOuts fun o =>
          if namesPair c.mask ks o .blend then fadeFired fade (s.pair o .blend) else s.fades.get o } := by
  have parts : partsOf c = namedPairs c.mask ks := by rw [partsOf, h]
  rw [← cueResult_eq parts, fireCue]
  simp only [fireAction, h, fireSwapParts_eq]

/-- A fired GAIN cue marks the BLEND indications of its outputs, all of them (R46, R47). -/
theorem fireCue_gain {c : Cue} {target : Word16} {length : Nat} (h : c.action = .gain target length) (d : Period)
    (s : State) :
    fireCue d s c = appendOutcome
      ⟨c.id, c.target, d, c.origin, ⟨⟨false, c.mask.out0⟩, ⟨false, c.mask.out1⟩⟩,
        if d = c.target then .done else .late⟩
      { s with ramps := forOuts fun o =>
          if c.mask.get o then
            { s.ramps.get o with target := target, remaining := if length = 0 then 1 else length }
          else s.ramps.get o } := by
  have parts : partsOf c = namedPairs c.mask ⟨false, true⟩ := by rw [partsOf, h]
  have result := cueResult_eq parts d fun _ _ => true
  have applied : (forPairs fun o k => namesPair c.mask ⟨false, true⟩ o k && true)
      = ⟨⟨false, c.mask.out0⟩, ⟨false, c.mask.out1⟩⟩ := by
    simp [forPairs, namesPair, Kinds.has, PerOut.get]
  have missed : (somePair fun o k => namesPair c.mask ⟨false, true⟩ o k && !true) = false := by
    simp [somePair]
  rw [applied, missed] at result
  rw [fireCue]
  simp only [fireAction, h, result, mapWhere_begin]
  rfl

theorem get_forOuts {α : Type} (f : Out → α) (o : Out) : (forOuts f).get o = f o := by
  cases o <;> rfl

theorem fadeFired_eq (fade : Nat) (p : BankPair) :
    fadeFired fade p = if p.shadow.table.isSome = true ∧ fade ≠ 0 then some ⟨fade, 1⟩ else none := by
  simp [fadeFired]

/-- Settles O36: the SWAP cue pair by pair, with its outcome, and the GAIN cue. -/
theorem firedCuesActOnWhatTheyName : Obligations.FiredCuesActOnWhatTheyName := by
  unfold Obligations.FiredCuesActOnWhatTheyName
  refine ⟨fun s d c ks fade h _ hs hp => ?_, fun s d c target length h => fireCue_gain h d s⟩
  obtain ⟨pairsOk, -, -, -⟩ := hs
  rw [fireCue_swap h]
  refine ⟨fun o k => ?_, fun o => ?_, appendOutcome_outcomes _ _, appendOutcome_ramps _ _, appendOutcome_cues _ _⟩
  · rw [State.pair, appendOutcome_pairs]
    change (forPairs _).at2 o k = _
    rw [at2_forPairs]
    by_cases named : namesPair c.mask ks o k = true
    · rw [if_pos named, if_pos named]
      exact fired_of_pairOk (pairsOk o k) (hp o k named) fade
    · rw [if_neg named, if_neg named]
  · rw [appendOutcome_fades, get_forOuts, fadeFired_eq]

end Sys2Proof.Machine
end

section
/-!
PROOFS. The clock and the time: which operations leave them as they were, and that every row but those of the Period
Clock and the resets leaves the clock and takes no time back.
-/
namespace Sys2Proof.Machine

open Sys2Proof

/-! ### The operations of the state -/

/-- What the invariant of the clock reads. -/
def State.timed (s : State) : Clock × Nat := (s.clock, s.now)

@[simp] theorem timed_setPort (s : State) (l : Link) (p : Port) : (s.setPort l p).timed = s.timed := rfl
@[simp] theorem timed_setFrame (s : State) (l : Link) (x : FrameProgress) : (s.setFrame l x).timed = s.timed := rfl
@[simp] theorem timed_setLinkState (s : State) (l : Link) (x : LinkState) : (s.setLinkState l x).timed = s.timed := rfl
@[simp] theorem timed_setLinkStore (s : State) (l : Link) (x : LinkStore) : (s.setLinkStore l x).timed = s.timed := rfl
@[simp] theorem timed_setSlot (s : State) (i : SlotId) (x : Slot) : (s.setSlot i x).timed = s.timed := rfl
@[simp] theorem timed_setPartState (s : State) (p : PartState) : (s.setPartState p).timed = s.timed := rfl
@[simp] theorem timed_setDecoder (s : State) (d : ServiceDecoder) : (s.setDecoder d).timed = s.timed := rfl
@[simp] theorem timed_setService (s : State) (v : Override) : (s.setService v).timed = s.timed := rfl
@[simp] theorem timed_keepIdleTimer (s : State) : (keepIdleTimer s).timed = s.timed := rfl
@[simp] theorem timed_latchEdges (s s' : State) : (latchEdges s s').timed = s'.timed := rfl

@[simp] theorem timed_raise (s : State) (e : Event) : (s.raise e).timed = s.timed := by
  rw [raise_eq]; rfl

@[simp] theorem timed_raiseIf (s : State) (b : Bool) (e : Event) : (s.raiseIf b e).timed = s.timed := by
  rw [raiseIf_eq]; rfl

/-! ### The Frame Store and the Stream Link Ports -/

@[simp] theorem timed_dropFrame (l : Link) (cause : DropCause) (s : State) : (dropFrame l cause s).timed = s.timed := by
  simp [dropFrame]

@[simp] theorem timed_dropFilling (l : Link) (cause : DropCause) (s : State) :
    (dropFilling l cause s).timed = s.timed := by
  rw [dropFilling_eq]; rfl

@[simp] theorem timed_offerFrame (l : Link) (h : Header) (s : State) : (offerFrame l h s).timed = s.timed := by
  unfold offerFrame
  cases admissionFailure l h s with
  | some cause => exact timed_dropFrame l cause s
  | none => cases (s.store.get l).slots.find Slot.isFree <;> rfl

@[simp] theorem timed_completeFrame (l : Link) (i : SlotIndex) (f : Frame) (s : State) :
    (completeFrame l i f s).timed = s.timed := by
  unfold completeFrame
  cases s.dome with
  | none => simp
  | some d => dsimp only; split_ifs <;> simp

@[simp] theorem timed_storeLine (l : Link) (line : List Pixel) (s : State) : (storeLine l line s).timed = s.timed := by
  unfold storeLine
  split
  · rfl
  · split
    · dsimp only; split_ifs <;> simp
    · rfl
    · rfl

@[simp] theorem timed_wakeOnLock (s : State) : (wakeOnLock s).timed = s.timed := by
  unfold wakeOnLock
  split <;> rfl

@[simp] theorem timed_wakeFromStandby (s : State) : (wakeFromStandby s).timed = s.timed := by
  unfold wakeFromStandby
  split <;> rfl

@[simp] theorem timed_enterSeeking (l : Link) (s : State) : (enterSeeking l s).timed = s.timed := rfl
@[simp] theorem timed_enterOff (l : Link) (s : State) : (enterOff l s).timed = s.timed := rfl
@[simp] theorem timed_beginBody (l : Link) (h : Header) (parsed : Bool) (s : State) :
    (beginBody l h parsed s).timed = s.timed := rfl
@[simp] theorem timed_enterLocked (l : Link) (b : Bool) (s : State) : (enterLocked l b s).timed = s.timed := by
  simp [enterLocked]
@[simp] theorem timed_cutPacket (l : Link) (s : State) : (cutPacket l s).timed = s.timed := by simp [cutPacket]
@[simp] theorem timed_endFrame (l : Link) (s : State) : (endFrame l s).timed = s.timed := by simp [endFrame]
@[simp] theorem timed_enterHoldover (l : Link) (s : State) : (enterHoldover l s).timed = s.timed := by
  simp [enterHoldover]
@[simp] theorem timed_lockAndOffer (l : Link) (b : Bool) (h : Header) (s : State) :
    (lockAndOffer l b h s).timed = s.timed := by
  simp [lockAndOffer]

@[simp] theorem timed_badHeader (l : Link) (s : State) : (badHeader l s).timed = s.timed := by
  unfold badHeader
  split
  · simp
  · split_ifs <;> simp
  all_goals simp

@[simp] theorem timed_goodHeader (l : Link) (h : Header) (s : State) : (goodHeader l h s).timed = s.timed := by
  unfold goodHeader
  dsimp only
  split
  · simp
  · split_ifs <;> simp
  · split_ifs <;> simp
  · split_ifs <;> simp
  all_goals rfl

@[simp] theorem timed_loseSignal (e : Nat) (l : Link) (s : State) : (loseSignal e l s).timed = s.timed := by
  unfold loseSignal
  split
  · simp
  · simp
  · split_ifs <;> simp
  all_goals simp

@[simp] theorem timed_enterQuiet (l : Link) (s : State) : (enterQuiet l s).timed = s.timed := by
  have loads : ∀ t : State, (loseLoads l t).timed = t.timed := fun t => timed_raiseIf _ _ _
  simp [enterQuiet, loads]

@[simp] theorem timed_enableReceiver (l : Link) (s : State) : (enableReceiver l s).timed = s.timed := by
  unfold enableReceiver
  split_ifs <;> rfl

@[simp] theorem timed_handOver (l : Link) (p : Packet) (s : State) : (handOver l p s).timed = s.timed := by
  unfold handOver
  dsimp only
  split_ifs
  · rfl
  · exact timed_raise s _

@[simp] theorem timed_areaBytes (l : Link) (due : Nat) (b : FrameBody) (buf : List Byte) (s : State) :
    (areaBytes l due b buf s).timed = s.timed := by
  induction due generalizing b buf s with
  | zero => rfl
  | succ due ih =>
    unfold areaBytes
    dsimp only
    split_ifs <;> simp [ih]

/-! ### Part state, patterns and service control -/

@[simp] theorem timed_setStandbyDelay (delay : Nat) (s : State) : (setStandbyDelay delay s).timed = s.timed := rfl

@[simp] theorem timed_standbyEntry (kind : StandbyKind) (s : State) : (standbyEntry kind s).timed = s.timed := by
  rw [standbyEntry, blackenAll, freeStoreForStandby]
  exact (timed_dropFilling .b _ _).trans (timed_dropFilling .a _ _)

@[simp] theorem timed_startPattern (pat : Pattern) (o : Out) (s : State) : (startPattern pat o s).timed = s.timed := by
  unfold startPattern
  dsimp only
  split <;> rfl

@[simp] theorem timed_endPattern (o : Out) (s : State) : (endPattern o s).timed = s.timed := by
  unfold endPattern
  split
  · rfl
  · dsimp only; split_ifs <;> rfl

/-- An operation on one output that leaves the clock and the time leaves them on the outputs of a mask. -/
theorem timed_forOutputs {f : Out → State → State} (hf : ∀ (o : Out) (s : State), (f o s).timed = s.timed)
    (m : Mask) (s : State) : (forOutputs m f s).timed = s.timed := by
  unfold forOutputs
  split_ifs <;> simp only [hf]

@[simp] theorem timed_overrideDark (s : State) : (overrideDark s).timed = s.timed := by
  unfold overrideDark
  dsimp only
  split <;> rfl

@[simp] theorem timed_decodeGroup (count : Nat) (s : State) : (decodeGroup count s).timed = s.timed := by
  unfold decodeGroup
  split
  · exact timed_overrideDark s
  · simp [overrideGrid]
  · rfl
  · rfl

/-! ### A period start -/

/-- A start sets the clock before its work, which leaves it. -/
@[simp] theorem timed_periodStart (before s : State) : (periodStart before s).timed = s.timed := by
  rw [periodStart_part]; rfl

@[simp] theorem timed_endVerification (o : Out) (k : Kind) (s : State) : (endVerification o k s).timed = s.timed := by
  rw [endVerification_eq]; rfl

/-! ### The commands of the Management Engine -/

/-- An owner's reply leaves the clock and the time as the owner found them. -/
def Reply.LeavesTime (s : State) : Reply → Prop
  | .refuse _ _ => True
  | .accept s' _ | .defer s' => s'.timed = s.timed

theorem timed_settle {l : Link} {p : Packet} {s : State} {r : Reply} (hr : r.LeavesTime s) :
    (settle l p s r).timed = s.timed := by
  cases r with
  | refuse _ _ => rfl
  | accept _ _ | defer _ => exact hr

theorem generalChecks_leavesTime {ok channel : Bool} {p : Packet} {s : State} {owner : Reply}
    (ho : owner.LeavesTime s) : (generalChecks ok channel p owner).LeavesTime s := by
  unfold generalChecks
  split_ifs
  · trivial
  · trivial
  · exact ho

/-- Taking a command lets its time pass and leaves the clock. -/
theorem timed_takeOwned {names : Packet → Bool} {lengthOk : Nat → Bool} {channel : Bool}
    {owner : Link → Packet → State → Reply} (ho : ∀ (l : Link) (p : Packet) (s : State), (owner l p s).LeavesTime s)
    (t : Nat) (s : State) : (takeOwned names lengthOk channel owner t s).timed = (s.advance t).timed := by
  unfold takeOwned takeCommand
  split
  · rfl
  · split_ifs
    · exact timed_settle (generalChecks_leavesTime (ho _ _ _))
    · rfl

theorem timed_stopMixing (o : Out) (k : Kind) (s : State) : (stopMixing o k s).timed = s.timed := by
  cases k <;> rfl

theorem tableOpenOwner_leavesTime (l : Link) (p : Packet) (s : State) : (tableOpenOwner l p s).LeavesTime s := by
  unfold tableOpenOwner
  split
  · trivial
  · dsimp only
    split_ifs
    · trivial
    · trivial
    · trivial
    · exact timed_stopMixing _ _ _

theorem tableDataOwner_leavesTime (l : Link) (p : Packet) (s : State) : (tableDataOwner l p s).LeavesTime s := by
  unfold tableDataOwner
  split
  · trivial
  · split
    · dsimp only; split_ifs <;> trivial
    all_goals trivial

theorem tableCloseOwner_leavesTime (l : Link) (p : Packet) (s : State) : (tableCloseOwner l p s).LeavesTime s := by
  unfold tableCloseOwner
  split
  · trivial
  · split
    · split_ifs <;> trivial
    all_goals trivial

theorem tableDiscardOwner_leavesTime (l : Link) (p : Packet) (s : State) : (tableDiscardOwner l p s).LeavesTime s := by
  unfold tableDiscardOwner
  split
  · trivial
  · split
    · rfl
    · split_ifs <;> trivial
    · trivial
    · split_ifs
      · trivial
      · exact timed_stopMixing _ _ _

theorem swapOwner_leavesTime (l : Link) (p : Packet) (s : State) : (swapOwner l p s).LeavesTime s := by
  unfold swapOwner
  dsimp only
  split
  · trivial
  · split_ifs
    · trivial
    · trivial
    · trivial
    · exact foldl_keeps (view := State.timed) (f := bookSwap _) (fun _ _ => rfl) _ s

theorem gainOwner_leavesTime (l : Link) (p : Packet) (s : State) : (gainOwner l p s).LeavesTime s := by
  unfold gainOwner
  dsimp only
  split_ifs <;> trivial

theorem cueAddOwner_leavesTime (l : Link) (p : Packet) (s : State) : (cueAddOwner l p s).LeavesTime s := by
  unfold cueAddOwner
  dsimp only
  split
  · trivial
  · split_ifs <;> trivial

theorem cueCancelOwner_leavesTime (l : Link) (p : Packet) (s : State) : (cueCancelOwner l p s).LeavesTime s := by
  unfold cueCancelOwner
  split_ifs <;> trivial

theorem routeOwner_leavesTime (l : Link) (p : Packet) (s : State) : (routeOwner l p s).LeavesTime s := by
  unfold routeOwner
  split
  · trivial
  · split_ifs <;> trivial

theorem selectOwner_leavesTime (l : Link) (p : Packet) (s : State) : (selectOwner l p s).LeavesTime s := by
  unfold selectOwner
  split
  · trivial
  · split_ifs <;> trivial

theorem configLockOwner_leavesTime (l : Link) (p : Packet) (s : State) : (configLockOwner l p s).LeavesTime s := by
  unfold configLockOwner
  split
  · trivial
  · split
    · split_ifs <;> trivial
    all_goals trivial

theorem configUnlockOwner_leavesTime (l : Link) (p : Packet) (s : State) : (configUnlockOwner l p s).LeavesTime s := by
  unfold configUnlockOwner
  split <;> trivial

theorem setOutputOwner_leavesTime (l : Link) (p : Packet) (s : State) : (setOutputOwner l p s).LeavesTime s := by
  unfold setOutputOwner
  dsimp only
  split
  · trivial
  · split_ifs <;> trivial

theorem patternOwner_leavesTime (l : Link) (p : Packet) (s : State) : (patternOwner l p s).LeavesTime s := by
  unfold patternOwner
  dsimp only
  split
  · trivial
  · split_ifs
    · trivial
    · trivial
    · trivial
    · trivial
    · exact timed_forOutputs (timed_startPattern _) _ s

theorem standbyEnterOwner_leavesTime (l : Link) (p : Packet) (s : State) : (standbyEnterOwner l p s).LeavesTime s := by
  unfold standbyEnterOwner
  split_ifs
  · trivial
  · split
    · rfl
    · rfl
    · exact timed_standbyEntry _ s
    · exact timed_standbyEntry _ s
    · rfl

theorem standbyExitOwner_leavesTime (l : Link) (p : Packet) (s : State) : (standbyExitOwner l p s).LeavesTime s := by
  unfold standbyExitOwner
  split_ifs
  · trivial
  · exact timed_wakeFromStandby s

theorem standbyDelayOwner_leavesTime (l : Link) (p : Packet) (s : State) : (standbyDelayOwner l p s).LeavesTime s := by
  unfold standbyDelayOwner
  dsimp only
  split_ifs <;> trivial

theorem softResetOwner_leavesTime (l : Link) (p : Packet) (s : State) : (softResetOwner l p s).LeavesTime s := by
  have part : ∀ (keep : Bool) (t : State), (softResetPart keep t).timed = t.timed := fun keep t => by
    cases keep <;> exact timed_wakeFromStandby (endPatternsAtSoftReset t)
  unfold softResetOwner
  split
  · trivial
  · exact part _ (softResetScheduler (resetTables s))

end Sys2Proof.Machine
end

section
/-!
PROOFS. The invariant of the Period Clock: the rows that do not write the clock, those that do, and the samplers.
-/
namespace Sys2Proof.Machine

open Sys2Proof

/-! ### The rows that leave the clock -/

/-- The rows whose meaning writes the Period Clock. -/
def writesClock : Instr → Bool
  | .powerOnReset _ | .resetPin _ | .resetRelease _ | .syncWord _ _ | .generatorStart | .trackingWindowClose
  | .syncAcquisitionTimeout => true
  | _ => false

/-- The clock stays, and no time is taken back. -/
structure ClockKept (s s' : State) : Prop where
  clock : s'.clock = s.clock
  now : s.now ≤ s'.now

theorem ClockKept.refl (s : State) : ClockKept s s := ⟨rfl, le_rfl⟩

theorem ClockKept.of_timed {s s' : State} {t : Nat} (h : s'.timed = (s.advance t).timed) : ClockKept s s' where
  clock := congrArg Prod.fst h
  now := (le_max_left s.now t).trans_eq (congrArg Prod.snd h).symm

theorem ClockKept.advance (s : State) (t : Nat) : ClockKept s (s.advance t) := .of_timed rfl

/-- What a command or event answers is a state with the property. -/
def Answers (P : State → Prop) : Host.Outcome State Fault Refusal → Prop
  | .next s => P s
  | .fault _ | .refused _ => True

theorem linkEvent_keepsClock {s s0 s' : State} {t : Nat} (h : s'.timed = (s.advance t).timed) :
    Answers (ClockKept s) (linkEvent s0 s') :=
  ClockKept.of_timed h

theorem clockKept_takeOwned {names : Packet → Bool} {lengthOk : Nat → Bool} {channel : Bool}
    {owner : Link → Packet → State → Reply} (ho : ∀ (l : Link) (p : Packet) (s : State), (owner l p s).LeavesTime s)
    (t : Nat) (s : State) : ClockKept s (takeOwned names lengthOk channel owner t s) :=
  .of_timed (timed_takeOwned ho t s)

theorem execSoftReset_keepsClock (t : Nat) (s : State) : Answers (ClockKept s) (execSoftReset t s) := by
  unfold execSoftReset
  split
  · exact .advance s t
  · split_ifs
    · exact .of_timed (t := t) (timed_settle (generalChecks_leavesTime (softResetOwner_leavesTime _ _ _)))
    · exact .advance s t

theorem execInitialisationEnd_keepsClock (t : Nat) (s : State) : Answers (ClockKept s) (execInitialisationEnd t s) := by
  unfold execInitialisationEnd
  dsimp only
  split_ifs
  · exact .of_timed (t := t) (by simp [endInitialisation])
  · exact .advance s t

theorem execDouserTimerExpiry_keepsClock (o : Out) (s : State) :
    Answers (ClockKept s) (execDouserTimerExpiry o s) := by
  unfold execDouserTimerExpiry
  dsimp only
  split
  · exact .refl s
  · exact .of_timed rfl

theorem execOpenTimerExpiry_keepsClock (o : Out) (s : State) : Answers (ClockKept s) (execOpenTimerExpiry o s) := by
  unfold execOpenTimerExpiry
  dsimp only
  split
  · exact .of_timed rfl
  all_goals exact .refl s

theorem execSignalPresent_keepsClock (t : Nat) (l : Link) (s : State) :
    Answers (ClockKept s) (execSignalPresent t l s) := by
  unfold execSignalPresent
  dsimp only
  split
  · exact .advance s t
  · split
    · split
      · exact .of_timed (t := t) rfl
      · exact linkEvent_keepsClock (t := t) rfl
    all_goals exact .of_timed (t := t) rfl

theorem execSignalAbsent_keepsClock (t : Nat) (l : Link) (s : State) :
    Answers (ClockKept s) (execSignalAbsent t l s) := by
  unfold execSignalAbsent
  dsimp only
  split_ifs
  · exact .advance s t
  all_goals exact .of_timed (timed_cutPacket l (s.advance t))

theorem execSignalLost_keepsClock (l : Link) (s : State) : Answers (ClockKept s) (execSignalLost l s) := by
  unfold execSignalLost
  split
  · exact .refl s
  · next e _ => exact linkEvent_keepsClock (t := e) (by simp)

theorem execFrameDelimiter_keepsClock (t : Nat) (l : Link) (s : State) :
    Answers (ClockKept s) (execFrameDelimiter t l s) := by
  unfold execFrameDelimiter
  dsimp only
  split_ifs
  · split
    all_goals exact linkEvent_keepsClock (t := t) (by simp)
  · exact .advance s t

theorem execFrameHeader_keepsClock (t : Nat) (l : Link) (bytes : BitVec 96) (s : State) :
    Answers (ClockKept s) (execFrameHeader t l bytes s) := by
  unfold execFrameHeader
  dsimp only
  split_ifs
  · split
    · exact linkEvent_keepsClock (timed_goodHeader l _ (s.advance t))
    · exact linkEvent_keepsClock (t := t) (by simp)
  · exact .advance s t

theorem execPixelLine_keepsClock (t : Nat) (l : Link) (bytes : List Byte) (s : State) :
    Answers (ClockKept s) (execPixelLine t l bytes s) := by
  unfold execPixelLine
  dsimp only
  split
  · split_ifs
    · exact .of_timed (t := t) (timed_storeLine l _ _)
    · exact .advance s t
  all_goals exact .advance s t

theorem execManagementPacket_keepsClock (t : Nat) (l : Link) (bytes : List Byte) (s : State) :
    Answers (ClockKept s) (execManagementPacket t l bytes s) := by
  unfold execManagementPacket
  dsimp only
  split
  · split_ifs
    · exact .of_timed (timed_areaBytes l _ _ _ (s.advance t))
    · exact .advance s t
  all_goals exact .advance s t

theorem execLinkAcquisitionTimeout_keepsClock (l : Link) (s : State) :
    Answers (ClockKept s) (execLinkAcquisitionTimeout l s) := by
  unfold execLinkAcquisitionTimeout
  split
  · exact linkEvent_keepsClock (timed_enterQuiet l _)
  · exact linkEvent_keepsClock (timed_enterQuiet l _)
  all_goals exact .refl s

theorem execLossLimitExpiry_keepsClock (l : Link) (s : State) : Answers (ClockKept s) (execLossLimitExpiry l s) := by
  unfold execLossLimitExpiry
  split
  · exact linkEvent_keepsClock (timed_enterQuiet l _)
  all_goals exact .refl s

theorem execQuietTimerExpiry_keepsClock (l : Link) (s : State) :
    Answers (ClockKept s) (execQuietTimerExpiry l s) := by
  unfold execQuietTimerExpiry
  split
  · next e _ => dsimp only; split_ifs <;> exact linkEvent_keepsClock (t := e) rfl
  all_goals exact .refl s

theorem execIdleTimerExpiry_keepsClock (s : State) : Answers (ClockKept s) (execIdleTimerExpiry s) := by
  unfold execIdleTimerExpiry
  split
  · exact .refl s
  · next e _ => exact .of_timed (t := e) (by simp)

theorem execWakingTimerExpiry_keepsClock (s : State) : Answers (ClockKept s) (execWakingTimerExpiry s) := by
  unfold execWakingTimerExpiry
  split
  · next e _ => exact .of_timed (t := e) rfl
  all_goals exact .refl s

theorem execPatternExpiry_keepsClock (o : Out) (s : State) : Answers (ClockKept s) (execPatternExpiry o s) := by
  unfold execPatternExpiry
  split
  · exact .refl s
  · next p _ => exact .of_timed (t := p.expires) (by simp)

theorem execGroupTimerExpiry_keepsClock (s : State) : Answers (ClockKept s) (execGroupTimerExpiry s) := by
  unfold execGroupTimerExpiry
  split
  · exact .refl s
  · next e _ => exact .of_timed (t := e) (by simp)

theorem execOverrideTimerExpiry_keepsClock (s : State) : Answers (ClockKept s) (execOverrideTimerExpiry s) := by
  unfold execOverrideTimerExpiry
  split
  · exact .refl s
  · next e _ => exact .of_timed (t := e) rfl
  · next e _ => exact .of_timed (t := e) rfl

theorem execServiceTaken_keepsClock (t : Nat) (s : State) :
    Answers (ClockKept s) (execServiceTakenFall t s) ∧ Answers (ClockKept s) (execServiceTakenRise t s) := by
  unfold execServiceTakenFall execServiceTakenRise
  constructor <;> split_ifs <;> exact .of_timed (t := t) rfl

/-- The Period Clock is written by its own rows and the resets alone. -/
theorem exec_keepsClock {c : Instr} (h : writesClock c = false) (s : State) : Answers (ClockKept s) (exec c s) := by
  cases c with
  | tableOpen t => exact clockKept_takeOwned tableOpenOwner_leavesTime t s
  | tableData t => exact clockKept_takeOwned tableDataOwner_leavesTime t s
  | tableClose t => exact clockKept_takeOwned tableCloseOwner_leavesTime t s
  | tableDiscard t => exact clockKept_takeOwned tableDiscardOwner_leavesTime t s
  | swap t => exact clockKept_takeOwned swapOwner_leavesTime t s
  | gain t => exact clockKept_takeOwned gainOwner_leavesTime t s
  | cueAdd t => exact clockKept_takeOwned cueAddOwner_leavesTime t s
  | cueCancel t => exact clockKept_takeOwned cueCancelOwner_leavesTime t s
  | cueFlush t => exact clockKept_takeOwned (owner := cueFlushOwner) (fun _ _ _ => rfl) t s
  | report t => exact clockKept_takeOwned (owner := reportOwner) (fun _ _ _ => rfl) t s
  | route t => exact clockKept_takeOwned routeOwner_leavesTime t s
  | select t => exact clockKept_takeOwned selectOwner_leavesTime t s
  | configLock t => exact clockKept_takeOwned configLockOwner_leavesTime t s
  | configUnlock t => exact clockKept_takeOwned configUnlockOwner_leavesTime t s
  | setOutput t => exact clockKept_takeOwned setOutputOwner_leavesTime t s
  | flagsArm t => exact clockKept_takeOwned (owner := flagsArmOwner) (fun _ _ _ => rfl) t s
  | flagsClear t => exact clockKept_takeOwned (owner := flagsClearOwner) (fun _ _ _ => rfl) t s
  | status t => exact clockKept_takeOwned (owner := statusOwner) (fun _ _ _ => rfl) t s
  | pattern t => exact clockKept_takeOwned patternOwner_leavesTime t s
  | patternEnd t =>
    exact clockKept_takeOwned (owner := patternEndOwner) (fun _ _ s => timed_forOutputs timed_endPattern _ s) t s
  | standbyEnter t => exact clockKept_takeOwned standbyEnterOwner_leavesTime t s
  | standbyExit t => exact clockKept_takeOwned standbyExitOwner_leavesTime t s
  | standbyDelay t => exact clockKept_takeOwned standbyDelayOwner_leavesTime t s
  | softReset t => exact execSoftReset_keepsClock t s
  | unknownCommand t => exact clockKept_takeOwned (owner := unknownOwner) (fun _ _ _ => trivial) t s
  | initialisationEnd t => exact execInitialisationEnd_keepsClock t s
  | douserTimerExpiry o => exact execDouserTimerExpiry_keepsClock o s
  | openTimerExpiry o => exact execOpenTimerExpiry_keepsClock o s
  | signalPresent t l => exact execSignalPresent_keepsClock t l s
  | signalAbsent t l => exact execSignalAbsent_keepsClock t l s
  | signalLost l => exact execSignalLost_keepsClock l s
  | frameDelimiter t l => exact execFrameDelimiter_keepsClock t l s
  | frameHeader t l bytes => exact execFrameHeader_keepsClock t l bytes s
  | pixelLine t l bytes => exact execPixelLine_keepsClock t l bytes s
  | managementPacket t l bytes => exact execManagementPacket_keepsClock t l bytes s
  | linkAcquisitionTimeout l => exact execLinkAcquisitionTimeout_keepsClock l s
  | lossLimitExpiry l => exact execLossLimitExpiry_keepsClock l s
  | quietTimerExpiry l => exact execQuietTimerExpiry_keepsClock l s
  | verificationEnd t o k => exact .of_timed (timed_endVerification o k (s.advance t))
  | idleTimerExpiry => exact execIdleTimerExpiry_keepsClock s
  | wakingTimerExpiry => exact execWakingTimerExpiry_keepsClock s
  | patternExpiry o => exact execPatternExpiry_keepsClock o s
  | groupTimerExpiry => exact execGroupTimerExpiry_keepsClock s
  | overrideTimerExpiry => exact execOverrideTimerExpiry_keepsClock s
  | serviceTakenFall t => exact (execServiceTaken_keepsClock t s).1
  | serviceTakenRise t => exact (execServiceTaken_keepsClock t s).2
  | powerOnReset _ | resetPin _ | resetRelease _ | syncWord _ _ | generatorStart | trackingWindowClose
  | syncAcquisitionTimeout => cases h

/-! ### The invariant (R63 to R67) -/

theorem ClockOk.of_kept {s s' : State} (hs : ClockOk s) (h : ClockKept s s') : ClockOk s' := by
  obtain ⟨low, high, misses, state, held, last, released⟩ := hs
  unfold ClockOk
  rw [h.clock]
  exact ⟨low, high, misses, state, held, last.trans h.now, fun t ht => (released t ht).trans h.now⟩

theorem ClockOk.advance {s : State} (hs : ClockOk s) (t : Nat) : ClockOk (s.advance t) := hs.of_kept (.advance s t)

theorem ClockOk.of_timed_eq {s s' : State} (hs : ClockOk s) (h : s'.timed = s.timed) : ClockOk s' :=
  hs.of_kept ⟨congrArg Prod.fst h, (congrArg Prod.snd h).ge⟩

/-- The values of a reset, whatever the time. -/
theorem clockOk_of_reset {s : State} (h : s.clock = Clock.reset) : ClockOk s := by
  unfold ClockOk
  rw [h]
  exact ⟨by decide, by decide, by decide, trivial, fun _ => rfl, Nat.zero_le _, fun _ ht => by cases ht⟩

/-- A clock that has left UNSYNCED has been released. -/
theorem ClockOk.runs {s : State} (hs : ClockOk s) (h : s.clock.state ≠ .unsynced) : clockRuns s = true := by
  obtain ⟨-, -, -, -, held, -, -⟩ := hs
  refine Option.isSome_iff_ne_none.mpr fun hr => h ?_
  rw [held hr]; rfl

/-- A clock that runs may be given another state, and another record of the line. -/
theorem ClockOk.setState {s : State} (hs : ClockOk s) (hr : clockRuns s = true) {state : ClockState}
    (line : LineDecoder) (hstate : ClockStateOk { s.clock with state := state }) :
    ClockOk { s with clock := { s.clock with state := state, line := line } } := by
  obtain ⟨low, high, misses, -, -, last, released⟩ := hs
  exact ⟨low, high, misses, hstate, fun h => absurd h (Option.isSome_iff_ne_none.mp hr), last, released⟩

/-- The samplers and the mark of a word write the record of the line alone. -/
theorem ClockOk.setLine {s : State} (hs : ClockOk s) (hr : clockRuns s = true) (line : LineDecoder) :
    ClockOk { s with clock := { s.clock with line := line } } := by
  have state := hs
  obtain ⟨-, -, -, state, -⟩ := state
  exact hs.setState hr line state

/-- A start at the present time keeps the invariant if its P, its miss count and its state are as they should be. -/
theorem ClockOk.startClock {s : State} (hs : ClockOk s) (hr : clockRuns s = true) {state : ClockState}
    {period misses : Nat} (atMark : Bool) (low : 4000 ≤ period) (high : period ≤ 42000) (hm : misses ≤ maxMisses)
    (hstate : ClockStateOk (s.startClock state period misses atMark).clock) :
    ClockOk (s.startClock state period misses atMark) := by
  obtain ⟨-, -, -, -, -, -, released⟩ := hs
  exact ⟨low, high, hm, hstate, fun h => absurd h (Option.isSome_iff_ne_none.mp hr), le_rfl, released⟩

/-- A start that leaves TRACKING sets the window of R63 from itself. -/
theorem ClockOk.startTracking {s : State} (hs : ClockOk s) (hr : clockRuns s = true) (d : Period) {period misses : Nat}
    (atMark : Bool) (low : 4000 ≤ period) (high : period ≤ 42000) (hm : misses < missLimit) :
    ClockOk (s.startClock (trackingFrom d period s.now) period misses atMark) :=
  hs.startClock hr atMark low high (hm.le.trans (by decide)) ⟨hm, rfl, rfl⟩

/-- The start is made, or the state that it found is left. -/
theorem clockOk_makeStart {before s : State} (hb : ClockOk before) (hs : ClockOk s) : ClockOk (makeStart before s) := by
  unfold makeStart
  split_ifs
  · exact hb
  · exact hs.of_timed_eq (timed_periodStart before s)

/-! ### Sync words (R61 to R66) -/

theorem clampPeriod_mem (p : Nat) : 4000 ≤ clampPeriod p ∧ clampPeriod p ≤ 42000 := by
  unfold clampPeriod
  omega

theorem remeasured_mem {s : State} (hs : ClockOk s) (t : Nat) :
    4000 ≤ remeasured s.clock t ∧ remeasured s.clock t ≤ 42000 := by
  obtain ⟨low, high, -⟩ := hs
  unfold remeasured
  split_ifs
  · exact clampPeriod_mem _
  · exact ⟨low, high⟩

theorem followsReference_interval {r n : Period} {mark t : Nat} (h : followsReference r mark n t = true) :
    4000 ≤ t - mark ∧ t - mark ≤ 42000 := by
  simp only [followsReference, Bool.and_eq_true, decide_eq_true_eq] at h
  exact ⟨h.1.2, h.2⟩

theorem clockOk_becomeReference (n : Period) {s : State} (hs : ClockOk s) (hr : clockRuns s = true) :
    ClockOk (becomeReference n s) :=
  hs.setState hr _ rfl

theorem clockOk_startAtWord (d n : Period) {period : Nat} (low : 4000 ≤ period) (high : period ≤ 42000) {s : State}
    (hs : ClockOk s) (hr : clockRuns s = true) : ClockOk (startAtWord d n period s) :=
  clockOk_makeStart hs ((hs.startTracking hr n true low high (by decide)).of_timed_eq (timed_raiseIf _ _ _))

theorem clockOk_acceptWord (n : Period) {s : State} (hs : ClockOk s) (hr : clockRuns s = true) :
    ClockOk (acceptWord n s) := by
  unfold acceptWord
  split
  · exact clockOk_becomeReference n hs hr
  · split_ifs with follows
    · obtain ⟨low, high⟩ := followsReference_interval follows
      exact clockOk_makeStart hs (hs.startTracking hr n true low high (by decide))
    · exact clockOk_becomeReference n hs hr
  · split_ifs
    · obtain ⟨low, high⟩ := remeasured_mem hs s.now
      exact clockOk_startAtWord _ n low high hs hr
    · exact hs
  · have bounds := hs
    obtain ⟨low, high, -⟩ := bounds
    exact clockOk_startAtWord _ n low high hs hr

theorem execSyncWord_clockOk (t : Nat) (cells : BitVec 48) {s : State} (hs : ClockOk s) :
    Answers ClockOk (execSyncWord t cells s) := by
  unfold execSyncWord
  dsimp only
  split_ifs with hr haccepted
  · exact clockOk_acceptWord _ ((hs.advance t).setLine hr _) hr
  · exact (hs.advance t).setLine hr _
  · exact hs.advance t

/-! ### The generator, the window and the acquisition timer (R59, R61, R65, R66) -/

theorem generatorDue_runs {s : State} {e : Nat} (h : generatorDue s.clock = some e) : clockRuns s = true := by
  unfold generatorDue at h
  unfold clockRuns
  cases hr : s.clock.released with
  | none => simp [hr] at h
  | some t => rfl

theorem clockOk_generatorStart {s : State} (hs : ClockOk s) (hr : clockRuns s = true) : ClockOk (generatorStart s) := by
  have clock := hs
  obtain ⟨low, high, misses, state, -⟩ := clock
  unfold generatorStart
  split
  · exact clockOk_makeStart hs (hs.startClock hr false low high (min_le_left _ _) trivial)
  · next h =>
    rw [h]
    exact clockOk_makeStart hs (hs.startClock hr false low high misses trivial)
  · next h =>
    refine clockOk_makeStart hs (hs.startClock hr false low high misses ?_)
    unfold ClockStateOk at state ⊢
    simpa [h] using state
  · exact hs

theorem execGeneratorStart_clockOk {s : State} (hs : ClockOk s) : Answers ClockOk (execGeneratorStart s) := by
  unfold execGeneratorStart
  split
  · exact hs
  · next e due => exact clockOk_generatorStart (hs.advance e) (generatorDue_runs due)

/-- A miss below the third leaves TRACKING with the next window; the third enters FREERUN (R65). -/
theorem clockOk_missedStart (d : Period) {s : State} (hs : ClockOk s) (hr : clockRuns s = true)
    (hm : s.clock.misses < missLimit) : ClockOk (missedStart d s) := by
  have clock := hs
  obtain ⟨low, high, -⟩ := clock
  unfold missedStart
  dsimp only
  split_ifs with third
  · exact clockOk_makeStart hs (hs.startTracking hr _ false low high third)
  · have fits : s.clock.misses + 1 ≤ maxMisses := le_trans hm (by decide)
    exact clockOk_makeStart hs (hs.startClock hr false low high fits trivial)

theorem execTrackingWindowClose_clockOk {s : State} (hs : ClockOk s) :
    Answers ClockOk (execTrackingWindowClose s) := by
  unfold execTrackingWindowClose
  split
  · next d opens closes h =>
    have clock := hs
    obtain ⟨-, -, -, state, -⟩ := clock
    unfold ClockStateOk at state
    simp only [h] at state
    obtain ⟨misses, -, -⟩ := state
    exact clockOk_missedStart d (hs.advance closes) (hs.runs (by simp [h])) misses
  all_goals exact hs

theorem execSyncAcquisitionTimeout_clockOk {s : State} (hs : ClockOk s) :
    Answers ClockOk (execSyncAcquisitionTimeout s) := by
  unfold execSyncAcquisitionTimeout
  split
  · next r mark e h => exact (hs.advance e).setState (hs.runs (by simp [h])) _ trivial
  all_goals exact hs

/-! ### The release -/

/-- The release finds the clock at its reset values, and stands as the last start (log entry 27). -/
theorem execResetRelease_clockOk (t : Nat) {s : State} (hs : ClockOk s) : Answers ClockOk (execResetRelease t s) := by
  unfold execResetRelease
  dsimp only
  split_ifs with hr
  · exact hs.advance t
  · obtain ⟨low, high, misses, -, held, -, -⟩ := hs
    have reset : s.clock = Clock.reset := held (by simpa [clockRuns] using hr)
    refine ⟨low, high, misses, ?_, fun h => (by cases h), le_rfl, fun x hx => ?_⟩
    · simp only [ClockStateOk, State.advance_clock, reset, Clock.reset]
    · cases hx; exact le_rfl

/-! ### Every step -/

theorem exec_clockOk (c : Instr) {s : State} (hs : ClockOk s) : Answers ClockOk (exec c s) := by
  cases hw : writesClock c with
  | false =>
    have kept := exec_keepsClock hw s
    cases h : exec c s with
    | next s' => rw [h] at kept; exact hs.of_kept kept
    | fault _ | refused _ => trivial
  | true =>
    unfold writesClock at hw
    split at hw
    · exact clockOk_of_reset rfl
    · exact clockOk_of_reset rfl
    · exact execResetRelease_clockOk _ hs
    · exact execSyncWord_clockOk _ _ hs
    · exact execGeneratorStart_clockOk hs
    · exact execTrackingWindowClose_clockOk hs
    · exact execSyncAcquisitionTimeout_clockOk hs
    · cases hw

theorem clockOk_sampleSync (sample : Bool) {s : State} (hs : ClockOk s) : ClockOk (sampleSync sample s) := by
  unfold sampleSync
  dsimp only
  split_ifs with hr
  · split <;> exact (hs.setLine hr _).of_timed_eq rfl
  · exact hs

theorem clockOk_sampleService (sample : Bool) {s : State} (hs : ClockOk s) : ClockOk (sampleService sample s) := by
  unfold sampleService
  dsimp only
  split_ifs
  · split <;> exact hs.of_timed_eq rfl
  · exact hs

theorem clockOk_sampleTick {s : State} (hs : ClockOk s) : ClockOk (sampleTick s) := by
  unfold sampleTick
  split
  · exact hs
  · next x rest _ =>
    have taken : ClockOk (State.advance { s with samples := rest } x.time) := hs.of_kept (.of_timed (t := x.time) rfl)
    dsimp only
    split
    · exact clockOk_sampleSync _ taken
    · exact clockOk_sampleService _ taken

/-- Settles O58: the rows that write the clock keep its invariant, and the others leave the clock; so do the samples. -/
theorem stepKeepsTheClock : Obligations.StepKeepsTheClock := by
  unfold Obligations.StepKeepsTheClock
  intro s s' hs h
  have answers : Answers ClockOk (step s) := by
    unfold step
    split
    · exact exec_clockOk _ (hs.of_timed_eq rfl)
    · exact clockOk_sampleTick hs
  rw [h] at answers
  exact answers

end Sys2Proof.Machine
end

section
/-!
PROOFS. The starts of the Period Clock: at the mark of a word, by the generator, at the close of the tracking window;
and the words and expiries that make none.
-/
namespace Sys2Proof.Machine

open Sys2Proof

/-! ### A start at the present time (R71) -/

theorem resetWaits_eq (s : State) : resetWaits s = resetDue s s.now :=
  congrArg s.pending.any (funext fun c => by cases c <;> rfl)

/-- A start is made unless a reset waits that falls at the present time (log entry 28). -/
theorem makeStart_eq (before s : State) :
    makeStart before s = if resetDue before before.now then before else periodStart before s := by
  rw [makeStart, resetWaits_eq]

/-! ### The generator (R59, R66) -/

theorem exec_generatorStart {s : State} {e : Nat} (h : generatorDue s.clock = some e) :
    exec .generatorStart s = .next (generatorStart (s.advance e)) := by
  simp only [exec, execGeneratorStart, h]

/-- In UNSYNCED, ACQUIRING and FREERUN the generator's next start is due P after the last one. -/
theorem generatorDue_eq {c : Clock} (hr : c.released.isSome = true) (h : c.state.isTracking = false) :
    generatorDue c = some (c.lastStart.time + c.period) := by
  obtain ⟨t, ht⟩ := Option.isSome_iff_exists.mp hr
  unfold generatorDue
  cases hc : c.state with
  | unsynced | acquiring _ _ _ | freerun _ => simp only [ht]
  | tracking _ _ _ => simp [hc, ClockState.isTracking] at h

theorem generatorStart_freerun {s : State} {d : Period} (h : s.clock.state = .freerun d) :
    generatorStart s =
      makeStart s (s.startClock (.freerun (d + 1)) s.clock.period (min maxMisses (s.clock.misses + 1)) false) := by
  simp only [generatorStart, h]

theorem generatorStart_searching {s : State}
    (h : s.clock.state = .unsynced ∨ ∃ r mark x, s.clock.state = .acquiring r mark x) :
    generatorStart s = makeStart s (s.startClock s.clock.state s.clock.period s.clock.misses false) := by
  obtain h | ⟨r, mark, x, h⟩ := h <;> simp only [generatorStart, h]

/-- Settles O31: the generator's start in FREERUN, and in UNSYNCED and ACQUIRING. -/
theorem generatorPacesStarts : Obligations.GeneratorPacesStarts := by
  unfold Obligations.GeneratorPacesStarts
  rintro s e hr rfl
  refine ⟨fun d h => ?_, fun h => ?_⟩
  · have due : generatorDue s.clock = some (s.clock.lastStart.time + s.clock.period) :=
      generatorDue_eq hr (by rw [h]; rfl)
    rw [exec_generatorStart due, generatorStart_freerun (s := s.advance _) h, makeStart_eq]
    rfl
  · have due : generatorDue s.clock = some (s.clock.lastStart.time + s.clock.period) :=
      generatorDue_eq hr (by obtain h | ⟨r, mark, x, h⟩ := h <;> rw [h] <;> rfl)
    rw [exec_generatorStart due, generatorStart_searching (s := s.advance _) h, makeStart_eq]
    rfl

/-! ### The tracking window and the acquisition timer (R61, R65) -/

/-- Settles O32: the start that a window's close makes, and the acquisition timer. -/
theorem windowCloseAndAcquisitionTimeout : Obligations.WindowCloseAndAcquisitionTimeout := by
  unfold Obligations.WindowCloseAndAcquisitionTimeout
  refine ⟨fun s d opens closes h => ?_, fun s r mark e h => ?_⟩
  · have close : exec .trackingWindowClose s = .next (missedStart d (s.advance closes)) := by
      simp only [exec, execTrackingWindowClose, h]
    rw [close, missedStart, makeStart_eq]
    rfl
  · simp only [exec, execSyncAcquisitionTimeout, h]
    rfl

/-! ### Sync words (R57, R58, R61 to R66) -/

theorem dome_eq_some_iff (s : State) (d : Period) : s.dome = some d ↔
    (∃ opens closes, s.clock.state = .tracking d opens closes) ∨ s.clock.state = .freerun d := by
  unfold State.dome
  cases s.clock.state <;> simp [ClockState.dome]

/-- A word that is no sync word leaves the reception state alone to be written. -/
theorem exec_syncWord_refused {s : State} {cells : BitVec 48} (hr : s.clock.released.isSome = true)
    (h : ∀ n : Period, cells ≠ syncWordOf n) (t : Nat) :
    exec (.syncWord t cells) s = .next (decoderAtMark (s.advance t)) := by
  have refused : ¬syncWordAccepted cells = true := fun ha =>
    let ⟨n, hn⟩ := (syncWordAccepted_iff cells).mp ha
    h n hn
  simp only [exec, execSyncWord, clockRuns, hr, refused, if_true]
  rfl

theorem exec_syncWord_accepted {s : State} (hr : s.clock.released.isSome = true) (t : Nat) (n : Period) :
    exec (.syncWord t (syncWordOf n)) s = .next (acceptWord n (decoderAtMark (s.advance t))) := by
  have accepted : syncWordAccepted (syncWordOf n) = true := (syncWordAccepted_iff _).mpr ⟨n, rfl⟩
  simp only [exec, execSyncWord, clockRuns, hr, accepted, syncWordNumber_syncWordOf, if_true]

theorem followsReference_iff (r : Period) (mark : Nat) (n : Period) (t : Nat) :
    followsReference r mark n t = true ↔ n = r + 1 ∧ 4000 ≤ t - mark ∧ t - mark ≤ 42000 := by
  simp [followsReference, and_assoc]

/-! What an accepted word does in each state of the clock. -/

theorem acceptWord_unsynced {s : State} (h : s.clock.state = .unsynced) (n : Period) :
    acceptWord n s = becomeReference n s := by
  simp only [acceptWord, h]

theorem acceptWord_acquiring {s : State} {r : Period} {mark e : Nat} (h : s.clock.state = .acquiring r mark e)
    (n : Period) : acceptWord n s =
      if n = r + 1 ∧ 4000 ≤ s.now - mark ∧ s.now - mark ≤ 42000 then
        makeStart s (s.startClock (trackingFrom n (s.now - mark) s.now) (s.now - mark) 0 true)
      else becomeReference n s := by
  simp only [acceptWord, h, followsReference_iff]

theorem acceptWord_tracking {s : State} {d : Period} {opens closes : Nat}
    (h : s.clock.state = .tracking d opens closes) (n : Period) : acceptWord n s =
      if opens ≤ s.now ∧ s.now ≤ closes then startAtWord d n (remeasured s.clock s.now) s else s := by
  simp only [acceptWord, h]

theorem acceptWord_freerun {s : State} {d : Period} (h : s.clock.state = .freerun d) (n : Period) :
    acceptWord n s = startAtWord d n s.clock.period s := by
  simp only [acceptWord, h]

theorem startAtWord_eq (d n : Period) (period : Nat) (s : State) :
    startAtWord d n period s = if resetDue s s.now then s
      else periodStart s ((s.startClock (trackingFrom n period s.now) period 0 true).raiseIf (n != d + 1) .syncJump) :=
  makeStart_eq _ _

/-- Settles O30: which words are accepted, and what each does in each state of the clock. -/
theorem syncWordsAreJudgedAtTheirMark : Obligations.SyncWordsAreJudgedAtTheirMark := by
  unfold Obligations.SyncWordsAreJudgedAtTheirMark
  refine ⟨dome_eq_some_iff, fun s t hr => ?_⟩
  dsimp only
  refine ⟨fun cells h => exec_syncWord_refused hr h t, fun n => ?_⟩
  rw [exec_syncWord_accepted hr]
  have now : (decoderAtMark (s.advance t)).now = max s.now t := rfl
  refine ⟨fun h => ?_, fun r mark e h => ?_, fun d opens closes h => ?_, fun d h => ?_⟩
  · rw [acceptWord_unsynced (s := decoderAtMark (s.advance t)) h]; rfl
  · rw [acceptWord_acquiring (s := decoderAtMark (s.advance t)) h, now]
    refine ⟨fun fails => ?_, fun next low high => ?_⟩
    · rw [if_neg fails]; rfl
    · rw [if_pos ⟨next, low, high⟩, makeStart_eq]; rfl
  · rw [acceptWord_tracking (s := decoderAtMark (s.advance t)) h, now]
    refine ⟨fun outside => ?_, fun low high => ?_⟩
    · rw [if_neg (by omega)]; rfl
    · rw [if_pos ⟨low, high⟩, startAtWord_eq]; rfl
  · rw [acceptWord_freerun (s := decoderAtMark (s.advance t)) h, startAtWord_eq]; rfl

end Sys2Proof.Machine
end

section
/-!
PROOFS. The release of reset and the end of initialisation.
-/
namespace Sys2Proof.Machine

open Sys2Proof

/-! ### The release (R59, R72) -/

theorem exec_resetRelease {s : State} (h : s.clock.released = none) (t : Nat) :
    exec (.resetRelease t) s = .next { s with
      now := max s.now t
      clock := { s.clock with released := some (max s.now t), lastStart := ⟨max s.now t, false⟩ }
      pipelines := s.pipelines.map fun q => { q with raster := none } } := by
  simp only [exec, execResetRelease, clockRuns, h]
  rfl

/-- From the clock of a reset, the generator's first start is due 16,667 µs after the release (log entry 27). -/
theorem generatorDue_of_release {s s' : State} {t : Nat} (h : s.clock = Clock.reset)
    (hs' : exec (.resetRelease t) s = .next s') : generatorDue s'.clock = some (max s.now t + 16667) := by
  rw [exec_resetRelease (by rw [h]; rfl), h] at hs'
  cases hs'
  rfl

/-! ### The end of initialisation (R126, R179, R182) -/

/-- A port when its receiver is enabled at `now`: with a signal it begins to seek (R109, R126). -/
def Port.enabled (now : Nat) (q : Port) : Port :=
  if q.signal then { q with state := .seeking (now + 5000000), previous := none, frame := .none } else q

theorem enableReceiver_eq (l : Link) (s : State) :
    enableReceiver l s = s.setPort l ((s.ports.get l).enabled s.now) := by
  unfold enableReceiver Port.enabled
  split_ifs
  · rfl
  · cases l <;> rfl

theorem enableReceivers_eq (s : State) :
    enableReceiver .b (enableReceiver .a s) = { s with ports := s.ports.map (Port.enabled s.now) } := by
  rw [enableReceiver_eq, enableReceiver_eq]
  rfl

/-- A port that is OFF is OFF or SEEKING when its receiver is enabled. -/
theorem enabled_of_off {q : Port} (h : q.state = .off) (now : Nat) :
    (q.enabled now).state = .off ∨ ∃ expires, (q.enabled now).state = .seeking expires := by
  unfold Port.enabled
  split_ifs
  · exact .inr ⟨_, rfl⟩
  · exact .inl h

theorem enabled_isIdle {q : Port} (h : q.state = .off) (now : Nat) : (q.enabled now).state.isIdle = true := by
  obtain hq | ⟨expires, hq⟩ := enabled_of_off h now <;> (rw [hq]; rfl)

theorem enabled_isLocked {q : Port} (h : q.state = .off) (now : Nat) :
    q.state.isLocked = (q.enabled now).state.isLocked := by
  obtain hq | ⟨expires, hq⟩ := enabled_of_off h now
  · rw [hq, h]
  · rw [hq, h]; rfl

/-- The idle timer starts with the full delay in a part that is READY with both links idle, unless the delay is 0. -/
theorem idleTimerAfter_of_idle {s : State} (hready : s.part.state = .ready) (ha : s.ports.a.state.isIdle = true)
    (hb : s.ports.b.state.isIdle = true) (hstopped : s.part.idleTimer = none) :
    idleTimerAfter s =
      if s.part.standbyDelay = 0 then none else some (s.now + 1000000 * s.part.standbyDelay) := by
  simp [idleTimerAfter, idleCondition, hready, ha, hb, hstopped, seconds, Nat.mul_comm]

/-- While the part is INITIALIZING both links are OFF and the idle timer is stopped. -/
theorem PartOk.initializing {s : State} (hs : PartOk s) (h : s.part.state = .initializing) :
    (∀ l : Link, (s.ports.get l).state = .off) ∧ s.part.idleTimer = none := by
  obtain ⟨-, timer, state⟩ := hs
  rw [h] at state
  obtain ⟨-, links, -⟩ := state
  have stopped : idleCondition s = false := by simp [idleCondition, h]
  rw [stopped, Option.isSome_eq_false_iff, Option.isNone_iff_eq_none] at timer
  refine ⟨fun l => ?_, timer⟩
  obtain ⟨-, off, -⟩ := links l
  exact off

theorem endInitialisation_eq {s : State} (off : ∀ l : Link, (s.ports.get l).state = .off)
    (stopped : s.part.idleTimer = none) : endInitialisation s = { s with
      part := { s.part with
        state := .ready
        idleTimer := if s.part.standbyDelay = 0 then none else some (s.now + 1000000 * s.part.standbyDelay) }
      ports := s.ports.map (Port.enabled s.now) } := by
  have timer := idleTimerAfter_of_idle (s := { s.setPartState .ready with ports := s.ports.map (Port.enabled s.now) })
    rfl (enabled_isIdle (off .a) s.now) (enabled_isIdle (off .b) s.now) stopped
  rw [endInitialisation, enableReceivers_eq, keepIdleTimer]
  exact congrArg (fun timer => { s with
    part := { s.part with state := .ready, idleTimer := timer }, ports := s.ports.map (Port.enabled s.now) }) timer

/-- Settles O29: the release, the generator's first start after it, and the end of initialisation. -/
theorem releaseAndInitialisationEndBringThePartUp : Obligations.ReleaseAndInitialisationEndBringThePartUp := by
  unfold Obligations.ReleaseAndInitialisationEndBringThePartUp
  refine ⟨fun s t h => exec_resetRelease h t, fun s s' t h hs' => generatorDue_of_release h hs', fun s t hr hs h => ?_⟩
  obtain ⟨off, stopped⟩ := hs.initializing h
  have ended := endInitialisation_eq (s := s.advance t) off stopped
  have unchanged : levels (s.advance t) = levels (endInitialisation (s.advance t)) := by
    rw [ended]
    exact levels_ext (enabled_isLocked (off .a) _) (enabled_isLocked (off .b) _) rfl rfl rfl rfl rfl
      (by rw [State.advance_part, h]; rfl) rfl rfl rfl rfl
  have taken : exec (.initialisationEnd t) s
      = .next (latchEdges (s.advance t) (endInitialisation (s.advance t))) := by
    simp [exec, execInitialisationEnd, clockRuns, hr, h]
  rw [taken, latchEdges_of_levels_eq unchanged, ended]
  rfl

end Sys2Proof.Machine
end

section
/-!
PROOFS. One sample of the sync line or of the service line: the taken level, the reception of a word, the events.
-/
namespace Sys2Proof.Machine

open Sys2Proof

/-! ### The taken level (R56, R188) -/

theorem filterSample_same {level sample : Bool} (h : sample = level) (differing : Nat) :
    filterSample level differing sample = (level, 0) := if_pos h

theorem filterSample_before {level sample : Bool} {differing : Nat} (h : sample ≠ level) (hn : differing + 1 < 4) :
    filterSample level differing sample = (level, differing + 1) := by
  rw [filterSample, if_neg h, agreeing, if_pos hn]

theorem filterSample_fourth {level sample : Bool} {differing : Nat} (h : sample ≠ level) (hn : 4 ≤ differing + 1) :
    filterSample level differing sample = (sample, 0) := by
  rw [filterSample, if_neg h, agreeing, if_neg (Nat.not_lt.mpr hn)]

/-! ### The sync line (R56, R57) -/

/-- The cells stand latest first, so that cell 0 is the most significant bit. -/
theorem cellsWord_getLsbD {cells : List Bool} (h : cells.length = 48) {i : Nat} (hi : i < 48) :
    cells[i]? = some ((cellsWord cells).getLsbD i) := by
  have hlt : i < cells.length := h ▸ hi
  rw [cellsWord, BitVec.getLsbD_setWidth, decide_eq_true hi, Bool.true_and, BitVec.getLsbD_ofBoolListLE,
    List.getD_eq_getElem?_getD, List.getElem?_eq_getElem hlt]
  rfl

/-- The taken level after a sample of the sync line. -/
def LineDecoder.levelAfter (d : LineDecoder) (sample : Bool) : Bool := (filterSample d.level d.differing sample).1

/-- How long the taken level has been low after a sample. -/
def LineDecoder.lowAfter (d : LineDecoder) (sample : Bool) : Nat := lowRunAfter d (d.levelAfter sample)

/-- The line decoder after a sample. -/
def LineDecoder.sampled (d : LineDecoder) (sample : Bool) : LineDecoder where
  level := d.levelAfter sample
  differing := (filterSample d.level d.differing sample).2
  lowRun := d.lowAfter sample
  reception := (receptionAfter d (d.levelAfter sample) (d.lowAfter sample)).1

/-- The command of the word that ends at a sample taken at `now`. -/
def LineDecoder.judged (d : LineDecoder) (sample : Bool) (now : Nat) : List Instr :=
  ((receptionAfter d (d.levelAfter sample) (d.lowAfter sample)).2.map (Instr.syncWord now)).toList

theorem sampleSync_eq {s : State} (hr : clockRuns s = true) (sample : Bool) :
    sampleSync sample s = { s with
      clock := { s.clock with line := s.clock.line.sampled sample }
      pending := s.clock.line.judged sample s.now ++ s.pending } := by
  simp only [sampleSync, hr, if_true, LineDecoder.judged, LineDecoder.sampled, LineDecoder.lowAfter,
    LineDecoder.levelAfter]
  split <;> next h => simp [h]

theorem lowAfter_le (d : LineDecoder) (sample : Bool) : d.lowAfter sample ≤ 80 := by
  unfold LineDecoder.lowAfter lowRunAfter restSamples
  split_ifs <;> omega

theorem restSamples_le_lowAfter (d : LineDecoder) (sample : Bool) :
    restSamples ≤ d.lowAfter sample ↔ d.lowAfter sample = 80 := by
  have := lowAfter_le d sample
  unfold restSamples
  omega

/-- Waiting for rest: READY once the level has been low for 80 samples. -/
theorem sampled_waitingForRest {d : LineDecoder} (h : d.reception = .waitingForRest) (sample : Bool) (now : Nat) :
    d.judged sample now = []
    ∧ (d.sampled sample).reception = if (d.sampled sample).lowRun = 80 then .ready else .waitingForRest := by
  simp only [LineDecoder.judged, LineDecoder.sampled, receptionAfter, h, restSamples_le_lowAfter, and_true]
  rfl

/-- Ready: a taken rise starts cell 0. -/
theorem sampled_ready {d : LineDecoder} (h : d.reception = .ready) (sample : Bool) (now : Nat) :
    d.judged sample now = []
    ∧ (d.sampled sample).reception =
      if d.level = false ∧ (d.sampled sample).level = true then .receiving 0 [] else .ready := by
  simp only [LineDecoder.judged, LineDecoder.sampled, receptionAfter, h]
  refine ⟨rfl, if_congr ?_ rfl rfl⟩
  simp [and_comm]

/-- Receiving: the fifth sample of a cell is its value, up to the end of the word. -/
theorem sampled_receiving {d : LineDecoder} {elapsed : Nat} {cells : List Bool}
    (h : d.reception = .receiving elapsed cells) (hlt : elapsed + 1 < 480) (sample : Bool) (now : Nat) :
    d.judged sample now = []
    ∧ (d.sampled sample).reception = .receiving (elapsed + 1)
      (if (elapsed + 1) % 10 = 5 then (d.sampled sample).level :: cells else cells) := by
  simp only [LineDecoder.judged, LineDecoder.sampled, receptionAfter, h, wordSamples, cellSamples, hlt, if_true]
  exact ⟨rfl, rfl⟩

/-- The word is judged 480 samples after its cell 0 began. -/
theorem sampled_wordEnd {d : LineDecoder} {elapsed : Nat} {cells : List Bool}
    (h : d.reception = .receiving elapsed cells) (hend : elapsed + 1 = 480) (sample : Bool) (now : Nat) :
    d.judged sample now = [.syncWord now (cellsWord cells)] ∧ (d.sampled sample).reception = .waitingForRest := by
  simp only [LineDecoder.judged, LineDecoder.sampled, receptionAfter, h, wordSamples, cellSamples, hend]
  exact ⟨rfl, rfl⟩

theorem step_of_sample {s : State} {x : LineSample} {rest : List LineSample} (hp : s.pending = [])
    (hs : s.samples = x :: rest) :
    let taken := State.advance { s with samples := rest } x.time
    (x.line = .sync → step s = .next (sampleSync x.level taken))
    ∧ (x.line = .service → step s = .next (sampleService x.level taken)) := by
  have tick : step s = .next (sampleTick s) := by simp only [step, hp]
  rw [tick]
  constructor <;> intro hx <;> simp only [sampleTick, hs, hx]

theorem step_of_syncSample {s : State} {x : LineSample} {rest : List LineSample} (hp : s.pending = [])
    (hs : s.samples = x :: rest) (hx : x.line = .sync) (hr : s.clock.released.isSome = true) :
    step s = .next { s with
      now := max s.now x.time, samples := rest
      clock := { s.clock with line := s.clock.line.sampled x.level }
      pending := s.clock.line.judged x.level (max s.now x.time) } := by
  rw [(step_of_sample hp hs).1 hx, sampleSync_eq (s := State.advance { s with samples := rest } x.time) hr]
  simp only [State.advance_pending, hp, List.append_nil]
  rfl

/-! ### The service line (R188) -/

/-- The command of a change of the service line's taken level at `now`. -/
def takenChange (old new : Bool) (now : Nat) : List Instr :=
  if new = old then [] else [if new then .serviceTakenRise now else .serviceTakenFall now]

theorem sampleService_eq {s : State} (h : s.part.state ≠ .initializing) (sample : Bool) :
    sampleService sample s = { s with
      part := { s.part with decoder := { s.part.decoder with
        differing := (filterSample s.part.decoder.level s.part.decoder.differing sample).2 } }
      pending := takenChange s.part.decoder.level
        (filterSample s.part.decoder.level s.part.decoder.differing sample).1 s.now ++ s.pending } := by
  have runs : decoderRuns s = true := by simpa [decoderRuns] using h
  simp only [sampleService, runs, if_true]
  split <;> next hold hnew => rw [takenChange, hnew, hold]; rfl

theorem step_of_serviceSample {s : State} {x : LineSample} {rest : List LineSample} (hp : s.pending = [])
    (hs : s.samples = x :: rest) (hx : x.line = .service) (h : s.part.state ≠ .initializing) {level : Bool}
    {differing : Nat} (hf : filterSample s.part.decoder.level s.part.decoder.differing x.level = (level, differing)) :
    step s = .next { s with
      now := max s.now x.time, samples := rest
      part := { s.part with decoder := { s.part.decoder with differing := differing } }
      pending := takenChange s.part.decoder.level level (max s.now x.time) } := by
  rw [(step_of_sample hp hs).2 hx, sampleService_eq (s := State.advance { s with samples := rest } x.time) h]
  simp only [State.advance_part, State.advance_pending, hp, hf, List.append_nil]
  rfl

/-- Settles O51: a sample of the sync line, reception state by reception state, and a sample of the service line. -/
theorem takenLevelsChangeAtTheFourthSample : Obligations.TakenLevelsChangeAtTheFourthSample := by
  unfold Obligations.TakenLevelsChangeAtTheFourthSample
  refine ⟨fun cells h i hi => cellsWord_getLsbD h hi, fun s x rest hp hs => ?_⟩
  dsimp only
  refine ⟨fun hx hr => ?_, fun hx h => ⟨fun same => ?_, fun differs few => ?_, fun differs four => ?_⟩⟩
  · refine ⟨_, step_of_syncSample hp hs hx hr, rfl, fun same => ?_, fun differs few => ?_, fun differs four => ?_, rfl,
      fun h => sampled_waitingForRest h _ _, fun h => sampled_ready h _ _, fun elapsed cells h =>
      ⟨fun hlt => sampled_receiving h hlt _ _, fun hend => sampled_wordEnd h hend _ _⟩⟩
    · simp only [LineDecoder.sampled, LineDecoder.levelAfter, filterSample_same same, and_self]
    · simp only [LineDecoder.sampled, LineDecoder.levelAfter, filterSample_before differs few, and_self]
    · simp only [LineDecoder.sampled, LineDecoder.levelAfter, filterSample_fourth differs four, and_self]
  · rw [step_of_serviceSample hp hs hx h (filterSample_same same _), takenChange, if_pos rfl]
  · rw [step_of_serviceSample hp hs hx h (filterSample_before differs few), takenChange, if_pos rfl]
  · rw [step_of_serviceSample hp hs hx h (filterSample_fourth differs four), takenChange, if_neg differs]

end Sys2Proof.Machine
end

section
/-!
PROOFS. The two controllers at a period start: what each reads is as the Period Clock's start has set it, whatever the
other blocks and the other controller have done; and which of a start's work raises STARVED.
-/
namespace Sys2Proof.Machine

open Sys2Proof

/-! ### The frame for D (R97) -/

theorem isFrameFor_iff (d : Period) (x : Slot) :
    x.isFrameFor d = true ↔ ∃ (f : Frame) (v : PerOut Bool), x = .complete f v ∧ f.target = d := by
  cases x <;> simp [Slot.isFrameFor]

theorem frameForD_some {s : State} {l : Link} {i : SlotId} (h : frameForD s l = some i) :
    i.link = l ∧ ∃ (f : Frame) (v : PerOut Bool), s.slot i = .complete f v ∧ s.dome = some f.target := by
  unfold frameForD at h
  cases hd : s.dome with
  | none => simp [hd] at h
  | some d =>
    simp only [hd, Option.map_eq_some_iff] at h
    obtain ⟨j, hj, rfl⟩ := h
    obtain ⟨f, v, hslot, htarget⟩ := (isFrameFor_iff d _).mp (Quad.find_some hj)
    exact ⟨rfl, f, v, hslot, by rw [htarget]⟩

theorem frameForD_isSome {s : State} {l : Link} {j : SlotIndex} {f : Frame} {v : PerOut Bool}
    (hslot : s.slot ⟨l, j⟩ = .complete f v) (hd : s.dome = some f.target) : (frameForD s l).isSome = true := by
  simp only [frameForD, hd, Option.isSome_map]
  by_contra h
  rw [Option.not_isSome_iff_eq_none] at h
  have holds : (s.slot ⟨l, j⟩).isFrameFor f.target = true := (isFrameFor_iff _ _).mpr ⟨f, v, hslot, rfl⟩
  exact Bool.false_ne_true ((Quad.find_none h j).symm.trans holds)

theorem Quad.find_congr {α : Type} {q r : Quad α} {f : α → Bool} (h : ∀ i : SlotIndex, f (q.get i) = f (r.get i)) :
    q.find f = r.find f := by
  have h0 : f q.s0 = f r.s0 := h .i0
  have h1 : f q.s1 = f r.s1 := h .i1
  have h2 : f q.s2 = f r.s2 := h .i2
  have h3 : f q.s3 = f r.s3 := h .i3
  simp only [Quad.find, h0, h1, h2, h3]

/-- The slots that hold the frame for D are the same ones in two states. -/
def SameFrames (s s' : State) : Prop :=
  s'.dome = s.dome ∧ ∀ d ∈ s.dome, ∀ i : SlotId, (s'.slot i).isFrameFor d = (s.slot i).isFrameFor d

theorem SameFrames.refl (s : State) : SameFrames s s := ⟨rfl, fun _ _ _ => rfl⟩

theorem SameFrames.trans {s t u : State} (h : SameFrames s t) (h' : SameFrames t u) : SameFrames s u := by
  obtain ⟨dome, slots⟩ := h
  obtain ⟨dome', slots'⟩ := h'
  exact ⟨dome'.trans dome, fun d hd i => (slots' d (dome ▸ hd) i).trans (slots d hd i)⟩

theorem SameFrames.frameForD {s s' : State} (h : SameFrames s s') (l : Link) : frameForD s' l = frameForD s l := by
  obtain ⟨dome, slots⟩ := h
  unfold Machine.frameForD
  rw [dome]
  cases hd : s.dome with
  | none => rfl
  | some d => exact congrArg (Option.map _) (Quad.find_congr fun j => slots d hd ⟨l, j⟩)

/-! ### Changes of viewers leave the frame for D (R98, R101, R139) -/

/-- A frame for D does not meet the release test. -/
theorem releasable_self (d : Period) : releasable d d = false := by
  simp [releasable, before, laterThan, atOrBefore]

theorem isFrameFor_join (o : Out) (d : Period) (x : Slot) : (x.join o).isFrameFor d = x.isFrameFor d := by
  cases x <;> rfl

/-- A slot freed as its last viewer leaves did not hold the frame for D. -/
theorem isFrameFor_leave (o : Out) (d : Period) (x : Slot) : (x.leave o (some d)).isFrameFor d = x.isFrameFor d := by
  cases x with
  | free | filling _ => rfl
  | complete f v =>
    simp only [Slot.leave, Slot.release]
    split_ifs with h
    · rw [Bool.and_eq_true] at h
      obtain ⟨-, passed⟩ := h
      have other : f.target ≠ d := fun ht => by
        rw [ht, releasable_self] at passed
        exact Bool.false_ne_true passed
      exact (beq_eq_false_iff_ne.mpr other).symm
    · rfl

theorem sameFrames_setSlot {s : State} {i : SlotId} {x : Slot}
    (h : ∀ d ∈ s.dome, x.isFrameFor d = (s.slot i).isFrameFor d) : SameFrames s (s.setSlot i x) := by
  refine ⟨rfl, fun d hd j => ?_⟩
  by_cases hj : j = i
  · rw [hj, State.slot_setSlot_same, h d hd]
  · rw [State.slot_setSlot_other s x hj]

theorem sameFrames_moveViewer (o : Out) (old new : Option SlotId) (s : State) :
    SameFrames s (moveViewer o old new s) := by
  have left : ∀ i : SlotId, SameFrames s (s.setSlot i ((s.slot i).leave o s.dome)) := fun i =>
    sameFrames_setSlot fun d hd => by rw [Option.mem_def.mp hd, isFrameFor_leave]
  have joined : ∀ (t : State) (i : SlotId), SameFrames t (t.setSlot i ((t.slot i).join o)) := fun t i =>
    sameFrames_setSlot fun d _ => isFrameFor_join o d _
  unfold moveViewer
  split_ifs
  · exact .refl s
  · cases old with
    | none => cases new with
      | none => exact .refl s
      | some j => exact joined s j
    | some i => cases new with
      | none => exact left i
      | some j => exact (left i).trans (joined _ j)

theorem sameFrames_controllerWork (o : Out) (s : State) : SameFrames s (controllerWork o s) := by
  unfold controllerWork
  dsimp only
  refine SameFrames.trans ?_ (sameFrames_moveViewer o _ _ _)
  rw [raiseIf_eq]
  exact .refl s

/-! ### What a controller reads (R130, R140, R141) -/

/-- The controller of an output and all that it reads at a start are the same in two states. -/
structure SameForOutput (o : Out) (s s' : State) : Prop where
  controller : s'.controllers.get o = s.controllers.get o
  part : s'.part = s.part
  now : s'.now = s.now
  ports : s'.ports = s.ports
  frames : SameFrames s s'

theorem controllerAtStart_congr {o : Out} {s s' : State} (h : SameForOutput o s s') :
    controllerAtStart o s' = controllerAtStart o s := by
  have frames := h.frames.frameForD
  obtain ⟨controller, part, now, ports, dome, -⟩ := h
  have view : ∀ (selected : Bool) (r : Route), startView o selected r s' = startView o selected r s := fun _ _ => by
    simp only [startView, settleTest, part, now, ports, frames]
  simp only [controllerAtStart, controller, part, dome, view]

/-- The verifications and the scheduler's work leave what the controllers read. -/
theorem sameForOutput_scheduler (o : Out) (s : State) :
    SameForOutput o s (schedulerWork (verificationsAtStart s)) := by
  rw [schedulerWork_part, verificationsAtStart_eq]
  exact ⟨rfl, rfl, rfl, rfl, .refl s⟩

/-- The work of one controller leaves what the other reads. -/
theorem sameForOutput_controllerWork {o q : Out} (h : q ≠ o) (s : State) : SameForOutput q s (controllerWork o s) := by
  have frames := sameFrames_controllerWork o s
  rw [controllerWork_eq] at frames ⊢
  exact ⟨PerOut.get_set_other _ _ h, rfl, rfl, rfl, frames⟩

theorem showing_iff (x : OutputState) : x.showing = true ↔ x ≠ .dark ∧ x ≠ .opening := by
  cases x <;> decide

/-- The settle test as R140 has it. -/
theorem settleTest_eq (s : State) (r : Route) : settleTest s r =
    match r.primary with
    | none => false
    | some l =>
      match (s.ports.get l).state with
      | .locked _ since => decide (1000000 * r.settle ≤ s.now - since)
      | _ => false := by
  unfold settleTest seconds
  cases r.primary with
  | none => rfl
  | some l =>
    dsimp only
    rw [Nat.mul_comm]
    cases (s.ports.get l).state <;> rfl

/-- The three steps of a controller, with and without a pending route, with and without a pending select. -/
theorem controllerLeft_eq (s : State) (o : Out) : controllerLeft s o = controllerAtStart o s := by
  cases route : (s.controllers.get o).pendingRoute <;> cases select : (s.controllers.get o).pendingSelect <;>
    simp only [controllerLeft, controllerAtStart, Controller.applyRoute, Controller.applySelect, route, select,
      startView, settleTest_eq, Bool.and_eq_true, showing_iff, and_assoc, Bool.or_eq_true, Option.isNone_iff_eq_none]
  all_goals split_ifs <;> rfl

/-! ### The controllers at a start (R60, R130) -/

/-- The controllers after both have worked: each as it takes the start from what the scheduler has left. -/
theorem controllers_controllerWork (w : State) (o : Out) :
    (controllerWork .out1 (controllerWork .out0 w)).controllers.get o = (controllerAtStart o w).1 := by
  have second := controllerAtStart_congr (sameForOutput_controllerWork (o := .out0) (q := .out1) (by decide) w)
  rw [controllerWork_eq .out1, second]
  cases o with
  | out0 =>
    rw [controllerWork_eq .out0]
    rfl
  | out1 => rfl

theorem controllers_releaseWork (s : State) : (releaseWork s).controllers = s.controllers := by
  rw [releaseWork_eq]

theorem controllers_beginRasters (s : State) : (beginRasters (applyFormats s)).controllers = s.controllers := rfl

theorem controllers_sendReturnFrames (before s : State) :
    (sendReturnFrames (latchEdges before s)).controllers = s.controllers := rfl

theorem controllers_periodStart (before s : State) (o : Out) :
    (periodStart before s).controllers.get o = (controllerLeft s o).1 := by
  rw [periodStart, controllers_sendReturnFrames, startWork, controllers_beginRasters, controllers_releaseWork,
    controllers_controllerWork, controllerAtStart_congr (sameForOutput_scheduler o s), controllerLeft_eq]

/-! ### STARVED (R134, R168) -/

/-- The flag of STARVED. -/
def State.starvedFlag (s : State) : Bool := s.flagUnit.flags.getLsbD 23

theorem starvedFlag_raiseIf (s : State) (b : Bool) {e : Event} (he : e.number ≠ 23) :
    (s.raiseIf b e).starvedFlag = s.starvedFlag := by
  rw [State.starvedFlag, raiseIf_flag s b e (by decide), beq_eq_false_iff_ne.mpr he.symm, Bool.false_and,
    Bool.and_false, Bool.or_false]
  rfl

theorem starvedFlag_fireCue (d : Period) (s : State) (c : Cue) : (fireCue d s c).starvedFlag = s.starvedFlag := by
  rw [fireCue, State.starvedFlag, appendOutcome_flag _ _ (by decide), fireAction_flagUnit]
  simp [State.starvedFlag]

/-- The Cue Scheduler raises events of its outcomes alone. -/
theorem starvedFlag_schedulerWork (s : State) : (schedulerWork s).starvedFlag = s.starvedFlag := by
  unfold schedulerWork
  cases s.dome with
  | none => rfl
  | some d =>
    have fades : (stepFade .out1 (stepFade .out0 s)).flagUnit = s.flagUnit :=
      (stepFade_flagUnit _ _).trans (stepFade_flagUnit _ _)
    have swaps :=
      foldl_keeps (view := State.flagUnit) carryOutSwap_flagUnit allPairs (stepFade .out1 (stepFade .out0 s))
    have cues : ∀ t : State, (fireCues d t).starvedFlag = t.starvedFlag := fun t =>
      foldl_keeps (view := State.starvedFlag) (starvedFlag_fireCue d) _
        { t with cues := t.cues.filter fun c => !atOrBefore c.target d }
    exact (cues _).trans (congrArg (·.flags.getLsbD 23) (swaps.trans fades))

theorem starvedFlag_dropFilling (l : Link) (cause : DropCause) (s : State) :
    (dropFilling l cause s).starvedFlag = s.starvedFlag := by
  unfold dropFilling
  cases fillingIndex s l with
  | none => rfl
  | some i => exact starvedFlag_raiseIf _ true (e := .frameDrop l) (by cases l <;> decide)

theorem starvedFlag_testFilling (l : Link) (s : State) : (testFilling l s).starvedFlag = s.starvedFlag := by
  obtain h | ⟨cause, h⟩ := testFilling_cases l s <;> rw [h]
  exact starvedFlag_dropFilling l cause s

/-- The release raises FRAME_DROP alone. -/
theorem starvedFlag_releaseWork (s : State) : (releaseWork s).starvedFlag = s.starvedFlag :=
  (starvedFlag_testFilling .b _).trans (starvedFlag_testFilling .a _)

/-- A controller's work sets the flag of STARVED, by its enable, if its rule says so. -/
theorem starvedFlag_controllerWork (o : Out) (s : State) :
    (controllerWork o s).starvedFlag =
      (s.starvedFlag || (s.flagUnit.rising.getLsbD 23 && (controllerAtStart o s).2)) := by
  unfold controllerWork
  dsimp only
  rw [moveViewer_eq]
  exact raiseIf_flag (s.setController o _) _ .starved (by decide)

theorem starvedFlag_startWork (s : State) :
    (startWork s).starvedFlag = (s.starvedFlag || (s.flagUnit.rising.getLsbD 23 &&
      ((controllerLeft s .out0).2 || (controllerLeft s .out1).2))) := by
  have verified : (verificationsAtStart s).flagUnit = s.flagUnit := by rw [verificationsAtStart_eq]
  generalize hw : schedulerWork (verificationsAtStart s) = w
  have found : w.starvedFlag = s.starvedFlag := by
    rw [← hw, starvedFlag_schedulerWork, State.starvedFlag, verified, State.starvedFlag]
  have enable : w.flagUnit.rising = s.flagUnit.rising := by
    rw [← hw, (schedulerWork_startFlags _).rising, verified]
  have work :
      (startWork s).starvedFlag = (releaseWork (controllerWork .out1 (controllerWork .out0 w))).starvedFlag := by
    rw [State.starvedFlag, startWork, beginRasters_flagUnit, hw, State.starvedFlag]
  have first : controllerAtStart .out0 w = controllerLeft s .out0 := by
    rw [← hw, controllerAtStart_congr (sameForOutput_scheduler .out0 s), controllerLeft_eq]
  have second : controllerAtStart .out1 (controllerWork .out0 w) = controllerLeft s .out1 := by
    rw [controllerAtStart_congr (sameForOutput_controllerWork (by decide) w), ← hw,
      controllerAtStart_congr (sameForOutput_scheduler .out1 s), controllerLeft_eq]
  rw [work, starvedFlag_releaseWork, starvedFlag_controllerWork, starvedFlag_controllerWork,
    (controllerWork_startFlags _ _).rising, first, second, found, enable, Bool.or_assoc, ← Bool.and_or_distrib_left]

/-- Settles O38: each controller's steps from the state as the clock has set it, STARVED, and the frame for D. -/
theorem controllersActIndependently : Obligations.ControllersActIndependently := by
  unfold Obligations.ControllersActIndependently
  refine ⟨fun before s => ⟨controllers_periodStart before s, ?_⟩, fun s l i h => frameForD_some h,
    fun s l j f v hslot hd => frameForD_isSome hslot hd⟩
  rw [periodStart_flag before s (by decide), decide_eq_false (by decide), Bool.false_and, Bool.or_false]
  exact starvedFlag_startWork s

end Sys2Proof.Machine
end

section
/-!
PROOFS. SET_OUTPUT: the tests of its owner in their order, and the whole next state.
-/
namespace Sys2Proof.Machine

open Sys2Proof

theorem isSet_iff (k : Lock) : k.isSet = true ↔ k ≠ .none := by
  cases k <;> decide

/-- What a mask changes, output by output. -/
theorem mapWhere_eq_forOuts {α : Type} (p : PerOut α) (m : Mask) (f : α → α) :
    p.mapWhere m f = forOuts fun o => if m.get o then f (p.get o) else p.get o := rfl

/-- The owner's tests in their order, on the state that the taking of the packet leaves (R74). -/
theorem setOutputOwner_dequeue {p : Packet} {e : OutputEncoding} (he : outputEncodingNamed (p.u8 4) = some e) (l : Link)
    (rest : List Packet) (s : State) (t : Nat) :
    setOutputOwner l p (dequeue l rest (s.advance t)) =
      if (p.u16 0).toNat < 640 ∨ 4096 < (p.u16 0).toNat ∨ (p.u16 2).toNat < 480 ∨ 2400 < (p.u16 2).toNat then
        .refuse .badParam []
      else if s.engine.lock ≠ .none then .refuse .locked []
      else if s.controllers.anyWhere p.outputs fun c => c.state != .dark then .refuse .notDark []
      else .accept { dequeue l rest (s.advance t) with
        pipelines := forOuts fun o =>
          if p.outputs.get o then
            { s.pipelines.get o with pendingFormat := some ⟨(p.u16 0).toNat, (p.u16 2).toNat, e⟩ }
          else s.pipelines.get o } [] := by
  have size : (!(decide (640 ≤ (p.u16 0).toNat) && decide ((p.u16 0).toNat ≤ 4096) && decide (480 ≤ (p.u16 2).toNat)
      && decide ((p.u16 2).toNat ≤ 2400))) = true ↔ (p.u16 0).toNat < 640 ∨ 4096 < (p.u16 0).toNat
        ∨ (p.u16 2).toNat < 480 ∨ 2400 < (p.u16 2).toNat := by
    simp only [Bool.not_eq_true', Bool.and_eq_false_iff, decide_eq_false_iff_not, not_le, or_assoc]
  simp only [setOutputOwner, outputEncodingOf_eq, he, size, isSet_iff, mapWhere_eq_forOuts]
  rfl

/-- Settles O18: the owner's refusals in the order of R74, each followed to its answer, and the pending formats of an
accepted SET_OUTPUT, which leaves every level. -/
theorem setOutputSetsThePendingFormat : Obligations.SetOutputSetsThePendingFormat := by
  unfold Obligations.SetOutputSetsThePendingFormat
  intro s t l p rest h hcode hlength hmask
  have hn : (p.code == 0x38#8) = true := beq_iff_eq.mpr hcode
  have hl : (p.payload.length == 5) = true := beq_iff_eq.mpr hlength
  refine congrArg Host.Outcome.next ?_
  cases he : outputEncodingNamed (p.u8 4) with
  | none => exact takeOwned_answered_of_refuse h hn hl hmask (by simp [setOutputOwner, outputEncodingOf_eq, he])
  | some e =>
    have owner := setOutputOwner_dequeue he l rest s t
    dsimp only
    split_ifs with hsize hlock hdark
    · exact takeOwned_answered_of_refuse h hn hl hmask (owner.trans (if_pos hsize))
    all_goals rw [if_neg hsize] at owner
    · exact takeOwned_answered_of_refuse h hn hl hmask (owner.trans (if_pos hlock))
    all_goals rw [if_neg hlock] at owner
    · exact takeOwned_answered_of_refuse h hn hl hmask (owner.trans (if_pos hdark))
    · rw [if_neg hdark] at owner
      exact Eq.trans (takeOwned_accepted_of_levels_eq h hn hl hmask owner rfl) rfl

end Sys2Proof.Machine
end

section
/-!
PROOFS. Standby entry on every record of the part, and the flags of an event that raises events and makes edges.
-/
namespace Sys2Proof.Machine

open Sys2Proof

/-! ### The flags of one event (R167, R168, R170) -/

/-- An event that raises the listed events, each by its enable, and whose edges are then latched. -/
theorem flagsLatched_latchEdges {s u : State} {events : List Nat} (rising : u.flagUnit.rising = s.flagUnit.rising)
    (falling : u.flagUnit.falling = s.flagUnit.falling)
    (raised : ∀ n : Nat, n < 24 → u.flagUnit.flags.getLsbD n =
      (s.flagUnit.flags.getLsbD n || (s.flagUnit.rising.getLsbD n && events.contains n))) :
    flagsLatched s (latchEdges s u) events := by
  refine ⟨rising, falling, fun n hn => ?_⟩
  have latched : (latchEdges s u).flagUnit.flags.getLsbD n =
      (u.flagUnit.flags.getLsbD n || (edgeFlags u.flagUnit (levels s) (levels u)).getLsbD n) := BitVec.getLsbD_or
  change _ = (_ || (_ && (_ || (!(levels s).getLsbD n && (levels u).getLsbD n))) ||
    (_ && (levels s).getLsbD n && !(levels u).getLsbD n))
  rw [latched, raised n hn, edgeFlags_getLsbD _ _ _ n hn, rising, falling]
  by_cases level : n < 12
  · rw [decide_eq_true level, Bool.true_and, Bool.and_or_distrib_left]
    ac_rfl
  · have absent : ∀ x : BitVec 12, x.getLsbD n = false := fun x => BitVec.getLsbD_of_ge x n (not_lt.mp level)
    simp [level, absent]

/-! ### A frame being filled is dropped (R93, R95) -/

/-- The FILLING slot of a link, if it has one, is freed with a cause, and FRAME_DROP is raised. -/
theorem dropFilling_eq_raiseIf (l : Link) (cause : DropCause) (s : State) :
    dropFilling l cause s =
      State.raiseIf { s with store := fillingDropped s l cause } (fillingIndex s l).isSome (.frameDrop l) := by
  unfold dropFilling fillingDropped
  cases fillingIndex s l with
  | none => rfl
  | some i => cases l <;> rfl

theorem fillingDropped_other (s : State) {l m : Link} (cause : DropCause) (h : m ≠ l) :
    (fillingDropped s l cause).get m = s.store.get m := by
  unfold fillingDropped
  cases fillingIndex s l with
  | none => rfl
  | some i => exact PerLink.get_set_other _ _ h

/-- A drop on one link leaves what another link is filling. -/
theorem fillingIndex_dropFilling_other (s : State) {l m : Link} (cause : DropCause) (h : m ≠ l) :
    fillingIndex (dropFilling l cause s) m = fillingIndex s m := by
  rw [dropFilling_eq_raiseIf, raiseIf_eq]
  exact congrArg (fun st : LinkStore => st.slots.find Slot.isFilling) (fillingDropped_other s cause h)

/-! ### Standby entry (R102, R148, R180) -/

/-- A link's store after standby entry: every slot FREE, and the cause of a frame that was being filled (R102). -/
def storeInStandby (s : State) (l : Link) : LinkStore :=
  ⟨⟨.free, .free, .free, .free⟩, (s.store.get l).leads,
    if (fillingIndex s l).isSome then .standby else (s.store.get l).lastDrop⟩

theorem freeAll_fillingDropped (s : State) (l : Link) :
    ((fillingDropped s l .standby).get l).freeAll = storeInStandby s l := by
  unfold fillingDropped storeInStandby
  cases fillingIndex s l with
  | none => rfl
  | some i => cases l <;> rfl

/-- What reads and writes no flag may be done before an event is raised as well as after it. -/
theorem apply_raiseIf {f : State → State}
    (hf : ∀ (s : State) (u : FlagUnit), f { s with flagUnit := u } = { f s with flagUnit := u }) (s : State) (b : Bool)
    (e : Event) : f (s.raiseIf b e) = (f s).raiseIf b e := by
  have flags : (f s).flagUnit = s.flagUnit := by
    rw [show f s = _ from hf s s.flagUnit]
  cases b with
  | false => rfl
  | true =>
    simp only [State.raiseIf, State.raise, if_true, flags]
    split_ifs
    · exact hf s _
    · rfl

theorem raiseIf_store (s : State) (b : Bool) (e : Event) : (s.raiseIf b e).store = s.store := by
  rw [raiseIf_eq]

/-- The store after both drops, with every slot freed. -/
theorem freeAll_dropFilling (s : State) :
    (dropFilling .b .standby (dropFilling .a .standby s)).store.map LinkStore.freeAll =
      ⟨storeInStandby s .a, storeInStandby s .b⟩ := by
  have other : fillingIndex (dropFilling .a .standby s) .b = fillingIndex s .b :=
    fillingIndex_dropFilling_other s .standby (by decide)
  have first : (dropFilling .a .standby s).store = fillingDropped s .a .standby := by
    rw [dropFilling_eq_raiseIf, raiseIf_store]
  have kept : (fillingDropped s .a .standby).get .b = s.store.get .b := fillingDropped_other s .standby (by decide)
  rw [dropFilling_eq_raiseIf .b, raiseIf_store, PerLink.map]
  congr 1
  · rw [← freeAll_fillingDropped, ← first]
    exact congrArg LinkStore.freeAll (fillingDropped_other (l := .b) (m := .a) _ .standby (by decide))
  · refine (freeAll_fillingDropped _ .b).trans ?_
    rw [storeInStandby, other, first, kept, storeInStandby]

theorem withStore_raiseIf (x : PerLink LinkStore) (s : State) (b : Bool) (e : Event) :
    { s.raiseIf b e with store := x } = State.raiseIf { s with store := x } b e :=
  apply_raiseIf (f := fun t => { t with store := x }) (fun _ _ => rfl) s b e

/-- Every slot is freed, and FRAME_DROP is raised for each link that was filling a frame, link A first (R102). -/
theorem freeStoreForStandby_eq (s : State) :
    freeStoreForStandby s =
      (State.raiseIf { s with store := ⟨storeInStandby s .a, storeInStandby s .b⟩ } (fillingIndex s .a).isSome
        (.frameDrop .a)).raiseIf (fillingIndex s .b).isSome (.frameDrop .b) := by
  have other : fillingIndex (dropFilling .a .standby s) .b = fillingIndex s .b :=
    fillingIndex_dropFilling_other s .standby (by decide)
  calc freeStoreForStandby s
    _ = { dropFilling .b .standby (dropFilling .a .standby s) with
          store := ⟨storeInStandby s .a, storeInStandby s .b⟩ } :=
      congrArg (fun x => { dropFilling .b .standby (dropFilling .a .standby s) with store := x })
        (freeAll_dropFilling s)
    _ = State.raiseIf { dropFilling .a .standby s with store := ⟨storeInStandby s .a, storeInStandby s .b⟩ }
          (fillingIndex s .b).isSome (.frameDrop .b) := by
      rw [dropFilling_eq_raiseIf .b, other, withStore_raiseIf]
    _ = _ := by rw [dropFilling_eq_raiseIf .a, withStore_raiseIf]

/-- The records of the part after standby entry, before FRAME_DROP is raised (R76, R102, R148, R180). -/
def State.darkened (kind : StandbyKind) (s : State) : State :=
  { s with
    part := { s.part with state := .standby kind, idleTimer := none, patterns := ⟨none, none⟩ }
    controllers := s.controllers.map Controller.forceDark
    store := ⟨storeInStandby s .a, storeInStandby s .b⟩
    pipelines := s.pipelines.map fun q => { q with raster := q.raster.map (Raster.blacken s.now) } }

/-- Standby entry writes these records, and raises FRAME_DROP for each link that was filling a frame. -/
theorem standbyEntry_eq (kind : StandbyKind) (s : State) :
    standbyEntry kind s = ((s.darkened kind).raiseIf (fillingIndex s .a).isSome (.frameDrop .a)).raiseIf
      (fillingIndex s .b).isSome (.frameDrop .b) := by
  rw [standbyEntry, freeStoreForStandby_eq, apply_raiseIf (f := blackenAll) fun _ _ => rfl,
    apply_raiseIf (f := blackenAll) fun _ _ => rfl]
  rfl

theorem raiseIf_falling (s : State) (b : Bool) (e : Event) : (s.raiseIf b e).flagUnit.falling = s.flagUnit.falling := by
  rw [raiseIf_eq]

/-- The flags of standby entry, before the edges are latched: FRAME_DROP of each link that was filling a frame. -/
theorem standbyEntry_flag (kind : StandbyKind) (s : State) {n : Nat} (h : n < 24) :
    (standbyEntry kind s).flagUnit.flags.getLsbD n = (s.flagUnit.flags.getLsbD n || (s.flagUnit.rising.getLsbD n &&
      ((if (fillingIndex s .a).isSome then [17] else []) ++
        (if (fillingIndex s .b).isSome then [18] else [])).contains n)) := by
  rw [standbyEntry_eq, raiseIf_flag _ _ _ h, raiseIf_flag _ _ _ h, raiseIf_rising, Bool.or_assoc,
    ← Bool.and_or_distrib_left]
  change (s.flagUnit.flags.getLsbD n || (s.flagUnit.rising.getLsbD n && _)) = _
  cases (fillingIndex s .a).isSome <;> cases (fillingIndex s .b).isSome <;>
    simp [Event.number, beq_eq_decide]

/-- An event that writes the time and the engine and enters standby: what each record of the part then holds, and which
flags are set. -/
theorem standbyEntry_entered {kind : StandbyKind} {s s' : State} {now : Nat} {e : Engine}
    (h : s' = latchEdges s (standbyEntry kind { s with now := now, engine := e })) :
    s' = { s with
      now := now
      engine := e
      part := { s.part with state := .standby kind, idleTimer := none, patterns := ⟨none, none⟩ }
      controllers := s'.controllers
      store := s'.store
      pipelines := s.pipelines.map (fun q => { q with raster := q.raster.map (Raster.blacken now) })
      flagUnit := s'.flagUnit }
    ∧ outputsForcedDark s'
    ∧ (∀ o : Out, (s'.controllers.get o).route = (s.controllers.get o).route
        ∧ (s'.controllers.get o).pendingRoute = (s.controllers.get o).pendingRoute)
    ∧ (∀ l : Link, s'.store.get l = storeInStandby s l)
    ∧ flagsLatched s s' ((if (fillingIndex s .a).isSome then [17] else [])
        ++ (if (fillingIndex s .b).isSome then [18] else [])) := by
  have latched : flagsLatched s s' ((if (fillingIndex s .a).isSome then [17] else [])
      ++ (if (fillingIndex s .b).isSome then [18] else [])) := by
    rw [h]
    refine flagsLatched_latchEdges ?_ ?_ fun n hn => standbyEntry_flag kind _ hn
    · rw [standbyEntry_eq, raiseIf_rising, raiseIf_rising]
      rfl
    · rw [standbyEntry_eq, raiseIf_falling, raiseIf_falling]
      rfl
  have written : s' = { State.darkened kind { s with now := now, engine := e } with flagUnit := s'.flagUnit } := by
    rw [h, standbyEntry_eq, raiseIf_eq, raiseIf_eq]
    rfl
  generalize s'.flagUnit = flags at written
  subst written
  refine ⟨rfl, fun o => ?_, fun o => ?_, fun l => ?_, latched⟩
  · cases o <;> exact ⟨⟨rfl, rfl, rfl, rfl⟩, rfl, rfl, rfl, rfl, rfl, rfl⟩
  · cases o <;> exact ⟨rfl, rfl⟩
  · cases l <;> rfl

/-! ### STANDBY ENTER and the idle timer (R181, R182) -/

/-- A STANDBY packet of the right length names its action (R181). -/
theorem standbyAction_of_length {p : Packet} (hlength : p.payload.length = 3) :
    standbyAction p = some (p.u8 0).toNat := if_pos hlength

/-- ENTER in READY or WAKING enters COMMANDED standby; its result is placed whatever the entry has written. -/
theorem exec_standbyEnter {s : State} {l : Link} {p : Packet} {rest : List Packet} (t : Nat)
    (h : nextPacket s = some (l, p, rest)) (hcode : p.code = 0x53#8) (hlength : p.payload.length = 3)
    (haction : (p.u8 0).toNat = 1) (hpart : s.part.state = .ready ∨ ∃ e, s.part.state = .waking e) :
    exec (.standbyEnter t) s = .next (latchEdges s (standbyEntry .commanded
      { s with now := max s.now t, engine := (answered s t l p rest .ok []).engine })) := by
  have action : standbyAction p = some 1 := haction ▸ standbyAction_of_length hlength
  have hn : namesStandby 1 p = true := by simp [namesStandby, hcode, action]
  have hl : (p.payload.length == 3) = true := beq_iff_eq.mpr hlength
  have owner : standbyEnterOwner l p (dequeue l rest (s.advance t)) =
      .accept (standbyEntry .commanded (dequeue l rest (s.advance t))) [] := by
    rw [standbyEnterOwner, if_neg (not_not_intro action)]
    obtain hready | ⟨e, hwaking⟩ := hpart
    · simp only [dequeue, State.advance_part, hready]
    · simp only [dequeue, State.advance_part, hwaking]
  have placed : placeResult l (resultOf p .ok []) (standbyEntry .commanded (dequeue l rest (s.advance t))) =
      standbyEntry .commanded { s with now := max s.now t, engine := (answered s t l p rest .ok []).engine } := by
    rw [standbyEntry_eq, standbyEntry_eq, apply_raiseIf (f := placeResult l _) fun _ _ => rfl,
      apply_raiseIf (f := placeResult l _) fun _ _ => rfl]
    rfl
  refine congrArg Host.Outcome.next ?_
  rw [takeOwned_accepted h hn hl rfl owner, placed]
  rfl

/-- Settles O24: both events are the same entry, on the time and the engine that each leaves. -/
theorem standbyEntryDarkensThePart : Obligations.StandbyEntryDarkensThePart := by
  unfold Obligations.StandbyEntryDarkensThePart
  refine ⟨fun s t l p rest h hcode hlength haction hpart =>
    ⟨_, exec_standbyEnter t h hcode hlength haction hpart, standbyEntry_entered rfl⟩, fun s e htimer => ?_⟩
  have taken : exec .idleTimerExpiry s = .next (latchEdges s (standbyEntry .automatic (s.advance e))) := by
    simp only [exec, execIdleTimerExpiry, htimer]
    rfl
  exact ⟨_, taken, standbyEntry_entered rfl⟩

end Sys2Proof.Machine
end

section
/-!
PROOFS. What a raster shows: the source of an image, the patterns, how far the code sent lies from the exact one, and the
lines that the events of R76 and R77 mark.
-/
namespace Sys2Proof.Machine

open Sys2Proof

/-! ### The source of an image (R78) -/

theorem source_of_not_ready {n : Snapshot} (h : n.part ≠ .ready) : n.source = .black := by
  unfold Snapshot.source
  cases hp : n.part with
  | ready => exact absurd hp h
  | initializing | standby _ | waking _ => rfl

theorem source_of_darkOverride {n : Snapshot} (hpart : n.part = .ready) (h : ∃ e, n.service = .dark e) :
    n.source = .black := by
  obtain ⟨e, h⟩ := h
  simp only [Snapshot.source, hpart, h]

/-- With the part READY, no override and no pattern, the state of the output decides. -/
theorem source_of_output {n : Snapshot} (hpart : n.part = .ready) (hservice : n.service = .none)
    (hpattern : n.pattern = none) : n.source = if n.output.showing then .content else .black := by
  simp only [Snapshot.source, hpart, hservice, hpattern]

theorem source_of_showsContent {n : Snapshot} (h : showsContent n) : n.source = .content := by
  obtain ⟨hpart, hservice, hpattern, hshowing⟩ := h
  rw [source_of_output hpart hservice hpattern, if_pos hshowing]

theorem source_of_showsPattern {n : Snapshot} {kind : PatternKind} {level : Word16} (h : showsPattern n kind level) :
    n.source = .pattern kind level := by
  obtain ⟨hpart, ⟨⟨e, hgrid⟩, rfl, rfl⟩ | ⟨hservice, p, hpattern, rfl, rfl⟩⟩ := h
  · simp only [Snapshot.source, hpart, hgrid]
  · simp only [Snapshot.source, hpart, hservice, hpattern]

/-! ### The code of a pixel from its linear value -/

theorem code_of_linear_none {n : Snapshot} {c : Component} {x y : Nat} (h : pixelLinear n c x y = none) :
    n.code c x y = 0 := by
  simp only [Snapshot.code, h]

theorem code_of_linear_some {n : Snapshot} {c : Component} {x y : Nat} {v : ℝ} (h : pixelLinear n c x y = some v) :
    n.code c x y = sentCode n.format.encoding v := by
  simp only [Snapshot.code, h]

theorem code_of_black {n : Snapshot} (h : n.source = .black) (c : Component) (x y : Nat) : n.code c x y = 0 :=
  code_of_linear_none (by simp only [pixelLinear, h])

theorem pixelLinear_of_content {n : Snapshot} (h : n.source = .content) (c : Component) (x y : Nat) :
    pixelLinear n c x y =
      (sourcePoint n x y).map fun uv => outputValue n x y (frameLinear n c uv.1 uv.2) n.ws := by
  simp only [pixelLinear, h]
  rfl

theorem pixelLinear_of_pattern {n : Snapshot} {kind : PatternKind} {level : Word16} (h : n.source = .pattern kind level)
    (c : Component) (x y : Nat) : pixelLinear n c x y = patternLinear n kind level x y := by
  simp only [pixelLinear, h]

/-! ### The patterns (R87 to R89) -/

theorem levelValue_real (level : Word16) : ((levelValue level : Rat) : ℝ) = (level.toNat : ℝ) / 65535 := by
  simp [levelValue]

theorem onDot_iff (x nodes size : Nat) :
    onDot x nodes size = true ↔ ∃ i : Nat, i < nodes ∧ ((x : Int) - dotCentre i nodes size).natAbs ≤ 1 := by
  simp [onDot]

theorem inDots_iff (n : Snapshot) (x y : Nat) :
    inDots n x y = true ↔ ∃ i j : Nat, i < (dotGridOf n).gx ∧ j < (dotGridOf n).gy
      ∧ ((x : Int) - dotCentre i (dotGridOf n).gx n.format.width).natAbs ≤ 1
      ∧ ((y : Int) - dotCentre j (dotGridOf n).gy n.format.height).natAbs ≤ 1 := by
  rw [inDots, Bool.and_eq_true, onDot_iff, onDot_iff]
  constructor
  · rintro ⟨⟨i, hi, hx⟩, j, hj, hy⟩
    exact ⟨i, j, hi, hj, hx, hy⟩
  · rintro ⟨i, j, hi, hj, hx, hy⟩
    exact ⟨⟨i, hi, hx⟩, j, hj, hy⟩

theorem patternLinear_dotGrid (n : Snapshot) (level : Word16) (x y : Nat) :
    patternLinear n .dotGrid level x y = if inDots n x y then some ((level.toNat : ℝ) / 65535) else none := by
  rw [← levelValue_real]
  rfl

theorem patternLinear_sourceGrid (n : Snapshot) (level : Word16) (x y : Nat) :
    patternLinear n .sourceGrid level x y = (sourcePoint n x y).map fun uv =>
      outputValue n x y
        ((sampleAt n.format.width n.format.height (gridSourceValue level) uv.1 uv.2 : Rat) : ℝ) 1 := rfl

theorem patternLinear_flat (n : Snapshot) (level : Word16) (x y : Nat) :
    patternLinear n .flat level x y = some (outputValue n x y ((level.toNat : ℝ) / 65535) 1) := by
  rw [← levelValue_real]
  rfl

theorem patternLinear_blendView (n : Snapshot) (level : Word16) (x y : Nat) :
    patternLinear n .blendView level x y = some (max 0 (min 1 ((blendGain n x y : Rat) : ℝ))) := rfl

/-! ### The code sent (R86) -/

theorem exactCode_eq (e : OutputEncoding) (l : ℝ) : exactCode e l = ⌊((match e with
    | .gamma10 => 1023
    | .gamma12 => 4095) : ℝ) * l ^ (1 / 2.4 : ℝ) + 1 / 2⌋₊ := by
  cases e <;> norm_num [exactCode, maxCode]

/-- A linear value up to 1 has a power up to 1, so its rounded code is at most the highest. -/
theorem exactCode_le_maxCode (e : OutputEncoding) {l : ℝ} (h0 : 0 ≤ l) (h1 : l ≤ 1) : exactCode e l ≤ maxCode e := by
  have power : l ^ (1 / 2.4 : ℝ) ≤ 1 := Real.rpow_le_one h0 h1 (by norm_num)
  have bound : (maxCode e : ℝ) * l ^ (1 / 2.4 : ℝ) ≤ maxCode e := mul_le_of_le_one_right (Nat.cast_nonneg _) power
  refine Nat.lt_succ_iff.mp ((Nat.floor_lt' (Nat.succ_ne_zero _)).mpr ?_)
  push_cast
  linarith

/-- The code sent lies within 1 of the exact one and in the range of codes. -/
theorem sentCode_near (e : OutputEncoding) {l : ℝ} (h : exactCode e l ≤ maxCode e) :
    sentCode e l ≤ maxCode e ∧ sentCode e l ≤ exactCode e l + 1 ∧ exactCode e l ≤ sentCode e l + 1 := by
  have offset := (Config.codeOffset (e == .gamma12) l).isLt
  unfold sentCode
  omega

/-! ### The lines of a raster (R76, R77) -/

/-- A line before every mark is not from a mark on. -/
theorem fromLine_of_before {mark : Option Nat} {y : Nat} (h : ∀ m, mark = some m → y < m) :
    fromLine mark y = false := by
  cases mark with
  | none => rfl
  | some m => exact decide_eq_false (not_le.mpr (h m rfl))

theorem fromLine_of_after {mark : Option Nat} {m y : Nat} (h : mark = some m) (hy : m ≤ y) :
    fromLine mark y = true := by
  rw [h]
  exact decide_eq_true hy

theorem Raster.code_of_blackened {r : Raster} {y : Nat} (h : fromLine r.blackFrom y = true) (c : Component) (x : Nat) :
    r.code c x y = 0 := if_pos h

theorem Raster.code_of_not_blackened {r : Raster} {y : Nat} (h : fromLine r.blackFrom y = false) (c : Component)
    (x : Nat) : r.code c x y = (r.lineSnapshot y).code c x y := by
  rw [Raster.code, h, if_neg Bool.false_ne_true]

theorem earlierLine_eq (old : Option Nat) (new : Nat) : earlierLine old new = markedFrom old new := by
  cases old with
  | none => rfl
  | some m => exact congrArg some (Nat.min_comm m new)

theorem Raster.blacken_eq (r : Raster) (now : Nat) :
    r.blacken now = { r with blackFrom := markedFrom r.blackFrom (lineAfter r now) } := by
  rw [Raster.blacken, earlierLine_eq]
  rfl

theorem Raster.unmix_of_no_fade {r : Raster} (h : r.snapshot.fade = none) (now : Nat) : r.unmix now = r := by
  simp only [Raster.unmix, h]

theorem Raster.unmix_of_fade {r : Raster} (h : r.snapshot.fade ≠ none) (now : Nat) :
    r.unmix now = { r with unmixedFrom := markedFrom r.unmixedFrom (lineAfter r now) } := by
  obtain ⟨m, hm⟩ := Option.ne_none_iff_exists'.mp h
  simp only [Raster.unmix, hm, earlierLine_eq]
  rfl

/-! ### The rows of the statement -/

/-- DOT_GRID: the level on a dot, code 0 elsewhere (R87). -/
theorem code_of_dotGrid {n : Snapshot} {level : Word16} (h : showsPattern n .dotGrid level) (c : Component) (x y : Nat) :
    n.code c x y = if inDots n x y then sentCode n.format.encoding ((level.toNat : ℝ) / 65535) else 0 := by
  have linear := (pixelLinear_of_pattern (source_of_showsPattern h) c x y).trans (patternLinear_dotGrid n level x y)
  split_ifs with hdot
  · rw [if_pos hdot] at linear
    exact code_of_linear_some linear
  · rw [if_neg hdot] at linear
    exact code_of_linear_none linear

/-- SOURCE_GRID: its lines through the warp, code 0 in a masked cell (R88). -/
theorem code_of_sourceGrid {n : Snapshot} {level : Word16} (h : showsPattern n .sourceGrid level) (c : Component)
    (x y : Nat) :
    (sourcePoint n x y = none → n.code c x y = 0)
    ∧ ∀ u v : Rat, sourcePoint n x y = some (u, v) → n.code c x y = sentCode n.format.encoding
        (outputValue n x y ((sampleAt n.format.width n.format.height (gridSourceValue level) u v : Rat) : ℝ) 1) := by
  have linear := (pixelLinear_of_pattern (source_of_showsPattern h) c x y).trans (patternLinear_sourceGrid n level x y)
  refine ⟨fun hp => code_of_linear_none ?_, fun u v hp => code_of_linear_some ?_⟩ <;> rw [linear, hp] <;> rfl

/-- Content: the frame through the warp, code 0 in a masked cell (R80, R85). -/
theorem code_of_content {n : Snapshot} (h : showsContent n) (c : Component) (x y : Nat) :
    (sourcePoint n x y = none → n.code c x y = 0)
    ∧ ∀ u v : Rat, sourcePoint n x y = some (u, v) →
        n.code c x y = sentCode n.format.encoding (outputValue n x y (frameLinear n c u v) n.ws) := by
  have linear := pixelLinear_of_content (source_of_showsContent h) c x y
  refine ⟨fun hp => code_of_linear_none ?_, fun u v hp => code_of_linear_some ?_⟩ <;> rw [linear, hp] <;> rfl

/-- Settles O53: the rows of R78 each by the source of the image, the patterns, the distance of the code sent from the
exact one, and the lines that the events mark. -/
theorem renderedCodes : Obligations.RenderedCodes := by
  unfold Obligations.RenderedCodes
  refine ⟨fun n c x y => ⟨fun h => code_of_black (source_of_not_ready h) c x y,
      fun hpart h => code_of_black (source_of_darkOverride hpart h) c x y,
      fun hpart hservice hpattern houtput => code_of_black ?_ c x y,
      fun h => (code_of_content h c x y).1, fun u v h => (code_of_content h c x y).2 u v⟩,
    fun n c x y level => ⟨fun h => ?_, fun h => code_of_sourceGrid h c x y, fun h => ?_, fun h => ?_⟩,
    fun e l h0 h1 => ?_, fun r c x y => ⟨fun b hb hy => ?_, fun hblack => ⟨fun hmixed => ?_, fun m hm hy => ?_⟩⟩,
    fun r now => ⟨r.blacken_eq now, fun h => Raster.unmix_of_no_fade h now, fun h => Raster.unmix_of_fade h now⟩,
    fun s o => ⟨rfl, rfl⟩⟩
  · rw [source_of_output hpart hservice hpattern]
    obtain h | h := houtput <;> rw [h] <;> rfl
  · have code := code_of_dotGrid h c x y
    have dots := inDots_iff n x y
    cases hwarp : n.warp <;> rw [dotGridOf, hwarp] at dots <;>
      exact ⟨fun on => code.trans (if_pos (dots.mpr on)), fun off => code.trans (if_neg fun on => off (dots.mp on))⟩
  · exact code_of_linear_some ((pixelLinear_of_pattern (source_of_showsPattern h) c x y).trans
      (patternLinear_flat n level x y))
  · exact code_of_linear_some ((pixelLinear_of_pattern (source_of_showsPattern h) c x y).trans
      (patternLinear_blendView n level x y))
  · have bound := exactCode_le_maxCode e h0 h1
    exact ⟨exactCode_eq e l, bound, sentCode_near e bound⟩
  · exact Raster.code_of_blackened (fromLine_of_after hb hy) c x
  · rw [Raster.code_of_not_blackened (fromLine_of_before hblack), Raster.lineSnapshot, fromLine_of_before hmixed,
      if_neg Bool.false_ne_true]
  · rw [Raster.code_of_not_blackened (fromLine_of_before hblack), Raster.lineSnapshot, fromLine_of_after hm hy,
      if_pos rfl]

end Sys2Proof.Machine
end

section
/-!
PROOFS. What every period start sends and begins: the results that wait, those of the verifications that end there
behind them, the fields of the state word, the bytes of a result, and the rasters with their snapshots.
-/
namespace Sys2Proof.Machine

open Sys2Proof

/-! ### The results of the verifications that end at a start (R18, R160) -/

/-- The result that a shadow gives a link at a start: that of a verification which has already seen one. -/
def endedResult (l : Link) (shadow : Bank) : Option Result :=
  match shadow with
  | .verifying ld tag (_ + 1) =>
    if ld.loader = l then
      some ⟨0x13, if imageCheck ld.bytes = ld.expected then .ok else .crcMismatch, tag,
        beBytes 4 (imageCheck ld.bytes).toNat⟩
    else none
  | _ => none

theorem endedAtStart_eq (s : State) (l : Link) :
    endedAtStart s l = allPairs.filterMap fun ok => endedResult l (s.pair ok.1 ok.2).shadow := rfl

/-- The end of a verification places its result behind those that wait for its loader. -/
theorem endVerification_results {o : Out} {k : Kind} {s : State} {ld : Load} {tag : Word16} {n : Nat}
    (h : (s.pair o k).shadow = .verifying ld tag n) :
    (endVerification o k s).engine.results = s.engine.results.set ld.loader (s.engine.results.get ld.loader ++
      [⟨0x13, if imageCheck ld.bytes = ld.expected then .ok else .crcMismatch, tag,
        beBytes 4 (imageCheck ld.bytes).toNat⟩]) := by
  simp only [endVerification, h, crc32_eq]
  split_ifs <;> rfl

theorem verificationAtStart_results (s : State) (ok : Out × Kind) (l : Link) :
    (verificationAtStart s ok).engine.results.get l =
      s.engine.results.get l ++ (endedResult l (s.pair ok.1 ok.2).shadow).toList := by
  have stays : s.engine.results.get l = s.engine.results.get l ++ (none : Option Result).toList :=
    (List.append_nil _).symm
  unfold verificationAtStart
  cases hb : (s.pair ok.1 ok.2).shadow with
  | verifying ld tag n =>
    cases n with
    | zero => exact stays
    | succ n =>
      dsimp only [endedResult]
      rw [endVerification_results hb, PerLink.get_set]
      by_cases hl : l = ld.loader
      · rw [if_pos hl, if_pos hl.symm, hl]
        rfl
      · rw [if_neg hl, if_neg (Ne.symm hl)]
        exact stays
  | empty | loading _ | ready _ => exact stays

/-- A verification that meets a start leaves the other pairs. -/
theorem verificationAtStart_other (s : State) {ok other : Out × Kind} (h : other ≠ ok) :
    (verificationAtStart s ok).pair other.1 other.2 = s.pair other.1 other.2 := by
  rw [State.pair, verificationAtStart_pairs]
  refine PerOut.at2_set2_other _ _ ?_
  by_contra same
  rw [not_or, not_not, not_not] at same
  obtain ⟨sameOut, sameKind⟩ := same
  exact h (Prod.ext sameOut sameKind)

/-- Over pairs that are all different, each verification gives its result, in the order of the pairs. -/
theorem foldl_verificationAtStart_results {pairs : List (Out × Kind)} (distinct : pairs.Nodup) (s : State) (l : Link) :
    (pairs.foldl verificationAtStart s).engine.results.get l =
      s.engine.results.get l ++ pairs.filterMap fun ok => endedResult l (s.pair ok.1 ok.2).shadow := by
  induction pairs generalizing s with
  | nil => exact (List.append_nil _).symm
  | cons ok rest ih =>
    obtain ⟨fresh, distinct⟩ := List.nodup_cons.mp distinct
    have others : (rest.filterMap fun x => endedResult l ((verificationAtStart s ok).pair x.1 x.2).shadow) =
        rest.filterMap fun x => endedResult l (s.pair x.1 x.2).shadow :=
      List.filterMap_congr fun x hx => by
        rw [verificationAtStart_other s (ne_of_mem_of_not_mem hx fresh)]
    rw [List.foldl_cons, ih distinct, others, verificationAtStart_results, List.append_assoc]
    cases hr : endedResult l (s.pair ok.1 ok.2).shadow <;> simp [hr]

theorem verificationsAtStart_results (s : State) (l : Link) :
    (verificationsAtStart s).engine.results.get l = s.engine.results.get l ++ endedAtStart s l :=
  foldl_verificationAtStart_results (by decide) s l

/-- After the verifications the work of a start places no result. -/
theorem startWork_results (s : State) (l : Link) :
    (startWork s).engine.results.get l = s.engine.results.get l ++ endedAtStart s l := by
  rw [← verificationsAtStart_results, startWork_part, schedulerWork_part]
  rfl

/-! ### The state word (R174, R195) -/

theorem reportedDome_eq (s : State) : reportedDome s = (s.dome.map BitVec.toNat).getD 0 := by
  unfold reportedDome
  cases s.dome <;> rfl

theorem credit_eq (s : State) (l : Link) :
    BitVec.ofNat 8 (credit s l) = if s.part.state = .initializing then (0 : Byte)
      else BitVec.ofNat 8 (16 - (s.engine.commands.get l).length) := by
  unfold credit
  cases s.part.state <;> rfl

/-- The state word built from a state that a start has left: every field at its offset. What a start does not write is as
the start found it; each field is then read off the 23 bytes by computation. -/
theorem stateWord_fields {s x : State} (h : x = startPart s x) (l : Link) (n : Nat) :
    let word := stateWord x l n
    word.length = 23
    ∧ fieldAt word 0 [s.part.state.code] ∧ fieldAt word 1 [s.clock.state.code]
    ∧ fieldAt word 2 (beBytes 4 ((s.dome.map BitVec.toNat).getD 0))
    ∧ fieldAt word 6 [s.ports.a.state.code] ∧ fieldAt word 7 [s.ports.b.state.code]
    ∧ fieldAt word 8 [x.controllers.out0.state.code] ∧ fieldAt word 9 [roleCode x.controllers.out0.role]
    ∧ fieldAt word 10 [if s.part.patterns.out0.isSome then 1 else 0]
    ∧ fieldAt word 11 [x.controllers.out1.state.code] ∧ fieldAt word 12 [roleCode x.controllers.out1.role]
    ∧ fieldAt word 13 [if s.part.patterns.out1.isSome then 1 else 0]
    ∧ fieldAt word 14 [s.part.service.code]
    ∧ fieldAt word 15 [if s.part.state = .initializing then 0 else BitVec.ofNat 8 (16 - (s.engine.commands.get l).length)]
    ∧ fieldAt word 16 (beBytes 3 x.flagUnit.flags.toNat)
    ∧ fieldAt word 19 [BitVec.ofNat 8 x.outcomes.length]
    ∧ fieldAt word 20 [BitVec.ofNat 8 n]
    ∧ fieldAt word 21 (beBytes 2 (streamCheck ((word.take 21).flatMap bitsSent)).toNat) := by
  intro word
  obtain ⟨-, clock, part, -, -, commands, -, -, ports⟩ := frame_of_startPart h
  have portA : x.ports.a.state = s.ports.a.state :=
    (congrArg Port.state (ports .a) :)
  have portB : x.ports.b.state = s.ports.b.state :=
    (congrArg Port.state (ports .b) :)
  rw [State.dome, ← clock, ← part, ← commands, ← portA, ← portB, ← State.dome, ← reportedDome_eq, ← credit_eq, ← crc16_eq]
  exact ⟨rfl, rfl, rfl, rfl, rfl, rfl, rfl, rfl, rfl, rfl, rfl, rfl, rfl, rfl, rfl, rfl, rfl, rfl⟩

/-! ### The return frame of a start (R122, R123) -/

theorem sent_sendReturnFrames (s : State) (l : Link) :
    ((sendReturnFrames s).ports.get l).sent = some (returnFrame s l) := by
  cases l <;> rfl

theorem results_sendReturnFrames (s : State) (l : Link) :
    (sendReturnFrames s).engine.results.get l = (s.engine.results.get l).drop 4 := by
  cases l <;> rfl

theorem resultBytes_eq (r : Result) : r.bytes = withCheck
    ([r.code, r.status.code] ++ beBytes 2 r.tag.toNat ++ beBytes 2 r.payload.length ++ r.payload) := by
  rw [Result.bytes, crc16_eq]
  rfl

/-- The codes of the states in the state word are those of R192. -/
theorem stateWordCodes_holds : stateWordCodes :=
  ⟨fun _ _ => rfl, fun _ _ _ => rfl, fun _ _ => rfl, rfl, rfl, fun _ => rfl⟩

/-! ### Formats, snapshots and rasters (R72, R74, R75) -/

theorem table_eq_readyTable (b : Bank) : b.table = readyTable b := by cases b <;> rfl

theorem Slot.frame_eq (x : Slot) : x.frame = match x with
    | .complete f _ => some f
    | _ => none := by
  cases x <;> rfl

/-- The model's snapshot takes the values of R75. -/
theorem snapshotOf_eq (o : Out) (s : State) : snapshotOf o s = snapshotAt s o := by
  unfold snapshotOf snapshotAt
  simp only [table_eq_readyTable, BankPair.activeBank, BankPair.shadow, Slot.frame_eq]
  congr 1
  · cases (s.controllers.get o).held <;> rfl
  · cases s.fades.get o <;> rfl

theorem applyFormat_eq (q : Pipeline) :
    q.applyFormat = { q with format := q.pendingFormat.getD q.format, pendingFormat := none } := by
  rcases q with ⟨format, _ | pending, raster⟩ <;> rfl

/-- A snapshot reads neither the flags nor what the return frames write. -/
theorem snapshotAt_sendReturnFrames (before s : State) (o : Out) :
    snapshotAt (sendReturnFrames (latchEdges before s)) o = snapshotAt s o := rfl

/-- A snapshot reads of a pipeline its format alone, which the rasters leave. -/
theorem snapshotAt_beginRasters (s : State) (o : Out) : snapshotAt (beginRasters s) o = snapshotAt s o := by
  have format : ((beginRasters s).pipelines.get o).format = (s.pipelines.get o).format := by cases o <;> rfl
  unfold snapshotAt
  rw [format]
  rfl

theorem pipelines_sendReturnFrames (before s : State) :
    (sendReturnFrames (latchEdges before s)).pipelines = s.pipelines := rfl

theorem pipeline_beginRasters (s : State) (o : Out) :
    (beginRasters s).pipelines.get o = { s.pipelines.get o with raster := some (newRaster o s) } := by
  cases o <;> rfl

theorem pipeline_applyFormats (s : State) (o : Out) :
    (applyFormats s).pipelines.get o = { s.pipelines.get o with
      format := (s.pipelines.get o).pendingFormat.getD (s.pipelines.get o).format, pendingFormat := none } :=
  (PerOut.get_map _ _ _).trans (applyFormat_eq _)

/-- The rasters begin on the state as the formats have come into force, and what follows leaves what a snapshot reads. -/
theorem pipeline_sendReturnFrames (before s : State) (o : Out) :
    let s' := sendReturnFrames (latchEdges before (beginRasters (applyFormats s)))
    s'.pipelines.get o =
      { format := ((s.pipelines.get o).pendingFormat).getD (s.pipelines.get o).format
        pendingFormat := none
        raster := some ⟨snapshotAt s' o, s.now, s.clock.period, none, none⟩ } := by
  dsimp only
  rw [snapshotAt_sendReturnFrames, snapshotAt_beginRasters, pipelines_sendReturnFrames, pipeline_beginRasters,
    pipeline_applyFormats, newRaster, snapshotOf_eq]
  rfl

/-- The work of a start before the formats and the rasters. -/
def workBeforeRasters (s : State) : State :=
  releaseWork (controllerWork .out1 (controllerWork .out0 (schedulerWork (verificationsAtStart s))))

theorem startWork_eq (s : State) : startWork s = beginRasters (applyFormats (workBeforeRasters s)) := rfl

/-- What precedes the rasters leaves the time, the clock and the pipelines. -/
theorem workBeforeRasters_kept (s : State) :
    (workBeforeRasters s).now = s.now ∧ (workBeforeRasters s).clock = s.clock
    ∧ (workBeforeRasters s).pipelines = s.pipelines := by
  rw [workBeforeRasters, releaseWork_eq, controllerWork_eq .out1, controllerWork_eq .out0, schedulerWork_part,
    verificationsAtStart_eq]
  exact ⟨rfl, rfl, rfl⟩

theorem pipeline_periodStart (before s : State) (o : Out) :
    let s' := periodStart before s
    s'.pipelines.get o =
      { format := ((s.pipelines.get o).pendingFormat).getD (s.pipelines.get o).format
        pendingFormat := none
        raster := some ⟨snapshotAt s' o, s.now, s.clock.period, none, none⟩ } := by
  obtain ⟨now, clock, pipelines⟩ := workBeforeRasters_kept s
  rw [← now, ← clock, ← pipelines]
  exact pipeline_sendReturnFrames before (workBeforeRasters s) o

/-! ### The start as a whole -/

/-- Latched edges are flags, which a start may write. -/
theorem startPart_latchEdges {before s t : State} (h : t = startPart s t) :
    latchEdges before t = startPart s (latchEdges before t) := by
  rw [h]
  rfl

/-- The state that the return frames of a start are built from: its work done and its edges latched. -/
theorem latchEdges_startWork_part (before s : State) :
    latchEdges before (startWork s) = startPart s (latchEdges before (startWork s)) :=
  startPart_latchEdges (startPart_of_parts (verificationsAtStart_eq s) (schedulerWork_part _) (startWork_part s))

/-- The return frame of a start carries the first four of the results that wait, the ended verifications' among them. -/
theorem sent_periodStart (before s : State) (l : Link) :
    ((periodStart before s).ports.get l).sent = some
      ⟨stateWord (latchEdges before (startWork s)) l (min 4 (s.engine.results.get l ++ endedAtStart s l).length),
        ((s.engine.results.get l ++ endedAtStart s l).take 4).map Result.bytes⟩ := by
  rw [← startWork_results, ← List.length_take]
  exact sent_sendReturnFrames _ l

theorem results_periodStart (before s : State) (l : Link) :
    (periodStart before s).engine.results.get l = (s.engine.results.get l ++ endedAtStart s l).drop 4 := by
  rw [← startWork_results]
  exact results_sendReturnFrames _ l

/-- Settles O39: the results and the state word of a start, the codes and the bytes of a result, and the rasters. -/
theorem startSendsFramesAndBeginsRasters : Obligations.StartSendsFramesAndBeginsRasters := by
  unfold Obligations.StartSendsFramesAndBeginsRasters
  exact ⟨fun before s l => ⟨results_periodStart before s l, _, sent_periodStart before s l,
      stateWord_fields (latchEdges_startWork_part before s) l _⟩,
    stateWordCodes_holds, resultBytes_eq, rfl, pipeline_periodStart⟩

end Sys2Proof.Machine
end

section
/-!
PROOFS. The events of a Stream Link Port: what each operation of a link writes, the flags that it raises, and the idle
timer that the event leaves.
-/
namespace Sys2Proof.Machine

open Sys2Proof

/-! ### Writing a port -/

@[simp] theorem State.setPort_setPort (s : State) (l : Link) (p q : Port) :
    (s.setPort l p).setPort l q = s.setPort l q := by
  cases l <;> rfl

@[simp] theorem State.setPort_self (s : State) (l : Link) : s.setPort l (s.ports.get l) = s := by
  cases l <;> rfl

/-- A port written is read back. -/
theorem State.get_setPort (s : State) (l : Link) (p : Port) : (s.setPort l p).ports.get l = p :=
  PerLink.get_set_same s.ports l p

/-- A port whose lock stays leaves every level. -/
theorem levels_setPort {s : State} {l : Link} {p : Port} (h : p.state.isLocked = (s.ports.get l).state.isLocked) :
    levels (s.setPort l p) = levels s := by
  cases l
  · exact levels_ext h rfl rfl rfl rfl rfl rfl rfl rfl rfl rfl rfl
  · exact levels_ext rfl h rfl rfl rfl rfl rfl rfl rfl rfl rfl rfl

/-- The idle timer is no level. -/
theorem levels_keepIdleTimer (s : State) : levels (keepIdleTimer s) = levels s := rfl

/-! ### The flags that an event raises (R168, R170) -/

/-- The enables stay, and the listed events set their flags, each by its enable. -/
structure Raises (events : List Nat) (u v : FlagUnit) : Prop where
  rising : v.rising = u.rising
  falling : v.falling = u.falling
  flags : ∀ n : Nat, n < 24 → v.flags.getLsbD n = (u.flags.getLsbD n || (u.rising.getLsbD n && events.contains n))

theorem Raises.none (u : FlagUnit) : Raises [] u u := ⟨rfl, rfl, fun _ _ => by simp⟩

theorem Raises.trans {xs ys : List Nat} {u v w : FlagUnit} (h : Raises xs u v) (h' : Raises ys v w) :
    Raises (xs ++ ys) u w where
  rising := h'.rising.trans h.rising
  falling := h'.falling.trans h.falling
  flags n hn := by
    rw [h'.flags n hn, h.flags n hn, h.rising, Bool.or_assoc, ← Bool.and_or_distrib_left, List.contains_eq_mem,
      List.contains_eq_mem, List.contains_eq_mem]
    simp

theorem raises_raiseIf (s : State) (b : Bool) (e : Event) :
    Raises (if b then [e.number] else []) s.flagUnit (s.raiseIf b e).flagUnit where
  rising := raiseIf_rising s b e
  falling := raiseIf_falling s b e
  flags n hn := by
    rw [raiseIf_flag s b e hn]
    cases b <;> simp [beq_eq_decide]

/-- An event that raises the listed events, and whose edges are then latched. -/
theorem Raises.flagsLatched {events : List Nat} {s u : State} (h : Raises events s.flagUnit u.flagUnit) :
    flagsLatched s (latchEdges s u) events :=
  flagsLatched_latchEdges h.rising h.falling h.flags

/-- An event that changes no level makes no edge. -/
theorem Raises.flagsLatched_of_levels_eq {events : List Nat} {s u : State} (h : Raises events s.flagUnit u.flagUnit)
    (hl : levels s = levels u) : Machine.flagsLatched s u events := by
  have latched := h.flagsLatched
  rwa [latchEdges_of_levels_eq hl] at latched

/-! ### The idle timer (R182) -/

theorem idleCondition_iff (s : State) :
    idleCondition s = true ↔ s.part.state = .ready ∧ s.ports.a.state.isIdle = true ∧ s.ports.b.state.isIdle = true
      ∧ s.part.standbyDelay ≠ 0 := by
  simp [idleCondition, and_assoc]

/-- The idle timer that an event's end leaves is the one of R182. -/
theorem followsIdleRule_keepIdleTimer (s : State) : followsIdleRule s.part.idleTimer (keepIdleTimer s) := by
  unfold followsIdleRule
  cases timer : s.part.idleTimer <;>
    simp only [keepIdleTimer_part, keepIdleTimer_ports, keepIdleTimer_now, idleTimerAfter, idleCondition_iff, timer,
      seconds, Nat.mul_comm]

/-- The state after the operations of a link event: they write the time, the port of the link, the store and flags. -/
def linkWritten (s : State) (l : Link) (now : Nat) (p : Port) (store : PerLink LinkStore) (u : FlagUnit) : State :=
  { s with now := now, ports := s.ports.set l p, store := store, flagUnit := u }

/-- What a link event leaves: what its operations have written, the idle timer and the flags of its edges. -/
theorem linkEvent_left {s : State} {u : FlagUnit} {events : List Nat} (hf : Raises events s.flagUnit u) (l : Link)
    (now : Nat) (p : Port) (store : PerLink LinkStore) :
    let s' := latchEdges s (keepIdleTimer (linkWritten s l now p store u))
    s' = { s with
      now := now, ports := s.ports.set l p, store := store
      part := { s.part with idleTimer := s'.part.idleTimer }
      flagUnit := s'.flagUnit }
    ∧ followsIdleRule s.part.idleTimer s' ∧ flagsLatched s s' events :=
  ⟨rfl, followsIdleRule_keepIdleTimer (linkWritten s l now p store u),
    Raises.flagsLatched (u := keepIdleTimer (linkWritten s l now p store u)) hf⟩

/-! ### The end of a frame (R95, R114, R121) -/

theorem fillingIndex_congr {s s' : State} (h : s'.store = s.store) (l : Link) : fillingIndex s' l = fillingIndex s l := by
  rw [fillingIndex, h, fillingIndex]

theorem fillingDropped_congr {s s' : State} (h : s'.store = s.store) (l : Link) (cause : DropCause) :
    fillingDropped s' l cause = fillingDropped s l cause := by
  rw [fillingDropped, fillingIndex_congr h, h, fillingDropped]

theorem fillingDropped_of_none {s : State} {l : Link} (h : fillingIndex s l = none) (cause : DropCause) :
    fillingDropped s l cause = s.store := by
  simp only [fillingDropped, h]

/-- The end of a frame writes the store, and raises MGMT_REJECT for a packet and FRAME_DROP for a frame cut off. -/
theorem endFrame_eq (l : Link) (s : State) :
    endFrame l s = (State.raiseIf { s with store := fillingDropped s l .incomplete }
      (s.ports.get l).frame.inPacket (.mgmtReject l)).raiseIf (fillingIndex s l).isSome (.frameDrop l) := by
  have store : (cutPacket l s).store = s.store := raiseIf_store s _ _
  rw [endFrame, dropFilling_eq_raiseIf, fillingDropped_congr store, fillingIndex_congr store, cutPacket,
    withStore_raiseIf]

theorem endFrame_written (l : Link) (s : State) :
    endFrame l s = { s with store := fillingDropped s l .incomplete, flagUnit := (endFrame l s).flagUnit } := by
  rw [endFrame_eq, raiseIf_eq, raiseIf_eq]

theorem endFrame_raises (l : Link) (s : State) :
    Raises (rejectsAndDrops s l) s.flagUnit (endFrame l s).flagUnit := by
  rw [endFrame_eq]
  exact (raises_raiseIf { s with store := fillingDropped s l .incomplete } _ _).trans (raises_raiseIf _ _ _)

/-- Where neither a packet nor a frame is cut off, the end of a frame changes nothing. -/
theorem endFrame_of_nothing {s : State} {l : Link} (hp : (s.ports.get l).frame.inPacket = false)
    (hf : fillingIndex s l = none) : endFrame l s = s := by
  rw [endFrame_eq, hp, hf, fillingDropped_of_none hf]
  rfl

theorem enterHoldover_eq (l : Link) (s : State) :
    enterHoldover l s = (endFrame l s).setPort l { s.ports.get l with
      state := .holdover (s.now + 600000) 0, frame := .skipping } := by
  have written := endFrame_written l s
  unfold enterHoldover
  rw [written]
  rfl

end Sys2Proof.Machine
end

section
/-!
PROOFS. The receiver's reports and the signal-loss timer.
-/
namespace Sys2Proof.Machine

open Sys2Proof

theorem judges_iff (x : LinkState) : x.judges = true ↔ x ≠ .off ∧ ∀ e, x ≠ .quiet e := by
  cases x <;> simp [LinkState.judges]

/-! ### SIGNAL_PRESENT and SIGNAL_ABSENT (R108, R109) -/

/-- The frame in progress when the signal has come back, as R108 has it. -/
theorem discard_eq (x : FrameProgress) : x.discard =
    match x with
    | .body b => .body { b with parsed := b.parsed && !b.broken }
    | .awaitingHeader => .headerLost
    | other => other := by
  cases x <;> rfl

theorem break_eq (x : FrameProgress) : x.break =
    match x with
    | .body b => .body { b with buffer := [], broken := true }
    | other => other := by
  cases x <;> rfl

/-- A port that begins to seek as its signal comes: OFF before, it changes no level. -/
theorem exec_signalPresent_off {s : State} {l : Link} (t : Nat) (hs : (s.ports.get l).signal = false)
    (hoff : (s.ports.get l).state = .off) (hp : s.part.state ≠ .initializing) :
    exec (.signalPresent t l) s = .next (keepIdleTimer ((s.advance t).setPort l { s.ports.get l with
      signal := true, signalLoss := none, state := .seeking (max s.now t + 5000000), previous := none
      frame := .none })) := by
  have sought : ∀ p : Port, enterSeeking l ((s.advance t).setPort l p) =
      (s.advance t).setPort l { p with state := .seeking (max s.now t + 5000000), previous := none, frame := .none } := by
    intro p
    rw [enterSeeking, State.get_setPort, State.setPort_setPort]
    rfl
  have unlocked := levels_setPort (s := s.advance t) (l := l) (p := { s.ports.get l with
      signal := true, signalLoss := none, state := .seeking (max s.now t + 5000000), previous := none
      frame := .none }) (by rw [State.advance_ports, hoff]; rfl)
  simp only [exec, execSignalPresent, State.advance_ports, hs, hoff, beq_eq_false_iff_ne.mpr hp, linkEvent, sought,
    Bool.false_eq_true, if_false]
  rw [latchEdges_of_levels_eq ((levels_keepIdleTimer _).trans unlocked).symm]

/-- A signal that comes back to a link in use is present, and discards what its absence broke. -/
theorem exec_signalPresent_used {s : State} {l : Link} (t : Nat) (hs : (s.ports.get l).signal = false)
    (hused : (s.ports.get l).state ≠ .off ∨ s.part.state = .initializing) :
    exec (.signalPresent t l) s = .next ((s.advance t).setPort l { s.ports.get l with
      signal := true, signalLoss := none, frame := (s.ports.get l).frame.discard }) := by
  simp only [exec, execSignalPresent, State.advance_ports, hs, Bool.false_eq_true, if_false]
  split
  · next hoff =>
    have initializing := hused.resolve_left (not_not_intro hoff)
    rw [if_pos (beq_iff_eq.mpr initializing)]
  all_goals rfl

theorem exec_signalAbsent_present {s : State} {l : Link} (t : Nat) (hs : (s.ports.get l).signal = true) :
    exec (.signalAbsent t l) s = .next ((cutPacket l (s.advance t)).setPort l { s.ports.get l with
      signal := false
      frame := (s.ports.get l).frame.break
      signalLoss := if (s.ports.get l).state.judges then some (max s.now t + 3000) else none }) := by
  have cut : (cutPacket l (s.advance t)).ports = s.ports := by rw [cutPacket, raiseIf_eq]; rfl
  have now : (cutPacket l (s.advance t)).now = max s.now t := raiseIf_now _ _ _
  simp only [exec, execSignalAbsent, State.advance_ports, hs, Bool.not_true, Bool.false_eq_true, if_false, cut, now]
  rfl

/-- A signal that goes breaks the frame in progress, and rejects a packet of it. -/
theorem exec_signalAbsent_left {s : State} {l : Link} (t : Nat) (hs : (s.ports.get l).signal = true) :
    ∃ s', exec (.signalAbsent t l) s = .next s'
      ∧ s' = { s with
        now := max s.now t
        ports := s.ports.set l { s.ports.get l with
          signal := false
          frame := (s.ports.get l).frame.break
          signalLoss := if (s.ports.get l).state.judges then some (max s.now t + 3000) else none }
        flagUnit := s'.flagUnit }
      ∧ flagsLatched s s' (if (s.ports.get l).frame.inPacket then [(Event.mgmtReject l).number] else []) := by
  have cut : cutPacket l (s.advance t) = { s.advance t with flagUnit := (cutPacket l (s.advance t)).flagUnit } := by
    rw [cutPacket, raiseIf_eq]
  have raised : Raises _ s.flagUnit (cutPacket l (s.advance t)).flagUnit :=
    raises_raiseIf (s.advance t) (s.ports.get l).frame.inPacket (.mgmtReject l)
  have found : levels (cutPacket l (s.advance t)) = levels s := by rw [cut]; rfl
  have ports : (cutPacket l (s.advance t)).ports = s.ports := by rw [cut]; rfl
  refine ⟨_, exec_signalAbsent_present t hs, ?_, ?_⟩
  · rw [cut]
    rfl
  · refine Raises.flagsLatched_of_levels_eq raised ?_
    rw [levels_setPort (by rw [ports]), found]

/-! ### SIGNAL_LOST (R110, R111, R113, R115, R125) -/

/-- The state in which SIGNAL_LOST finds the link: its time has come and its timer has stopped. -/
def lossTaken (s : State) (l : Link) (e : Nat) : State :=
  (s.advance e).setPort l { s.ports.get l with signalLoss := none }

theorem exec_signalLost {s : State} {l : Link} {e : Nat} (h : (s.ports.get l).signalLoss = some e) :
    exec (.signalLost l) s = .next (latchEdges s (keepIdleTimer (loseSignal e l (lossTaken s l e)))) := by
  simp only [exec, execSignalLost, h, linkEvent]
  rfl

theorem port_lossTaken (s : State) (l : Link) (e : Nat) :
    (lossTaken s l e).ports.get l = { s.ports.get l with signalLoss := none } := State.get_setPort _ _ _

/-- SEEKING and ALIGNED go to OFF. -/
theorem loseSignal_acquiring {s : State} {l : Link} (e : Nat) {x : Nat}
    (h : (s.ports.get l).state = .seeking x ∨ ∃ g, (s.ports.get l).state = .aligned x g) :
    loseSignal e l (lossTaken s l e) = linkWritten s l (max s.now e)
      { s.ports.get l with state := .off, frame := .none, signalLoss := none } s.store s.flagUnit := by
  have off : loseSignal e l (lossTaken s l e) = enterOff l (lossTaken s l e) := by
    obtain h | ⟨g, h⟩ := h <;> simp only [loseSignal, port_lossTaken, h]
  rw [off, enterOff, port_lossTaken, lossTaken, State.setPort_setPort]
  rfl

/-- The port of a LOCKED link after signal lost: in HOLDOVER, or OFF where the lock is of that instant (R125). -/
def portAfterLoss (p : Port) (e since now : Nat) : Port :=
  if p.fromAligned = true ∧ e ≤ since then { p with state := .off, frame := .none, signalLoss := none }
  else { p with state := .holdover (now + 600000) 0, frame := .skipping, signalLoss := none }

theorem loseSignal_lock {s : State} {l : Link} (e : Nat) {bad since : Nat}
    (h : (s.ports.get l).state = .locked bad since) :
    loseSignal e l (lossTaken s l e) = linkWritten s l (max s.now e)
      (portAfterLoss (s.ports.get l) e since (max s.now e)) (fillingDropped s l .incomplete)
      (endFrame l (lossTaken s l e)).flagUnit := by
  have dropped : fillingDropped (lossTaken s l e) l .incomplete = fillingDropped s l .incomplete :=
    fillingDropped_congr rfl l _
  have ended := endFrame_written l (lossTaken s l e)
  have ports : (endFrame l (lossTaken s l e)).ports = (lossTaken s l e).ports := by rw [ended]
  rw [dropped] at ended
  have overwritten : ∀ p : Port, (endFrame l (lossTaken s l e)).setPort l p =
      linkWritten s l (max s.now e) p (fillingDropped s l .incomplete) (endFrame l (lossTaken s l e)).flagUnit := by
    intro p
    rw [ended]
    cases l <;> rfl
  rw [loseSignal_locked (by rw [port_lossTaken]; exact h), port_lossTaken, portAfterLoss]
  split_ifs with aligned
  · rw [enterOff, ports, port_lossTaken, overwritten]
  · rw [enterHoldover_eq, port_lossTaken, overwritten]
    rfl

theorem loseSignal_holdover {s : State} {l : Link} (e : Nat) {x good : Nat}
    (h : (s.ports.get l).state = .holdover x good) :
    loseSignal e l (lossTaken s l e) = linkWritten s l (max s.now e)
      { s.ports.get l with state := .holdover x 0, signalLoss := none } s.store s.flagUnit := by
  have counted : loseSignal e l (lossTaken s l e) = (lossTaken s l e).setLinkState l (.holdover x 0) := by
    simp only [loseSignal, port_lossTaken, h]
  rw [counted, State.setLinkState, port_lossTaken, lossTaken, State.setPort_setPort]
  rfl

/-- The frame of a link that ends at signal lost raises what it would have raised before. -/
theorem endFrame_lossTaken_raises (s : State) (l : Link) (e : Nat) :
    Raises (rejectsAndDrops s l) s.flagUnit (endFrame l (lossTaken s l e)).flagUnit := by
  have events : rejectsAndDrops (lossTaken s l e) l = rejectsAndDrops s l := by
    rw [rejectsAndDrops, port_lossTaken, fillingIndex_congr (s := s) (s' := lossTaken s l e) rfl, rejectsAndDrops]
  rw [← events]
  exact endFrame_raises l (lossTaken s l e)

/-- Settles O43: the reports one by one, and signal lost in each link state that judges headers. -/
theorem signalReportsAndLoss : Obligations.SignalReportsAndLoss := by
  unfold Obligations.SignalReportsAndLoss
  refine ⟨judges_iff, fun s t l => ⟨fun hs hoff hp => ?_, fun hs hused => ?_, fun hs => ?_⟩,
    fun s l e h => ⟨fun x hx => ?_, fun bad since hx => ?_, fun x good hx => ?_⟩⟩
  · exact ⟨_, exec_signalPresent_off t hs hoff hp, rfl, followsIdleRule_keepIdleTimer _⟩
  · refine (exec_signalPresent_used t hs hused).trans ?_
    rw [discard_eq]
    rfl
  · obtain ⟨s', taken, left, flags⟩ := exec_signalAbsent_left t hs
    rw [break_eq] at left
    exact ⟨s', taken, left, flags⟩
  · obtain ⟨left, idle, flags⟩ := linkEvent_left (.none s.flagUnit) l (max s.now e)
      { s.ports.get l with state := .off, frame := .none, signalLoss := none } s.store
    have taken := exec_signalLost h
    rw [loseSignal_acquiring e hx] at taken
    exact ⟨_, taken, rfl, flags, left, idle⟩
  · obtain ⟨left, idle, flags⟩ := linkEvent_left (endFrame_lossTaken_raises s l e) l (max s.now e)
      (portAfterLoss (s.ports.get l) e since (max s.now e)) (fillingDropped s l .incomplete)
    have taken := exec_signalLost h
    rw [loseSignal_lock e hx] at taken
    exact ⟨_, taken, ⟨left, idle⟩, rfl, flags⟩
  · obtain ⟨left, idle, flags⟩ := linkEvent_left (.none s.flagUnit) l (max s.now e)
      { s.ports.get l with state := .holdover x 0, signalLoss := none } s.store
    have taken := exec_signalLost h
    rw [loseSignal_holdover e hx] at taken
    exact ⟨_, taken, rfl, flags, left, idle⟩

end Sys2Proof.Machine
end

section
/-!
PROOFS. Delimiters and bad headers: what each leaves of the port, and the flags of the frame that it cuts off.
-/
namespace Sys2Proof.Machine

open Sys2Proof

theorem hears_iff_hearsLine (p : Port) (now : Nat) : p.hears now = true ↔ hearsLine p now := hears_iff p now

theorem expectsHeader_iff_awaitsHeader (p : Port) (now : Nat) :
    p.expectsHeader now = true ↔ p.state.judges = true ∧ awaitsHeader p now := by
  rw [expectsHeader_iff, hears_iff_hearsLine, awaitsHeader]

/-- Twelve bytes are a bad header where the reader finds none in them (R107). -/
theorem headerOf_eq_none {bytes : BitVec 96} (h : badHeaderBytes bytes) : headerOf bytes = none := by
  rw [Option.eq_none_iff_forall_ne_some]
  exact fun x hx => h x ((headerOf_eq_some_iff bytes x).mp hx)

/-! ### Delimiters (R95) -/

theorem exec_frameDelimiter {s : State} {l : Link} {t : Nat} (hh : hearsLine (s.ports.get l) (max s.now t))
    (hj : (s.ports.get l).state.judges = true) :
    exec (.frameDelimiter t l) s = .next (latchEdges s (keepIdleTimer ((
      match (s.ports.get l).frame with
      | .awaitingHeader | .headerLost => badHeader l (endFrame l (s.advance t))
      | .none | .skipping | .body _ => endFrame l (s.advance t)).setFrame l .awaitingHeader))) := by
  have hears : (s.ports.get l).hears (max s.now t) = true := (hears_iff_hearsLine _ _).mpr hh
  simp only [exec, execFrameDelimiter, State.advance_ports, State.advance_now, hears, hj, Bool.and_self, if_true,
    linkEvent]
  rfl

/-- A delimiter that cuts no header off ends the frame in progress, and a header is awaited. -/
theorem exec_frameDelimiter_between {s : State} {l : Link} {t : Nat}
    (hh : hearsLine (s.ports.get l) (max s.now t)) (hj : (s.ports.get l).state.judges = true)
    (ha : (s.ports.get l).frame ≠ .awaitingHeader) (hl : (s.ports.get l).frame ≠ .headerLost) :
    exec (.frameDelimiter t l) s = .next (latchEdges s (keepIdleTimer (linkWritten s l (max s.now t)
      { s.ports.get l with frame := .awaitingHeader } (fillingDropped s l .incomplete)
      (endFrame l (s.advance t)).flagUnit))) := by
  have ended : (endFrame l (s.advance t)).setFrame l .awaitingHeader = linkWritten s l (max s.now t)
      { s.ports.get l with frame := .awaitingHeader } (fillingDropped s l .incomplete)
      (endFrame l (s.advance t)).flagUnit := by
    rw [endFrame_written l (s.advance t), fillingDropped_congr (s := s) rfl]
    rfl
  rw [exec_frameDelimiter hh hj, ← ended]
  cases hf : (s.ports.get l).frame with
  | awaitingHeader => exact absurd hf ha
  | headerLost => exact absurd hf hl
  | none | skipping | body _ => rfl

/-! ### Bad headers (R107, R110 to R115) -/

/-- Twelve bytes that no link awaits let their time pass. -/
theorem exec_frameHeader_unheard {s : State} {l : Link} {t : Nat} (bytes : BitVec 96)
    (h : ¬((s.ports.get l).state.judges = true ∧ awaitsHeader (s.ports.get l) (max s.now t))) :
    exec (.frameHeader t l bytes) s = .next { s with now := max s.now t } := by
  have unheard : (s.ports.get l).expectsHeader (max s.now t) = false := by
    rwa [← expectsHeader_iff_awaitsHeader, Bool.not_eq_true] at h
  simp only [exec, execFrameHeader, State.advance_ports, State.advance_now, unheard, Bool.false_eq_true, if_false]
  rfl

theorem exec_frameHeader_bad {s : State} {l : Link} {t : Nat} {bytes : BitVec 96} (hb : badHeaderBytes bytes)
    (hj : (s.ports.get l).state.judges = true) (ha : awaitsHeader (s.ports.get l) (max s.now t)) :
    exec (.frameHeader t l bytes) s =
      .next (latchEdges s (keepIdleTimer (badHeader l ((s.advance t).setFrame l .skipping)))) := by
  have expects := (expectsHeader_iff_awaitsHeader _ _).mpr ⟨hj, ha⟩
  simp only [exec, execFrameHeader, State.advance_ports, State.advance_now, expects, if_true, headerOf_eq_none hb,
    linkEvent]
  rfl

/-- The port with another frame in progress. -/
def Port.reading (p : Port) (x : FrameProgress) : Port := { p with frame := x }

/-- The port after a bad header. -/
def Port.afterBadHeader (now : Nat) (p : Port) : Port :=
  match p.state with
  | .aligned e _ => { p with state := .seeking e }
  | .locked bad since =>
    if bad + 1 < 2 then { p with state := .locked (bad + 1) since }
    else { p with state := .holdover (now + 600000) 0, frame := .skipping }
  | .holdover e _ => { p with state := .holdover e 0 }
  | .off | .seeking _ | .quiet _ => p

/-- Where no frame and no packet is in progress, a bad header writes the port alone. -/
theorem badHeader_eq {s : State} {l : Link} (hp : (s.ports.get l).frame.inPacket = false)
    (hf : fillingIndex s l = none) : badHeader l s = s.setPort l ((s.ports.get l).afterBadHeader s.now) := by
  unfold badHeader Port.afterBadHeader
  cases (s.ports.get l).state with
  | off | seeking _ | quiet _ => exact (State.setPort_self s l).symm
  | aligned e _ => rfl
  | holdover e _ => rfl
  | locked bad since =>
    dsimp only
    split_ifs
    · rfl
    · rw [enterHoldover_eq, endFrame_of_nothing hp hf]

/-- That the frame is discarded makes no difference to what a bad header does. -/
theorem reading_afterBadHeader (now : Nat) (p : Port) :
    (p.reading .skipping).afterBadHeader now = (p.afterBadHeader now).reading .skipping := by
  rcases p with ⟨state⟩
  unfold Port.afterBadHeader Port.reading
  cases state with
  | locked bad since => dsimp only; split_ifs <;> rfl
  | off | seeking _ | aligned _ _ | holdover _ _ | quiet _ => rfl

/-- A header that is bad, or that a delimiter cuts off, leaves the port so, whatever the frame that follows. -/
theorem exec_badHeader {s : State} {t : Nat} {l : Link} {c : Instr} {y : FrameProgress}
    (hf : fillingIndex s l = none) (hj : (s.ports.get l).state.judges = true)
    (hc : (∃ bytes, c = .frameHeader t l bytes ∧ badHeaderBytes bytes ∧ awaitsHeader (s.ports.get l) (max s.now t)
        ∧ y = .skipping)
      ∨ c = .frameDelimiter t l ∧ hearsLine (s.ports.get l) (max s.now t)
        ∧ ((s.ports.get l).frame = .awaitingHeader ∨ (s.ports.get l).frame = .headerLost) ∧ y = .awaitingHeader) :
    exec c s = .next (latchEdges s (keepIdleTimer (linkWritten s l (max s.now t)
      (((s.ports.get l).afterBadHeader (max s.now t)).reading y) s.store s.flagUnit))) := by
  obtain ⟨bytes, rfl, bad, awaits, rfl⟩ | ⟨rfl, hears, frame, rfl⟩ := hc
  · have written : badHeader l ((s.advance t).setPort l ((s.ports.get l).reading .skipping)) =
        (s.advance t).setPort l (((s.ports.get l).reading .skipping).afterBadHeader (max s.now t)) := by
      have unfilled : fillingIndex ((s.advance t).setPort l ((s.ports.get l).reading .skipping)) l = none :=
        (fillingIndex_congr rfl l).trans hf
      rw [badHeader_eq (by rw [State.get_setPort]; rfl) unfilled, State.get_setPort, State.setPort_setPort]
      rfl
    rw [reading_afterBadHeader] at written
    exact (exec_frameHeader_bad bad hj awaits).trans
      (congrArg (fun x => Host.Outcome.next (latchEdges s (keepIdleTimer x))) written)
  · have outside : ((s.advance t).ports.get l).frame.inPacket = false := by
      obtain h | h := frame <;> (rw [State.advance_ports, h]; rfl)
    have cut : badHeader l (endFrame l (s.advance t)) =
        (s.advance t).setPort l ((s.ports.get l).afterBadHeader (max s.now t)) := by
      have unfilled : fillingIndex (s.advance t) l = none := (fillingIndex_congr rfl l).trans hf
      rw [endFrame_of_nothing outside unfilled, badHeader_eq outside unfilled]
      rfl
    have written : (badHeader l (endFrame l (s.advance t))).setFrame l .awaitingHeader =
        linkWritten s l (max s.now t) (((s.ports.get l).afterBadHeader (max s.now t)).reading .awaitingHeader)
          s.store s.flagUnit := by
      rw [cut, State.setFrame, State.get_setPort, State.setPort_setPort]
      rfl
    rw [exec_frameDelimiter hears hj, ← written]
    obtain h | h := frame <;> rw [h]

/-- Settles O44: a delimiter between headers, twelve bytes that are not judged, and the port after a bad header in each
link state that judges headers. -/
theorem delimitersAndBadHeaders : Obligations.DelimitersAndBadHeaders := by
  unfold Obligations.DelimitersAndBadHeaders
  refine ⟨fun s t l hh hj ha hl => ?_, fun s t l bytes h => exec_frameHeader_unheard bytes h, fun s t l c y => ?_⟩
  · exact ⟨_, exec_frameDelimiter_between hh hj ha hl, linkEvent_left (endFrame_raises l (s.advance t)) l _ _ _⟩
  intro p hf hc becomes
  have becomes_of : ∀ x st : LinkState, p.state = x → x.judges = true →
      (p.afterBadHeader (max s.now t)).reading y = { p with state := st, frame := y } → becomes st := by
    intro x st hx hj hst
    have taken := exec_badHeader hf (hx ▸ hj) hc
    rw [hst] at taken
    exact ⟨_, taken, linkEvent_left (.none s.flagUnit) l _ _ _⟩
  refine ⟨fun e hx => ?_, fun e good hx => ?_, fun since hx => ?_, fun bad since hbad hx => ?_, fun e good hx => ?_⟩
  · exact becomes_of _ _ hx rfl (by simp only [Port.afterBadHeader, Port.reading, hx])
  · exact becomes_of _ _ hx rfl (by simp only [Port.afterBadHeader, Port.reading, hx])
  · exact becomes_of _ _ hx rfl (by simp only [Port.afterBadHeader, Port.reading, hx]; rfl)
  · have second : ¬bad + 1 < 2 := by omega
    exact becomes_of _ _ hx rfl (by simp only [Port.afterBadHeader, Port.reading, hx, if_neg second])
  · exact becomes_of _ _ hx rfl (by simp only [Port.afterBadHeader, Port.reading, hx])

end Sys2Proof.Machine
end

section
/-!
PROOFS. Good headers of a link that is LOCKED or becomes so, and the admission of a frame to the Frame Store.
-/
namespace Sys2Proof.Machine

open Sys2Proof

/-! ### Admission (R92, R93) -/

theorem holdsTarget_iff (q : Quad Slot) (t : Period) :
    holdsTarget q t = true ↔ ∃ i : SlotIndex, (q.get i).target = some t := by
  unfold holdsTarget
  constructor
  · intro h
    obtain ⟨i, hi⟩ := Option.isSome_iff_exists.mp h
    exact ⟨i, beq_iff_eq.mp (Quad.find_some hi)⟩
  · rintro ⟨i, hi⟩
    by_contra h
    rw [Option.not_isSome_iff_eq_none] at h
    exact Bool.false_ne_true ((Quad.find_none h i).symm.trans (beq_iff_eq.mpr hi))

/-- The tests of R92 in their order, while D is defined. -/
theorem admissionFailure_of_dome {s : State} {d : Period} (hd : s.dome = some d) (l : Link) (h : Header) :
    admissionFailure l h s =
      if s.part.state.inStandby = true then some .standby
      else if atOrBefore h.target d = true then some .stale
      else if laterThan h.target (d + 16) = true then some .early
      else if holdsTarget (s.store.get l).slots h.target = true then some .duplicate
      else if (s.store.get l).slots.find Slot.isFree = none then some .storeFull
      else none := by
  simp only [admissionFailure, hd, Option.isNone_iff_eq_none]

theorem offerFrame_of_failure {s : State} {l : Link} {h : Header} {cause : DropCause}
    (hc : admissionFailure l h s = some cause) : offerFrame l h s = dropFrame l cause s := by
  simp only [offerFrame, hc]

/-- A frame that passes every test goes into the lowest FREE slot. -/
theorem offerFrame_of_admission {s : State} {l : Link} {h : Header} {i : SlotIndex}
    (hc : admissionFailure l h s = none) (hi : (s.store.get l).slots.find Slot.isFree = some i) :
    offerFrame l h s = s.setSlot ⟨l, i⟩ (.filling ⟨h.target, h.width, h.height, h.encoding, []⟩) := by
  simp only [offerFrame, hc, hi]

theorem dropFrame_part (l : Link) (cause : DropCause) (s : State) : (dropFrame l cause s).part = s.part :=
  raise_part _ _

/-- An offered frame is dropped, or fills a slot that was FREE. -/
theorem offerFrame_cases (l : Link) (h : Header) (s : State) :
    (∃ cause, offerFrame l h s = dropFrame l cause s) ∨ offerFrame l h s = s
    ∨ ∃ i : SlotIndex, admissionFailure l h s = none ∧ (s.store.get l).slots.find Slot.isFree = some i
        ∧ offerFrame l h s = s.setSlot ⟨l, i⟩ (.filling ⟨h.target, h.width, h.height, h.encoding, []⟩) := by
  cases hc : admissionFailure l h s with
  | some cause => exact .inl ⟨cause, offerFrame_of_failure hc⟩
  | none =>
    cases hi : (s.store.get l).slots.find Slot.isFree with
    | none => exact .inr (.inl (by simp only [offerFrame, hc, hi]))
    | some i => exact .inr (.inr ⟨i, rfl, rfl, offerFrame_of_admission hc hi⟩)

theorem offerFrame_part (l : Link) (h : Header) (s : State) : (offerFrame l h s).part = s.part := by
  obtain ⟨cause, hx⟩ | hx | ⟨i, -, -, hx⟩ := offerFrame_cases l h s <;> rw [hx]
  · exact dropFrame_part l cause s
  · rfl

/-! ### Good headers (R112, R113) -/

theorem exec_frameHeader_good {s : State} {l : Link} {t : Nat} {bytes : BitVec 96} {h : Header}
    (hb : h.carriedBy bytes) (hj : (s.ports.get l).state.judges = true)
    (ha : awaitsHeader (s.ports.get l) (max s.now t)) :
    exec (.frameHeader t l bytes) s = .next (latchEdges s (keepIdleTimer (goodHeader l h (s.advance t)))) := by
  have expects := (expectsHeader_iff_awaitsHeader _ _).mpr ⟨hj, ha⟩
  simp only [exec, execFrameHeader, State.advance_ports, State.advance_now, expects, if_true,
    (headerOf_eq_some_iff bytes h).mpr hb, linkEvent]
  rfl

theorem rising_iff (p : Port) (t : Period) : p.rising t = true ↔ ∀ q, p.previous = some q → laterThan t q = true := by
  unfold Port.rising
  cases p.previous <;> simp

/-- A part in AUTOMATIC standby wakes at a lock (R183). -/
theorem wakeOnLock_eq (s : State) :
    wakeOnLock s = s.setPartState
      (if s.part.state = .standby .automatic then .waking (s.now + 200000) else s.part.state) := by
  unfold wakeOnLock
  split
  · next h => rw [h, if_pos rfl]; rfl
  all_goals
    next h =>
      rw [if_neg (by rw [h]; nofun)]
      rfl

/-- The state in which the frame of a good header is offered or dropped: its body is being read. -/
def headerRead (s : State) (t : Nat) (l : Link) (h : Header) (x : LinkState) (fromAligned : Bool) (st : PartState) :
    State :=
  { s with
    now := max s.now t
    part := { s.part with state := st }
    ports := s.ports.set l { s.ports.get l with
      state := x, previous := some h.target, frame := .body ⟨h, 0, true, 0, [], !(s.ports.get l).signal⟩
      fromAligned := fromAligned } }

/-- The good header that makes the fourth. -/
theorem lockAndOffer_eq (s : State) (t : Nat) (l : Link) (h : Header) (fromAligned : Bool) :
    lockAndOffer l fromAligned h (s.advance t) = offerFrame l h (headerRead s t l h (.locked 0 (max s.now t)) fromAligned
      (if s.part.state = .standby .automatic then .waking (max s.now t + 200000) else s.part.state)) := by
  rw [lockAndOffer, enterLocked, beginBody, State.get_setPort, State.setPort_setPort, wakeOnLock_eq]
  rfl

theorem goodHeader_fourth {s : State} {l : Link} {h : Header} {e : Nat} {fromAligned : Bool}
    (hx : (s.ports.get l).state = if fromAligned then .aligned e 3 else .holdover e 3)
    (hr : (s.ports.get l).rising h.target = true) : goodHeader l h s = lockAndOffer l fromAligned h s := by
  cases fromAligned
  · simp only [Bool.false_eq_true, if_false] at hx
    simp [goodHeader, hx, hr]
  · simp only [if_true] at hx
    simp [goodHeader, hx, hr]

theorem goodHeader_locked {s : State} {l : Link} {bad since : Nat} (hx : (s.ports.get l).state = .locked bad since)
    (t : Nat) (h : Header) :
    goodHeader l h (s.advance t) =
      if (s.ports.get l).rising h.target = true then
        offerFrame l h (headerRead s t l h (.locked 0 since) (s.ports.get l).fromAligned s.part.state)
      else dropFrame l .duplicate (headerRead s t l h (.locked 0 since) (s.ports.get l).fromAligned s.part.state) := by
  have read : (beginBody l h true (s.advance t)).setLinkState l (.locked 0 since) =
      headerRead s t l h (.locked 0 since) (s.ports.get l).fromAligned s.part.state := by
    rw [beginBody, State.setLinkState, State.get_setPort, State.setPort_setPort]
    rfl
  simp only [goodHeader, State.advance_ports, hx, read]

/-- A header's event leaves what its frame has done, with the idle timer of R182. -/
theorem headerEvent_idle {s x : State} (hx : x.part.idleTimer = s.part.idleTimer) :
    ∃ e, keepIdleTimer x = { x with part := { x.part with idleTimer := e } }
      ∧ followsIdleRule s.part.idleTimer { x with part := { x.part with idleTimer := e } } :=
  ⟨idleTimerAfter x, rfl, hx ▸ followsIdleRule_keepIdleTimer x⟩

/-- Settles O46: the fourth good header, good headers of a LOCKED link, and the tests of R92 one by one. -/
theorem headersOfALockedLink : Obligations.HeadersOfALockedLink := by
  unfold Obligations.HeadersOfALockedLink
  refine ⟨fun s t l bytes h hb ha => ?_, fun s l h => ⟨fun _ => rfl, fun hd => ?_, fun d hd => ?_⟩⟩
  · intro p now read rises answer
    have answer_of : ∀ x : State, p.state.judges = true → goodHeader l h (s.advance t) = x →
        x.part.idleTimer = s.part.idleTimer → answer x := by
      intro x hj hx timer
      obtain ⟨e, kept, idle⟩ := headerEvent_idle timer
      exact ⟨e, by rw [exec_frameHeader_good hb hj ha, hx, kept], idle⟩
    have offered : ∀ y : State, y.part.idleTimer = s.part.idleTimer →
        (offerFrame l h y).part.idleTimer = s.part.idleTimer := fun y hy => by rw [offerFrame_part, hy]
    refine ⟨fun e fromAligned hx hr => ?_, fun bad since hx hr => ?_, fun bad since hx hr => ?_⟩
    · have fourth := goodHeader_fourth (s := s.advance t) (h := h) hx ((rising_iff _ _).mpr hr)
      rw [lockAndOffer_eq] at fourth
      exact answer_of _ (by rw [hx]; cases fromAligned <;> rfl) fourth (offered _ rfl)
    · have rising : (s.ports.get l).rising h.target = true := (rising_iff _ _).mpr hr
      have locked := goodHeader_locked hx t h
      rw [if_pos rising] at locked
      exact answer_of _ (by rw [hx]; rfl) locked (offered _ rfl)
    · have falling : ¬(s.ports.get l).rising h.target = true := fun hp => hr ((rising_iff _ _).mp hp)
      have locked := goodHeader_locked hx t h
      rw [if_neg falling] at locked
      refine answer_of _ (by rw [hx]; rfl) locked ?_
      rw [dropFrame_part]
  · exact offerFrame_of_failure (by simp only [admissionFailure, hd])
  · have tests := admissionFailure_of_dome hd l h
    refine ⟨fun hstandby => ?_, fun hawake => ⟨fun hstale => ?_, fun hfresh hearly => ?_, fun hfresh hnear hheld => ?_,
      fun hfresh hnear hnew hfull => ?_, fun i hfresh hnear hnew hfree => ?_⟩⟩
    · rw [if_pos hstandby] at tests
      exact offerFrame_of_failure tests
    all_goals rw [if_neg (by rw [hawake]; exact Bool.false_ne_true)] at tests
    · rw [if_pos hstale] at tests
      exact offerFrame_of_failure tests
    all_goals rw [if_neg (by rw [hfresh]; exact Bool.false_ne_true)] at tests
    · rw [if_pos hearly] at tests
      exact offerFrame_of_failure tests
    all_goals rw [if_neg (by rw [hnear]; exact Bool.false_ne_true)] at tests
    · rw [if_pos ((holdsTarget_iff _ _).mpr hheld)] at tests
      exact offerFrame_of_failure tests
    all_goals rw [if_neg (mt (holdsTarget_iff _ _).mp hnew)] at tests
    · rw [if_pos hfull] at tests
      exact offerFrame_of_failure tests
    · rw [if_neg (by rw [hfree]; exact Option.some_ne_none i)] at tests
      exact offerFrame_of_admission tests hfree

end Sys2Proof.Machine
end

section
/-!
PROOFS. Pixel lines: which bytes are a line, where its pixels are stored, the last line of a frame, and the pixels.
-/
namespace Sys2Proof.Machine

open Sys2Proof

/-! ### The pixels of a line (R106) -/

/-- The two bytes of a number of 16 bits, most significant first, are the number. -/
theorem bytes_append (x : Word16) : BitVec.ofNat 8 (x.toNat / 256) ++ BitVec.ofNat 8 x.toNat = x :=
  (ofNat_append_ofNat 8 8 x.toNat).trans (BitVec.ofNat_toNat 16 x)

/-- GAMMA10 keeps the low ten bits of a component. -/
theorem append_and_lowTen (upper : BitVec 6) (x : BitVec 10) : (upper ++ x) &&& 0x3FF#16 = x.setWidth 16 := by
  rw [show 0x3FF#16 = (BitVec.allOnes 10).setWidth 16 from rfl]
  apply BitVec.eq_of_getLsbD_eq
  intro i hi
  rw [BitVec.getLsbD_and, BitVec.getLsbD_append, BitVec.getLsbD_setWidth, BitVec.getLsbD_setWidth,
    BitVec.getLsbD_allOnes]
  by_cases h : i < 10
  · simp [h, hi]
  · simp [h, BitVec.getLsbD_of_ge x i (not_lt.mp h)]

theorem component_lin16 (x : Word16) :
    component .lin16 (BitVec.ofNat 8 (x.toNat / 256)) (BitVec.ofNat 8 x.toNat) = x := bytes_append x

theorem component_gamma10 (upper : BitVec 6) (x : BitVec 10) :
    component .gamma10 (BitVec.ofNat 8 ((upper ++ x).toNat / 256)) (BitVec.ofNat 8 (upper ++ x).toNat) =
      x.setWidth 16 := by
  rw [component, bytes_append]
  exact append_and_lowTen upper x

/-- A pixel is six bytes, two for each component. -/
theorem pixelsOf_sent (e : FrameEncoding) (r g b : Word16) (rest : List Byte) :
    pixelsOf e (beBytes 2 r.toNat ++ beBytes 2 g.toNat ++ beBytes 2 b.toNat ++ rest) =
      ⟨component e (BitVec.ofNat 8 (r.toNat / 256)) (BitVec.ofNat 8 r.toNat),
        component e (BitVec.ofNat 8 (g.toNat / 256)) (BitVec.ofNat 8 g.toNat),
        component e (BitVec.ofNat 8 (b.toNat / 256)) (BitVec.ofNat 8 b.toNat)⟩ :: pixelsOf e rest := by
  rw [beBytes_two, beBytes_two, beBytes_two]
  rfl

/-- As many pixels as there are sixes of bytes. -/
theorem length_pixelsOf (e : FrameEncoding) (w : Nat) (bytes : List Byte) (h : bytes.length = 6 * w) :
    (pixelsOf e bytes).length = w := by
  induction w generalizing bytes with
  | zero =>
    rw [List.length_eq_zero_iff.mp h]
    rfl
  | succ w ih =>
    match bytes, h with
    | r1 :: r0 :: g1 :: g0 :: b1 :: b0 :: rest, h =>
      simp only [List.length_cons] at h
      rw [pixelsOf, List.length_cons, ih rest (by omega)]

/-! ### Lines (R94, R104) -/

theorem takesLine_iff_lineTaken (p : Port) (now : Nat) (b : FrameBody) (bytes : List Byte) :
    (p.takesLine now b && bytes.length == 6 * b.header.width) = true ↔ lineTaken p now b bytes := by
  rw [Bool.and_eq_true, takesLine_iff, lossFalls_iff, beq_iff_eq, and_comm, lineTaken]

/-- The state in which a line of the frame body is stored: it has been counted. -/
def lineCounted (s : State) (t : Nat) (l : Link) (b : FrameBody) : State :=
  { s with
    now := max s.now t
    ports := s.ports.set l { s.ports.get l with frame := .body { b with lines := b.lines + 1 } } }

theorem exec_pixelLine_taken {s : State} {t : Nat} {l : Link} {bytes : List Byte} {b : FrameBody}
    (hb : (s.ports.get l).frame = .body b) (ht : lineTaken (s.ports.get l) (max s.now t) b bytes) :
    exec (.pixelLine t l bytes) s =
      .next (storeLine l (pixelsOf b.header.encoding bytes) (lineCounted s t l b)) := by
  have takes := (takesLine_iff_lineTaken _ _ _ _).mpr ht
  simp only [exec, execPixelLine, State.advance_ports, State.advance_now, hb, takes, if_true]
  rfl

/-- Bytes that are no line of the frame being read let their time pass. -/
theorem exec_pixelLine_other {s : State} {t : Nat} {l : Link} {bytes : List Byte}
    (h : ∀ b, (s.ports.get l).frame = .body b → ¬lineTaken (s.ports.get l) (max s.now t) b bytes) :
    exec (.pixelLine t l bytes) s = .next { s with now := max s.now t } := by
  cases hb : (s.ports.get l).frame with
  | body b =>
    have leaves : ((s.ports.get l).takesLine (max s.now t) b && bytes.length == 6 * b.header.width) = false :=
      Bool.eq_false_iff.mpr (mt (takesLine_iff_lineTaken _ _ _ _).mp (h b hb))
    simp only [exec, execPixelLine, State.advance_ports, State.advance_now, hb, leaves, Bool.false_eq_true, if_false]
    rfl
  | none | awaitingHeader | headerLost | skipping =>
    simp only [exec, execPixelLine, State.advance_ports, hb]
    rfl

theorem storeLine_unfilled {s : State} {l : Link} (h : fillingIndex s l = none) (line : List Pixel) :
    storeLine l line s = s := by
  simp only [storeLine, h]

/-- The FILLING frame with one more line. -/
def Frame.withLine (f : Frame) (line : List Pixel) : Frame := { f with lines := f.lines ++ [line] }

/-- A line of a FILLING frame is stored behind the others; the last one completes the frame. -/
theorem storeLine_filling {s : State} {l : Link} {i : SlotIndex} {f : Frame} (hi : fillingIndex s l = some i)
    (hf : s.slot ⟨l, i⟩ = .filling f) (line : List Pixel) :
    storeLine l line s =
      if (f.withLine line).lines.length < f.height then s.setSlot ⟨l, i⟩ (.filling (f.withLine line))
      else completeFrame l i (f.withLine line) s := by
  simp only [storeLine, hi, hf]
  rfl

/-- A frame completed in time: its slot is COMPLETE without a viewer, and its lead stands first (R94, R96). -/
theorem completeFrame_inTime {s : State} {l : Link} {f : Frame} {d : Period} (hd : s.dome = some d)
    (hl : laterThan f.target d = true) (i : SlotIndex) :
    completeFrame l i f s = { s with
      store := s.store.set l { s.store.get l with
        slots := (s.store.get l).slots.set i (.complete f ⟨false, false⟩)
        leads := ((f.target - d).toNat :: (s.store.get l).leads).take 64 } } := by
  simp only [completeFrame, hd, hl, if_true]
  cases l <;> rfl

theorem completeFrame_late {s : State} {l : Link} {f : Frame} {d : Period} (hd : s.dome = some d)
    (hl : laterThan f.target d = false) (i : SlotIndex) :
    completeFrame l i f s = dropFrame l .late (s.setSlot ⟨l, i⟩ .free) := by
  simp only [completeFrame, hd, hl, Bool.false_eq_true, if_false]

/-- Settles O47: a line with and without a FILLING slot, the last line in time and late, bytes that are no line, and the
pixels of a line. -/
theorem pixelLinesFillAndComplete : Obligations.PixelLinesFillAndComplete := by
  unfold Obligations.PixelLinesFillAndComplete
  refine ⟨fun s t l bytes b hb ht => ?_, fun s t l bytes h => exec_pixelLine_other h,
    fun e r g b upper rest => ⟨rfl, ?_, fun x y z => ?_⟩⟩
  · have taken := exec_pixelLine_taken hb ht
    have filled : ∀ (i : SlotIndex) (f : Frame), fillingIndex s l = some i → s.slot ⟨l, i⟩ = .filling f →
        exec (.pixelLine t l bytes) s = .next
          (if (f.withLine (pixelsOf b.header.encoding bytes)).lines.length < f.height then
            (lineCounted s t l b).setSlot ⟨l, i⟩ (.filling (f.withLine (pixelsOf b.header.encoding bytes)))
          else completeFrame l i (f.withLine (pixelsOf b.header.encoding bytes)) (lineCounted s t l b)) := by
      intro i f hi hf
      have counted : fillingIndex (lineCounted s t l b) l = some i := (fillingIndex_congr rfl l).trans hi
      rw [taken, storeLine_filling counted hf]
    refine ⟨fun hnone => ?_, fun i f hi hf => ⟨fun hmore => ?_, fun d hlast hd hlater => ?_, fun d hlast hd hlate => ?_⟩⟩
    · have counted : fillingIndex (lineCounted s t l b) l = none := (fillingIndex_congr rfl l).trans hnone
      rw [taken, storeLine_unfilled counted]
      rfl
    · have more : (f.withLine (pixelsOf b.header.encoding bytes)).lines.length < f.height := hmore
      rw [filled i f hi hf, if_pos more]
      rfl
    · have whole : ¬(f.withLine (pixelsOf b.header.encoding bytes)).lines.length < f.height := not_lt.mpr hlast
      have last := filled i f hi hf
      rw [if_neg whole, completeFrame_inTime (s := lineCounted s t l b) (f := f.withLine _) (d := d) hd hlater] at last
      exact last
    · have whole : ¬(f.withLine (pixelsOf b.header.encoding bytes)).lines.length < f.height := not_lt.mpr hlast
      have last := filled i f hi hf
      rw [if_neg whole, completeFrame_late (s := lineCounted s t l b) (f := f.withLine _) (d := d) hd hlate] at last
      exact last
  · rw [pixelsOf_sent, component_lin16, component_lin16, component_lin16]
  · rw [pixelsOf_sent, component_gamma10, component_gamma10, component_gamma10]

end Sys2Proof.Machine
end

section
/-!
PROOFS. The slots at a period start: changes of viewers, the release, and the frames that are being filled.
-/
namespace Sys2Proof.Machine

open Sys2Proof

/-! ### Targets at a start that gives D (R1, R99, R100) -/

theorem before_iff (t d : Period) : before t d = true ↔ atOrBefore t d = true ∧ t ≠ d := by
  simp [before]

/-- The release test is met outside D to D + 16. -/
theorem releasable_eq_false_iff (t d : Period) : releasable t d = false ↔ (t - d).toNat ≤ 16 := by
  have ht := t.isLt
  have hd := d.isLt
  simp only [releasable, before, laterThan, atOrBefore, Bool.or_eq_false_iff, Bool.and_eq_false_iff,
    decide_eq_false_iff_not, bne_eq_false_iff_eq, Bool.not_eq_false', decide_eq_true_eq, BitVec.toNat_sub,
    BitVec.toNat_add, show (16 : Period).toNat = 16 from rfl]
  rw [← BitVec.toNat_inj]
  omega

/-! ### One slot at a start (R98 to R101) -/

/-- What is left of a slot at a start before the FILLING ones are tested: a COMPLETE frame may be freed if it meets the
release test, and may have other viewers. -/
def Slot.Remains (d : Option Period) (x y : Slot) : Prop :=
  match x with
  | .free => y = .free
  | .filling f => y = .filling f
  | .complete f _ => (∃ v, y = .complete f v) ∨ y = .free ∧ ∃ e ∈ d, releasable f.target e = true

theorem Slot.Remains.refl (d : Option Period) (x : Slot) : x.Remains d x := by
  cases x with
  | free | filling _ => rfl
  | complete f v => exact .inl ⟨v, rfl⟩

theorem Slot.Remains.trans {d : Option Period} {x y z : Slot} (h : x.Remains d y) (h' : y.Remains d z) :
    x.Remains d z := by
  cases x with
  | free | filling _ =>
    cases h
    exact h'
  | complete f v =>
    obtain ⟨w, rfl⟩ | ⟨rfl, passed⟩ := h
    · exact h'
    · exact .inr ⟨h', passed⟩

theorem Slot.Remains.isFilling {d : Option Period} {x y : Slot} (h : x.Remains d y) : y.isFilling = x.isFilling := by
  cases x with
  | free | filling _ =>
    cases h
    rfl
  | complete f v => obtain ⟨w, rfl⟩ | ⟨rfl, -⟩ := h <;> rfl

theorem Slot.Remains.filling {d : Option Period} {x y : Slot} (h : x.Remains d y) {f : Frame} (hx : x = .filling f) :
    y = .filling f := by
  subst hx
  exact h

theorem remains_release (d : Option Period) (x : Slot) : x.Remains d (x.release d) := by
  cases x with
  | free | filling _ => rfl
  | complete f v =>
    cases d with
    | none => exact .inl ⟨v, rfl⟩
    | some e =>
      simp only [Slot.release]
      split_ifs with h
      · exact .inr ⟨rfl, e, rfl, (Bool.and_eq_true _ _ ▸ h).2⟩
      · exact .inl ⟨v, rfl⟩

theorem remains_leave (o : Out) (d : Option Period) (x : Slot) : x.Remains d (x.leave o d) := by
  cases x with
  | free | filling _ => rfl
  | complete f v =>
    have changed : (Slot.complete f v).Remains d (.complete f (v.set o false)) := .inl ⟨_, rfl⟩
    exact changed.trans (remains_release d _)

theorem remains_join (o : Out) (d : Option Period) (x : Slot) : x.Remains d (x.join o) := by
  cases x with
  | free | filling _ => rfl
  | complete f v => exact .inl ⟨_, rfl⟩

/-! ### The slots that the controllers leave (R98, R101, R139) -/

/-- D and what is left of every slot, before the FILLING ones are tested. -/
structure Remain (s s' : State) : Prop where
  dome : s'.dome = s.dome
  slots : ∀ i : SlotId, (s.slot i).Remains s.dome (s'.slot i)

theorem Remain.refl (s : State) : Remain s s := ⟨rfl, fun _ => .refl _ _⟩

theorem Remain.trans {s t u : State} (h : Remain s t) (h' : Remain t u) : Remain s u where
  dome := h'.dome.trans h.dome
  slots i := (h.slots i).trans (h.dome ▸ h'.slots i)

theorem Remain.of_store {s s' : State} (hd : s'.dome = s.dome) (hs : s'.store = s.store) : Remain s s' where
  dome := hd
  slots i := by
    rw [State.slot, State.slot, hs]
    exact .refl _ _

theorem remain_setSlot {s : State} {i : SlotId} {x : Slot} (h : (s.slot i).Remains s.dome x) :
    Remain s (s.setSlot i x) := by
  refine ⟨rfl, fun j => ?_⟩
  by_cases hj : j = i
  · rw [hj, State.slot_setSlot_same]
    exact h
  · rw [State.slot_setSlot_other s x hj]
    exact .refl _ _

theorem remain_moveViewer (o : Out) (old new : Option SlotId) (s : State) : Remain s (moveViewer o old new s) := by
  have left : ∀ i : SlotId, Remain s (s.setSlot i ((s.slot i).leave o s.dome)) := fun i =>
    remain_setSlot (remains_leave o _ _)
  have joined : ∀ (t : State) (i : SlotId), Remain t (t.setSlot i ((t.slot i).join o)) := fun t i =>
    remain_setSlot (remains_join o _ _)
  unfold moveViewer
  split_ifs
  · exact .refl s
  · cases old with
    | none => cases new with
      | none => exact .refl s
      | some j => exact joined s j
    | some i => cases new with
      | none => exact left i
      | some j => exact (left i).trans (joined _ j)

theorem remain_controllerWork (o : Out) (s : State) : Remain s (controllerWork o s) := by
  unfold controllerWork
  dsimp only
  refine Remain.trans ?_ (remain_moveViewer o _ _ _)
  exact .of_store (congrArg (fun c : Clock => c.state.dome) (raiseIf_clock _ _ _)) (raiseIf_store _ _ _)

/-- The state that the release finds at a start: the verifications, the scheduler and the controllers have done their
work. -/
def beforeRelease (s : State) : State :=
  controllerWork .out1 (controllerWork .out0 (schedulerWork (verificationsAtStart s)))

theorem remain_scheduler (s : State) : Remain s (schedulerWork (verificationsAtStart s)) := by
  rw [schedulerWork_part, verificationsAtStart_eq]
  exact .of_store rfl rfl

theorem remain_beforeRelease (s : State) : Remain s (beforeRelease s) :=
  ((remain_scheduler s).trans (remain_controllerWork .out0 _)).trans (remain_controllerWork .out1 _)

/-- The store that a start leaves is that of the release. -/
theorem store_periodStart (before s : State) :
    (periodStart before s).store = (releaseWork (beforeRelease s)).store := by
  rw [periodStart, store_sendReturnFrames, startWork, store_beginRasters, beforeRelease]

theorem slot_of_store {s s' : State} (h : s'.store = s.store) (i : SlotId) : s'.slot i = s.slot i := by
  rw [State.slot, h, State.slot]

/-! ### A FILLING slot is freed (R95, R100) -/

theorem store_dropFilling (l : Link) (cause : DropCause) (s : State) :
    (dropFilling l cause s).store = fillingDropped s l cause := by
  rw [dropFilling_eq_raiseIf, raiseIf_store]

theorem fillingDropped_some {s : State} {l : Link} {i : SlotIndex} (h : fillingIndex s l = some i)
    (cause : DropCause) :
    (fillingDropped s l cause).get l =
      { s.store.get l with slots := (s.store.get l).slots.set i .free, lastDrop := cause } := by
  simp only [fillingDropped, h, PerLink.get_set_same]

theorem fillingIndex_some {s : State} {l : Link} {i : SlotIndex} (h : fillingIndex s l = some i) :
    ∃ f, s.slot ⟨l, i⟩ = .filling f := by
  have filling := Quad.find_some h
  change (s.slot ⟨l, i⟩).isFilling = true at filling
  cases hx : s.slot ⟨l, i⟩ with
  | filling f => exact ⟨f, rfl⟩
  | free | complete _ _ => simp [hx, Slot.isFilling] at filling

theorem fillingIndex_none {s : State} {l : Link} (h : fillingIndex s l = none) (i : SlotIndex) :
    (s.slot ⟨l, i⟩).isFilling = false := Quad.find_none h i

/-- Each link fills at most one slot (R91). -/
def OneFilling (s : State) (l : Link) : Prop :=
  ∀ i j : SlotIndex, (s.slot ⟨l, i⟩).isFilling = true → (s.slot ⟨l, j⟩).isFilling = true → i = j

theorem OneFilling.fillingIndex {s : State} {l : Link} (h : OneFilling s l) {i : SlotIndex} {f : Frame}
    (hf : s.slot ⟨l, i⟩ = .filling f) : fillingIndex s l = some i := by
  have filling : (s.slot ⟨l, i⟩).isFilling = true := by rw [hf]; rfl
  cases hx : Machine.fillingIndex s l with
  | none => exact absurd filling (Bool.eq_false_iff.mp (fillingIndex_none hx i))
  | some j => rw [h j i (Quad.find_some hx) filling]

/-- The test of R100, on the frame that a link is filling. -/
theorem testFilling_of_filling {s : State} {l : Link} {i : SlotIndex} {f : Frame} {d : Period} (hd : s.dome = some d)
    (hi : fillingIndex s l = some i) (hf : s.slot ⟨l, i⟩ = .filling f) :
    testFilling l s =
      if before f.target d then dropFilling l .late s
      else if laterThan f.target (d + 16) then dropFilling l .early s
      else s := by
  simp only [testFilling, hd, hi, hf, Slot.target]

theorem testFilling_of_none {s : State} {l : Link} (h : s.dome = none ∨ fillingIndex s l = none) :
    testFilling l s = s := by
  obtain h | h := h
  · simp only [testFilling, h]
  · simp only [testFilling, h]
    split <;> simp_all

end Sys2Proof.Machine
end

section
/-!
PROOFS. The release at a start: what it leaves of every slot, and the cause and the flag of a frame dropped LATE or EARLY.
-/
namespace Sys2Proof.Machine

open Sys2Proof

/-! ### What concerns one link at the release -/

/-- The flag of FRAME_DROP of a link. -/
def State.dropFlag (s : State) (l : Link) : Bool := s.flagUnit.flags.getLsbD (Event.frameDrop l).number

/-- D, the store of a link, its flag of FRAME_DROP and the enables are the same in two states. -/
structure SameLink (l : Link) (s s' : State) : Prop where
  dome : s'.dome = s.dome
  store : s'.store.get l = s.store.get l
  rising : s'.flagUnit.rising = s.flagUnit.rising
  flag : s'.dropFlag l = s.dropFlag l

theorem SameLink.refl (l : Link) (s : State) : SameLink l s s := ⟨rfl, rfl, rfl, rfl⟩

theorem SameLink.slot {l : Link} {s s' : State} (h : SameLink l s s') (i : SlotIndex) :
    s'.slot ⟨l, i⟩ = s.slot ⟨l, i⟩ := congrArg (fun x : LinkStore => x.slots.get i) h.store

theorem frameDrop_number_lt (l : Link) : (Event.frameDrop l).number < 24 := by
  cases l <;> decide

theorem dropFlag_raiseIf_other (s : State) (b : Bool) {e : Event} {l : Link} (h : (Event.frameDrop l).number ≠ e.number) :
    (s.raiseIf b e).dropFlag l = s.dropFlag l := by
  rw [State.dropFlag, raiseIf_flag s b e (frameDrop_number_lt l), beq_eq_false_iff_ne.mpr h, Bool.false_and,
    Bool.and_false, Bool.or_false]
  rfl

theorem sameLink_dropFilling {l m : Link} (h : m ≠ l) (cause : DropCause) (s : State) :
    SameLink l s (dropFilling m cause s) := by
  have number : (Event.frameDrop l).number ≠ (Event.frameDrop m).number := by
    intro e
    cases l <;> cases m
    · exact h rfl
    · cases e
    · cases e
    · exact h rfl
  rw [dropFilling_eq_raiseIf]
  refine ⟨congrArg (fun c : Clock => c.state.dome) (raiseIf_clock _ _ _), ?_, raiseIf_rising _ _ _, ?_⟩
  · rw [raiseIf_store]
    exact fillingDropped_other s cause (Ne.symm h)
  · rw [dropFlag_raiseIf_other _ _ number]
    rfl

theorem sameLink_testFilling {l m : Link} (h : m ≠ l) (s : State) : SameLink l s (testFilling m s) := by
  obtain hx | ⟨cause, hx⟩ := testFilling_cases m s <;> rw [hx]
  · exact .refl l s
  · exact sameLink_dropFilling h cause s

/-- The state in which the COMPLETE slots have been tested, and the FILLING ones have not (R99). -/
def completeReleased (s : State) : State :=
  { s with store := s.store.map fun st => { st with slots := st.slots.map (Slot.release s.dome) } }

theorem slot_completeReleased (s : State) (i : SlotId) :
    (completeReleased s).slot i = (s.slot i).release s.dome := by
  simp only [State.slot, completeReleased, PerLink.get_map, Quad.get_map]

theorem remain_completeReleased (s : State) : Remain s (completeReleased s) :=
  ⟨rfl, fun i => slot_completeReleased s i ▸ remains_release s.dome _⟩

/-- What the release does to a link is the test of its own FILLING slot. -/
theorem releaseWork_link (s : State) (l : Link) :
    ∃ z, SameLink l (completeReleased s) z ∧ SameLink l (testFilling l z) (releaseWork s) := by
  cases l
  · exact ⟨_, .refl _ _, sameLink_testFilling (by decide) (testFilling .a (completeReleased s))⟩
  · exact ⟨testFilling .a (completeReleased s), sameLink_testFilling (by decide) _, .refl _ _⟩

/-! ### The frame that a link is filling (R100) -/

/-- A FILLING slot after the test of R100. -/
def Slot.tested (d : Period) : Slot → Slot
  | .filling f => if releasable f.target d then .free else .filling f
  | .free => .free
  | .complete f v => .complete f v

theorem OneFilling.congr {s s' : State} {l : Link} (h : OneFilling s l)
    (hx : ∀ i : SlotIndex, (s'.slot ⟨l, i⟩).isFilling = (s.slot ⟨l, i⟩).isFilling) : OneFilling s' l :=
  fun i j hi hj => h i j (hx i ▸ hi) (hx j ▸ hj)

theorem slot_of_get {s : State} {i : SlotId} {q : Quad Slot} (h : (s.store.get i.link).slots = q) :
    s.slot i = q.get i.index := congrArg (fun x => Quad.get x i.index) h

/-- The slots of a link after its FILLING one is freed: that one is FREE. -/
theorem slot_dropFilling {s : State} {l : Link} {i : SlotIndex} (hi : fillingIndex s l = some i) (cause : DropCause)
    (j : SlotIndex) : (dropFilling l cause s).slot ⟨l, j⟩ = if j = i then .free else s.slot ⟨l, j⟩ := by
  have slots : ((dropFilling l cause s).store.get l).slots = (s.store.get l).slots.set i .free := by
    rw [store_dropFilling, fillingDropped_some hi]
  rw [slot_of_get (i := ⟨l, j⟩) slots]
  split_ifs with hj
  · rw [hj, Quad.get_set_same]
  · exact Quad.get_set_other _ _ hj

/-- The test frees a frame whose target does not lie in D to D + 16, and leaves every other slot. -/
theorem slot_testFilling {s : State} {d : Period} (hd : s.dome = some d) {l : Link} (one : OneFilling s l)
    (j : SlotIndex) : (testFilling l s).slot ⟨l, j⟩ = (s.slot ⟨l, j⟩).tested d := by
  have stays : ∀ {x : Slot}, x.isFilling = false → x.tested d = x := fun {x} hx => by
    cases x with
    | filling _ => cases hx
    | free | complete _ _ => rfl
  cases hi : fillingIndex s l with
  | none => rw [testFilling_of_none (.inr hi), stays (fillingIndex_none hi j)]
  | some i =>
    obtain ⟨f, hf⟩ := fillingIndex_some hi
    have other : j ≠ i → (s.slot ⟨l, j⟩).tested d = s.slot ⟨l, j⟩ := fun hj => stays <| by
      by_contra filling
      exact hj (one j i (Bool.not_eq_false _ ▸ filling) (by rw [hf]; rfl))
    have dropped : ∀ cause, releasable f.target d = true →
        (dropFilling l cause s).slot ⟨l, j⟩ = (s.slot ⟨l, j⟩).tested d := fun cause passed => by
      rw [slot_dropFilling hi]
      split_ifs with hj
      · rw [hj, hf, Slot.tested, if_pos passed]
      · exact (other hj).symm
    rw [testFilling_of_filling hd hi hf]
    split_ifs with late early
    · exact dropped _ (by rw [releasable, late]; rfl)
    · exact dropped _ (by rw [releasable, early, Bool.or_true])
    · have kept : releasable f.target d = false := by
        rw [releasable, Bool.eq_false_iff.mpr late, Bool.eq_false_iff.mpr early]
        rfl
      by_cases hj : j = i
      · rw [hj, hf, Slot.tested, kept]
        rfl
      · exact (other hj).symm

/-- Every slot after the release at a start that gives D (R99, R100). -/
theorem slot_releaseWork {s : State} {d : Period} (hd : s.dome = some d) (one : ∀ l : Link, OneFilling s l)
    (i : SlotId) : (releaseWork s).slot i = ((s.slot i).release (some d)).tested d := by
  obtain ⟨l, j⟩ := i
  obtain ⟨z, found, left⟩ := releaseWork_link s l
  have filling : OneFilling z l := (one l).congr fun i => by
    rw [found.slot]
    exact ((remain_completeReleased s).slots ⟨l, i⟩).isFilling
  rw [left.slot, slot_testFilling (found.dome.trans hd) filling, found.slot, slot_completeReleased, hd]

/-- A start that gives no D frees no slot. -/
theorem slot_releaseWork_of_no_dome {s : State} (hd : s.dome = none) (i : SlotId) :
    (releaseWork s).slot i = s.slot i := by
  obtain ⟨l, j⟩ := i
  obtain ⟨z, found, left⟩ := releaseWork_link s l
  rw [left.slot, testFilling_of_none (.inl (found.dome.trans hd)), found.slot, slot_completeReleased, hd]
  cases s.slot ⟨l, j⟩ <;> rfl

/-- What a slot released and tested at D holds is COMPLETE with a viewer, or has its target in D to D + 16. -/
theorem kept_of_released (d : Period) (x : Slot) :
    (x.release (some d)).tested d = .free ∨ ((x.release (some d)).tested d).kept d = true := by
  cases x with
  | free => exact .inl rfl
  | filling f =>
    simp only [Slot.release, Slot.tested]
    split_ifs with h
    · exact .inl rfl
    · exact .inr (decide_eq_true ((releasable_eq_false_iff _ _).mp (Bool.eq_false_iff.mpr h)))
  | complete f v =>
    simp only [Slot.release]
    split_ifs with h
    · exact .inl rfl
    · refine .inr ?_
      rw [Bool.and_eq_true, not_and_or, Bool.not_eq_true, Bool.not_eq_true, releasable_eq_false_iff] at h
      simpa [Slot.tested, Slot.kept] using h

/-- A target in D to D + 16 stays in its slot. -/
theorem target_of_released {d x : Period} (near : (x - d).toNat ≤ 16) {y : Slot} (h : y.target = some x) :
    ((y.release (some d)).tested d).target = some x := by
  have stays : releasable x d = false := (releasable_eq_false_iff x d).mpr near
  cases y with
  | free => exact h
  | filling f =>
    cases h
    simp only [Slot.release, Slot.tested, stays, Bool.false_eq_true, if_false, Slot.target]
  | complete f v =>
    cases h
    simp only [Slot.release, Slot.tested, stays, Bool.and_false, Bool.false_eq_true, if_false, Slot.target]

theorem target_of_remains {d x : Period} (near : (x - d).toNat ≤ 16) {y z : Slot} (h : y.Remains (some d) z)
    (hy : y.target = some x) : z.target = some x := by
  cases y with
  | free | filling _ =>
    cases h
    exact hy
  | complete f v =>
    cases hy
    obtain ⟨w, rfl⟩ | ⟨-, e, he, passed⟩ := h
    · rfl
    · cases he
      rw [(releasable_eq_false_iff _ _).mpr near] at passed
      cases passed

/-! ### The last drop cause and the flag of FRAME_DROP (R93, R100) -/

theorem dropFilling_dropped {s : State} {l : Link} {i : SlotIndex} (hi : fillingIndex s l = some i)
    (cause : DropCause) :
    ((dropFilling l cause s).store.get l).lastDrop = cause
    ∧ (dropFilling l cause s).dropFlag l =
        (s.dropFlag l || s.flagUnit.rising.getLsbD (Event.frameDrop l).number) := by
  constructor
  · rw [store_dropFilling, fillingDropped_some hi]
  · rw [dropFilling_eq_raiseIf, hi, State.dropFlag, raiseIf_flag _ _ _ (frameDrop_number_lt l)]
    simp [State.dropFlag]

theorem lastDrop_setSlot (s : State) (i : SlotId) (x : Slot) (l : Link) :
    ((s.setSlot i x).store.get l).lastDrop = (s.store.get l).lastDrop := by
  rw [State.setSlot_store, PerLink.get_set]
  split_ifs with h
  · rw [h]
  · rfl

theorem lastDrop_moveViewer (o : Out) (old new : Option SlotId) (s : State) (l : Link) :
    ((moveViewer o old new s).store.get l).lastDrop = (s.store.get l).lastDrop := by
  unfold moveViewer
  split_ifs
  · rfl
  · cases old <;> cases new <;> simp only [lastDrop_setSlot]

theorem lastDrop_controllerWork (o : Out) (s : State) (l : Link) :
    ((controllerWork o s).store.get l).lastDrop = (s.store.get l).lastDrop := by
  unfold controllerWork
  dsimp only
  rw [lastDrop_moveViewer, raiseIf_eq]
  rfl

theorem dropFlag_fireCue (l : Link) (d : Period) (s : State) (c : Cue) :
    (fireCue d s c).dropFlag l = s.dropFlag l := by
  rw [fireCue, State.dropFlag, appendOutcome_flag _ _ (frameDrop_number_lt l), fireAction_flagUnit]
  cases l <;> simp [State.dropFlag, Event.number]

/-- The Cue Scheduler raises events of its outcomes alone. -/
theorem dropFlag_schedulerWork (l : Link) (s : State) : (schedulerWork s).dropFlag l = s.dropFlag l := by
  unfold schedulerWork
  cases s.dome with
  | none => rfl
  | some d =>
    have fades : (stepFade .out1 (stepFade .out0 s)).flagUnit = s.flagUnit :=
      (stepFade_flagUnit _ _).trans (stepFade_flagUnit _ _)
    have swaps :=
      foldl_keeps (view := State.flagUnit) carryOutSwap_flagUnit allPairs (stepFade .out1 (stepFade .out0 s))
    have cues : ∀ t : State, (fireCues d t).dropFlag l = t.dropFlag l := fun t =>
      foldl_keeps (view := fun s => State.dropFlag s l) (dropFlag_fireCue l d) _
        { t with cues := t.cues.filter fun c => !atOrBefore c.target d }
    exact (cues _).trans (congrArg (·.flags.getLsbD (Event.frameDrop l).number) (swaps.trans fades))

theorem dropFlag_controllerWork (l : Link) (o : Out) (s : State) : (controllerWork o s).dropFlag l = s.dropFlag l := by
  unfold controllerWork
  dsimp only
  rw [moveViewer_eq]
  exact dropFlag_raiseIf_other (s.setController o _) _ (by cases l <;> decide)

/-- Before the release a start drops no frame. -/
theorem beforeRelease_drops (s : State) (l : Link) :
    ((beforeRelease s).store.get l).lastDrop = (s.store.get l).lastDrop
    ∧ (beforeRelease s).dropFlag l = s.dropFlag l
    ∧ (beforeRelease s).flagUnit.rising = s.flagUnit.rising := by
  have verified : (verificationsAtStart s).flagUnit = s.flagUnit := by rw [verificationsAtStart_eq]
  have store : (schedulerWork (verificationsAtStart s)).store = s.store := by
    rw [schedulerWork_part, verificationsAtStart_eq]
    rfl
  refine ⟨?_, ?_, ?_⟩
  · rw [beforeRelease, lastDrop_controllerWork, lastDrop_controllerWork, store]
  · rw [beforeRelease, dropFlag_controllerWork, dropFlag_controllerWork, dropFlag_schedulerWork, State.dropFlag, verified]
    rfl
  · rw [beforeRelease, (controllerWork_startFlags _ _).rising, (controllerWork_startFlags _ _).rising,
      (schedulerWork_startFlags _).rising, verified]

/-- The flag of FRAME_DROP that a start leaves is that of the release. -/
theorem dropFlag_periodStart (before s : State) (l : Link) :
    (periodStart before s).dropFlag l = (releaseWork (beforeRelease s)).dropFlag l := by
  have event : ¬(Event.frameDrop l).number < 12 := by cases l <;> decide
  rw [State.dropFlag, periodStart_flag before s (frameDrop_number_lt l), decide_eq_false event, Bool.false_and,
    Bool.or_false]
  exact congrArg (fun u : FlagUnit => u.flags.getLsbD _) (beginRasters_flagUnit _)

/-- A start as one link sees it: the test of R100 on a state `z` whose frame being filled, last drop cause and flag are
those that the start found. -/
theorem periodStart_link (before s : State) (l : Link) :
    ∃ z : State, z.dome = s.dome ∧ (∀ i f, s.slot ⟨l, i⟩ = .filling f → z.slot ⟨l, i⟩ = .filling f)
      ∧ (∀ i, (z.slot ⟨l, i⟩).isFilling = (s.slot ⟨l, i⟩).isFilling)
      ∧ (z.store.get l).lastDrop = (s.store.get l).lastDrop ∧ z.dropFlag l = s.dropFlag l
      ∧ z.flagUnit.rising = s.flagUnit.rising
      ∧ (periodStart before s).store.get l = (testFilling l z).store.get l
      ∧ (periodStart before s).dropFlag l = (testFilling l z).dropFlag l := by
  obtain ⟨z, found, left⟩ := releaseWork_link (beforeRelease s) l
  obtain ⟨lastDrop, flag, rising⟩ := beforeRelease_drops s l
  have remain := (remain_beforeRelease s).trans (remain_completeReleased _)
  refine ⟨z, found.dome.trans remain.dome, fun i f hf => ?_, fun i => ?_, ?_, found.flag.trans flag,
    found.rising.trans rising, ?_, ?_⟩
  · rw [found.slot]
    exact (remain.slots ⟨l, i⟩).filling hf
  · rw [found.slot]
    exact (remain.slots ⟨l, i⟩).isFilling
  · rw [found.store, ← lastDrop, completeReleased, PerLink.get_map]
  · rw [store_periodStart, left.store]
  · rw [dropFlag_periodStart, left.flag]

/-- Settles O37: every slot by the release and the test of R100, and the cause and the flag of each link by that test. -/
theorem startFreesPassedSlots : Obligations.StartFreesPassedSlots := by
  unfold Obligations.StartFreesPassedSlots
  intro before s d hd one
  have remain := remain_beforeRelease s
  have dome : (beforeRelease s).dome = some d := remain.dome.trans hd
  have slots : ∀ i : SlotId,
      (periodStart before s).slot i = (((beforeRelease s).slot i).release (some d)).tested d := fun i => by
    rw [slot_of_store (store_periodStart before s)]
    exact slot_releaseWork dome (fun l => OneFilling.congr (one l) fun i => (remain.slots ⟨l, i⟩).isFilling) i
  refine ⟨fun i => ?_, fun i x hx near => ?_, fun l => ?_⟩
  · rw [slots]
    exact kept_of_released d _
  · rw [slots]
    exact target_of_released near (target_of_remains near (hd ▸ remain.slots i) hx)
  obtain ⟨z, zdome, filling, isFilling, lastDrop, flag, rising, storeLeft, flagLeft⟩ := periodStart_link before s l
  have slotLeft : ∀ i : SlotIndex, (periodStart before s).slot ⟨l, i⟩ = (testFilling l z).slot ⟨l, i⟩ := fun i =>
    congrArg (fun x : LinkStore => x.slots.get i) storeLeft
  intro number unchanged dropped
  have unchanged_of : testFilling l z = z → unchanged := fun same => by
    rw [same] at storeLeft flagLeft
    exact ⟨(congrArg LinkStore.lastDrop storeLeft).trans lastDrop, flagLeft.trans flag⟩
  refine ⟨fun i f hf => ?_, fun none_filling => unchanged_of (testFilling_of_none (.inr ?_))⟩
  · have index : fillingIndex z l = some i := (OneFilling.congr (one l) isFilling).fillingIndex (filling i f hf)
    have test := testFilling_of_filling (zdome.trans hd) index (filling i f hf)
    have dropped_of : ∀ cause, testFilling l z = dropFilling l cause z → dropped i cause := fun cause same => by
      obtain ⟨causeLeft, raised⟩ := dropFilling_dropped index cause
      refine ⟨?_, ?_, ?_⟩
      · rw [slotLeft, same, slot_dropFilling index, if_pos rfl]
      · rw [storeLeft, same, causeLeft]
      · rw [flag, rising, ← same] at raised
        exact flagLeft.trans raised
    intro passed
    have passed_iff : Machine.before f.target d = true ↔ passed := before_iff _ _
    refine ⟨fun late => dropped_of _ ?_, fun ahead early => dropped_of _ ?_, fun ahead near => unchanged_of ?_⟩
    · rw [test, if_pos (passed_iff.mpr late)]
    · rw [test, if_neg (mt passed_iff.mp ahead), if_pos early]
    · rw [test, if_neg (mt passed_iff.mp ahead), if_neg (by rw [near]; exact Bool.false_ne_true)]
  · cases index : fillingIndex z l with
    | none => rfl
    | some i =>
      have absent := (isFilling i).trans (none_filling i)
      exact absurd (Quad.find_some index) (Bool.eq_false_iff.mp absent)

end Sys2Proof.Machine
end

section
/-!
PROOFS. The invariant of the Frame Store and the ports, link by link: which changes of slots and of a port keep it.
-/
namespace Sys2Proof.Machine

open Sys2Proof

/-! ### The invariant of one link (R90 to R96, R126) -/

/-- What the invariant reads of one link. -/
structure LinkView where
  initializing : Bool
  dome : Option Period
  store : LinkStore
  port : Port

def State.link (s : State) (l : Link) : LinkView :=
  ⟨s.part.state == .initializing, s.dome, s.store.get l, s.ports.get l⟩

/-- The frame being filled is the one that its port, LOCKED, is reading, and its target lies in D to D + 16. -/
def Frame.beingRead (dome : Option Period) (p : Port) (f : Frame) : Prop :=
  p.state.isLocked = true
  ∧ (∃ b, p.frame = .body b ∧ b.lines = f.lines.length ∧ b.header.width = f.width ∧ b.header.height = f.height)
  ∧ ∃ d, dome = some d ∧ (f.target - d).toNat ≤ 16

/-- A slot as the invariant has it. -/
def Slot.fits (dome : Option Period) (p : Port) : Slot → Prop
  | .free => True
  | .complete f _ => sizeOk f.width f.height ∧ f.linesOk ∧ f.lines.length = f.height
  | .filling f => sizeOk f.width f.height ∧ f.linesOk ∧ f.lines.length < f.height ∧ f.beingRead dome p

theorem slotOk_iff (s : State) (i : SlotId) : SlotOk s i ↔ (s.slot i).fits s.dome (s.ports.get i.link) := by
  unfold SlotOk
  cases s.slot i with
  | free | complete _ _ => exact Iff.rfl
  | filling f =>
    have body : (match (s.ports.get i.link).frame.bodyOf with
        | none => False
        | some b => b.lines = f.lines.length ∧ b.header.width = f.width ∧ b.header.height = f.height) ↔
        ∃ b, (s.ports.get i.link).frame = .body b ∧ b.lines = f.lines.length ∧ b.header.width = f.width
          ∧ b.header.height = f.height := by
      cases (s.ports.get i.link).frame <;> simp [FrameProgress.bodyOf]
    have near : (match s.dome with
        | none => False
        | some d => (f.target - d).toNat ≤ 16) ↔ ∃ d, s.dome = some d ∧ (f.target - d).toNat ≤ 16 := by
      cases s.dome <;> simp
    exact and_congr_right fun _ => and_congr_right fun _ => and_congr_right fun _ => and_congr_right fun _ =>
      and_congr body near

/-- The invariant of one link, clause by clause. -/
structure LinkView.Ok (v : LinkView) : Prop where
  held : v.initializing = true → v.port.state = .off ∧ v.port.frame = .none
  slots : ∀ j : SlotIndex, (v.store.slots.get j).fits v.dome v.port
  body : BodyOk v.port
  one : ∀ i j : SlotIndex, (v.store.slots.get i).isFilling = true → (v.store.slots.get j).isFilling = true → i = j
  targets : ∀ i j : SlotIndex, (v.store.slots.get i).target.isSome = true →
    (v.store.slots.get i).target = (v.store.slots.get j).target → i = j
  leads : v.store.leads.length ≤ leadPlaces ∧ ∀ n ∈ v.store.leads, 1 ≤ n ∧ n ≤ 16

theorem storeOk_iff (s : State) : StoreOk s ↔ ∀ l : Link, (s.link l).Ok := by
  constructor
  · rintro ⟨held, slots, body, one, targets, leads⟩ l
    exact ⟨fun h => held (beq_iff_eq.mp h) l, fun j => (slotOk_iff s ⟨l, j⟩).mp (slots ⟨l, j⟩), body l, one l, targets l,
      leads l⟩
  · intro h
    exact ⟨fun hi l => (h l).held (beq_iff_eq.mpr hi), fun i => (slotOk_iff s i).mpr ((h i.link).slots i.index),
      fun l => (h l).body, fun l => (h l).one, fun l => (h l).targets, fun l => (h l).leads⟩

theorem StoreOk.link {s : State} (hs : StoreOk s) (l : Link) : (s.link l).Ok := (storeOk_iff s).mp hs l

theorem StoreOk.oneFilling {s : State} (hs : StoreOk s) (l : Link) : OneFilling s l := (hs.link l).one

/-! ### Slots that keep their frame or are freed -/

/-- A slot without its viewers. -/
def Slot.bare : Slot → Slot
  | .free => .free
  | .filling f => .filling f
  | .complete f _ => .complete f ⟨false, false⟩

/-- The slot keeps its frame, or is FREE. -/
def Slot.Left (x y : Slot) : Prop := y = .free ∨ y.bare = x.bare

theorem Slot.Left.refl (x : Slot) : x.Left x := .inr rfl

theorem Slot.Left.trans {x y z : Slot} (h : x.Left y) (h' : y.Left z) : x.Left z := by
  obtain rfl | h' := h'
  · exact .inl rfl
  · obtain rfl | h := h
    · cases z with
      | free => exact .inl rfl
      | filling _ | complete _ _ => cases h'
    · exact .inr (h'.trans h)

theorem Slot.Left.filling {x y : Slot} (h : x.Left y) {f : Frame} (hy : y = .filling f) : x = .filling f := by
  subst hy
  obtain h | h := h
  · cases h
  · cases x with
    | filling g => exact h.symm
    | free | complete _ _ => cases h

theorem Slot.Left.target {x y : Slot} (h : x.Left y) (hy : y.target.isSome = true) : y.target = x.target := by
  obtain rfl | h := h
  · cases hy
  · cases x <;> cases y <;> cases h <;> rfl

theorem Slot.Left.fits {x y : Slot} (h : x.Left y) {dome dome' : Option Period} {p p' : Port} (hx : x.fits dome p)
    (read : ∀ f, y = .filling f → f.beingRead dome' p') : y.fits dome' p' := by
  cases y with
  | free => trivial
  | filling f =>
    rw [h.filling rfl] at hx
    obtain ⟨size, lines, room, -⟩ := hx
    exact ⟨size, lines, room, read f rfl⟩
  | complete f v =>
    obtain h | h := h
    · cases h
    · cases x with
      | complete g w => cases h; exact hx
      | free | filling _ => cases h

theorem Slot.Remains.left {d : Option Period} {x y : Slot} (h : x.Remains d y) : x.Left y := by
  cases x with
  | free => exact .inl h
  | filling f => exact .inr (congrArg Slot.bare h)
  | complete f v =>
    obtain ⟨w, rfl⟩ | ⟨rfl, -⟩ := h
    · exact .inr rfl
    · exact .inl rfl

theorem Slot.left_tested (d : Period) (x : Slot) : x.Left (x.tested d) := by
  cases x with
  | free | complete _ _ => exact .refl _
  | filling f =>
    rw [Slot.tested]
    split_ifs
    · exact .inl rfl
    · exact .refl _

/-- Slots that keep their frames or are freed, under a port that reads what is still being filled, keep the invariant. -/
theorem LinkView.Ok.of_left {v w : LinkView} (hv : v.Ok)
    (held : w.initializing = true → w.port.state = .off ∧ w.port.frame = .none)
    (left : ∀ j : SlotIndex, (v.store.slots.get j).Left (w.store.slots.get j))
    (read : ∀ (j : SlotIndex) (f : Frame), w.store.slots.get j = .filling f → f.beingRead w.dome w.port)
    (body : BodyOk w.port) (leads : w.store.leads = v.store.leads) : w.Ok where
  held := held
  slots j := (left j).fits (hv.slots j) (read j)
  body := body
  one i j hi hj := by
    have was : ∀ {k : SlotIndex}, (w.store.slots.get k).isFilling = true →
        (v.store.slots.get k).isFilling = true := fun {k} hk => by
      cases hx : w.store.slots.get k with
      | filling f => rw [(left k).filling hx]; rfl
      | free | complete _ _ => rw [hx] at hk; cases hk
    exact hv.one i j (was hi) (was hj)
  targets i j hi hij := by
    have ti := (left i).target hi
    have tj := (left j).target (hij ▸ hi)
    exact hv.targets i j (ti ▸ hi) (by rw [← ti, ← tj, hij])
  leads := leads ▸ hv.leads

/-! ### The state as a whole -/

/-- An event on one link keeps the invariant if it leaves the other link and keeps that of its own. -/
theorem StoreOk.of_link {s s' : State} (hs : StoreOk s) (l : Link) (other : ∀ m : Link, m ≠ l → s'.link m = s.link m)
    (ok : (s'.link l).Ok) : StoreOk s' := by
  rw [storeOk_iff]
  intro m
  by_cases hm : m = l
  · exact hm ▸ ok
  · rw [other m hm]
    exact hs.link m

/-- The invariant reads D, the store, the ports and whether the part is INITIALIZING. -/
theorem StoreOk.congr {s s' : State} (hs : StoreOk s) (dome : s'.dome = s.dome) (store : s'.store = s.store)
    (ports : s'.ports = s.ports) (initializing : s'.part.state = .initializing → s.part.state = .initializing) :
    StoreOk s' := by
  rw [storeOk_iff]
  intro l
  refine LinkView.Ok.of_left (hs.link l) (fun h => ?_) (fun j => ?_) (fun j f hf => ?_) ?_ ?_
  · have off := (hs.link l).held (beq_iff_eq.mpr (initializing (beq_iff_eq.mp h)))
    simpa only [State.link, ports] using off
  · simp only [State.link, store]
    exact .refl _
  · have fits := (hs.link l).slots j
    simp only [State.link, store, ports, dome] at hf fits ⊢
    rw [hf] at fits
    obtain ⟨-, -, -, read⟩ := fits
    exact read
  · simpa only [State.link, ports] using (hs.link l).body
  · simp only [State.link, store]

theorem StoreOk.not_initializing {s : State} (hs : StoreOk s) {l : Link} (h : (s.ports.get l).state ≠ .off) :
    s.part.state ≠ .initializing := fun hi => h ((hs.link l).held (beq_iff_eq.mpr hi)).1

/-- The link fills no slot. -/
def Unfilled (s : State) (l : Link) : Prop := ∀ j : SlotIndex, (s.slot ⟨l, j⟩).isFilling = false

/-- Only a LOCKED link that reads the body of a frame fills a slot (R91, R95). -/
theorem StoreOk.unfilled {s : State} (hs : StoreOk s) {l : Link}
    (h : (s.ports.get l).state.isLocked = false ∨ ∀ b, (s.ports.get l).frame ≠ .body b) : Unfilled s l := by
  intro j
  have fits := (hs.link l).slots j
  cases hx : s.slot ⟨l, j⟩ with
  | free | complete _ _ => rfl
  | filling f =>
    rw [show (s.link l).store.slots.get j = .filling f from hx] at fits
    obtain ⟨-, -, -, locked, ⟨b, reading, -⟩, -⟩ := fits
    obtain h | h := h
    · exact absurd locked (Bool.eq_false_iff.mp h)
    · exact absurd reading (h b)

theorem Unfilled.not_filling {s : State} {l : Link} (h : Unfilled s l) {j : SlotIndex} {f : Frame} :
    (s.store.get l).slots.get j ≠ .filling f := fun hf =>
  Bool.eq_false_iff.mp (h j) (by rw [State.slot, hf]; rfl)

theorem Unfilled.fillingIndex {s : State} {l : Link} (h : Unfilled s l) : fillingIndex s l = none := by
  cases hx : Machine.fillingIndex s l with
  | none => rfl
  | some i => exact absurd (Quad.find_some hx) (Bool.eq_false_iff.mp (h i))

theorem unfilled_of_store {s s' : State} {l : Link} (h : Unfilled s l) (hs : s'.store = s.store) : Unfilled s' l :=
  fun j => (congrArg Slot.isFilling (slot_of_store hs _)).trans (h j)

/-- A port that goes on reading what the other has read. -/
def Port.GoesOn (p q : Port) : Prop :=
  ∀ b, p.state.isLocked = true → p.frame = .body b →
    q.state.isLocked = true ∧ ∃ c, q.frame = .body c ∧ c.lines = b.lines ∧ c.header = b.header

theorem Frame.beingRead.of_goesOn {dome : Option Period} {p q : Port} {f : Frame} (h : f.beingRead dome p)
    (hpq : p.GoesOn q) : f.beingRead dome q := by
  obtain ⟨locked, ⟨b, reading, lines, width, height⟩, near⟩ := h
  obtain ⟨locked', c, reading', hlines, hheader⟩ := hpq b locked reading
  exact ⟨locked', ⟨c, reading', hlines.trans lines, hheader ▸ width, hheader ▸ height⟩, near⟩

theorem link_setPort_other (s : State) {l m : Link} (p : Port) (h : m ≠ l) : (s.setPort l p).link m = s.link m := by
  rw [State.link, State.setPort_ports, PerLink.get_set_other _ _ h]
  rfl

theorem link_setPort (s : State) (l : Link) (p : Port) : (s.setPort l p).link l = { s.link l with port := p } := by
  rw [State.link, State.get_setPort]
  rfl

/-- A port may be written while its link fills no slot, or if it goes on reading. -/
theorem StoreOk.setPort {s : State} (hs : StoreOk s) {l : Link} {p : Port}
    (held : s.part.state = .initializing → p.state = .off ∧ p.frame = .none) (body : BodyOk p)
    (h : Unfilled s l ∨ (s.ports.get l).GoesOn p) : StoreOk (s.setPort l p) := by
  refine hs.of_link l (fun m hm => link_setPort_other s p hm) ?_
  rw [link_setPort]
  refine LinkView.Ok.of_left (hs.link l) (fun hi => held (beq_iff_eq.mp hi)) (fun j => .refl _) (fun j f hf => ?_) body rfl
  obtain h | h := h
  · exact absurd hf h.not_filling
  · have fits := (hs.link l).slots j
    rw [show (s.link l).store.slots.get j = .filling f from hf] at fits
    obtain ⟨-, -, -, read⟩ := fits
    exact read.of_goesOn h

/-- A link whose slots keep their frames or are freed, with the same leads. -/
theorem StoreOk.of_slots {s s' : State} (hs : StoreOk s) {l : Link} (dome : s'.dome = s.dome)
    (ports : s'.ports = s.ports) (part : s'.part = s.part) (other : ∀ m : Link, m ≠ l → s'.store.get m = s.store.get m)
    (left : ∀ j : SlotIndex, (s.slot ⟨l, j⟩).Left (s'.slot ⟨l, j⟩))
    (leads : (s'.store.get l).leads = (s.store.get l).leads) : StoreOk s' := by
  refine hs.of_link l (fun m hm => ?_) ?_
  · simp only [State.link, dome, ports, part, other m hm]
  · refine LinkView.Ok.of_left (hs.link l) (fun hi => ?_) left (fun j f hf => ?_) ?_ leads
    · simp only [State.link, ports, part] at hi ⊢
      exact (hs.link l).held hi
    · have fits := (hs.link l).slots j
      rw [show (s.link l).store.slots.get j = .filling f from (left j).filling hf] at fits
      obtain ⟨-, -, -, read⟩ := fits
      simpa only [State.link, dome, ports] using read
    · simpa only [State.link, ports] using (hs.link l).body

end Sys2Proof.Machine
end

section
/-!
PROOFS. The rows that pass by the outputs, the Frame Store, the ports and the part state, and what keeps a property of
these alone.
-/
namespace Sys2Proof.Machine

open Sys2Proof

/-! ### What the outputs and the store are seen by -/

/-- D, the Frame Store, the ports, the controllers and the part state stay; while the part is INITIALIZING so do the
command queues, the service decoder and the override. -/
structure Untouched (s s' : State) : Prop where
  dome : s'.dome = s.dome
  store : s'.store = s.store
  ports : s'.ports = s.ports
  controllers : s'.controllers = s.controllers
  state : s'.part.state = s.part.state
  delay : s'.part.standbyDelay = s.part.standbyDelay
  idleTimer : s'.part.idleTimer = s.part.idleTimer
  patterns : s'.part.patterns = s.part.patterns
  held : s.part.state = .initializing → s'.engine.commands = s.engine.commands ∧ s'.part.decoder = s.part.decoder
    ∧ s'.part.service = s.part.service

/-- The records that `Untouched` names, with the whole of the part state. -/
def State.outward (s : State) : Option Period × PerLink LinkStore × PerLink Port × PerOut Controller × PartControl :=
  (s.dome, s.store, s.ports, s.controllers, s.part)

theorem Untouched.of_outward {s s' : State} (h : s'.outward = s.outward)
    (held : s.part.state = .initializing → s'.engine.commands = s.engine.commands) : Untouched s s' := by
  simp only [State.outward, Prod.mk.injEq] at h
  obtain ⟨dome, store, ports, controllers, part⟩ := h
  exact ⟨dome, store, ports, controllers, by rw [part], by rw [part], by rw [part], by rw [part],
    fun hi => ⟨held hi, by rw [part], by rw [part]⟩⟩

theorem Untouched.trans {s t u : State} (h : Untouched s t) (h' : Untouched t u) : Untouched s u where
  dome := h'.dome.trans h.dome
  store := h'.store.trans h.store
  ports := h'.ports.trans h.ports
  controllers := h'.controllers.trans h.controllers
  state := h'.state.trans h.state
  delay := h'.delay.trans h.delay
  idleTimer := h'.idleTimer.trans h.idleTimer
  patterns := h'.patterns.trans h.patterns
  held hi := by
    obtain ⟨commands, decoder, service⟩ := h.held hi
    obtain ⟨commands', decoder', service'⟩ := h'.held (h.state.trans hi)
    exact ⟨commands'.trans commands, decoder'.trans decoder, service'.trans service⟩

theorem untouched_advance (s : State) (t : Nat) : Untouched s (s.advance t) := .of_outward rfl fun _ => rfl

theorem untouched_latchEdges (s s' : State) : Untouched s' (latchEdges s s') := .of_outward rfl fun _ => rfl

theorem untouched_raise (s : State) (e : Event) : Untouched s (s.raise e) := by
  rw [raise_eq]
  exact .of_outward rfl fun _ => rfl

theorem untouched_raiseIf (s : State) (b : Bool) (e : Event) : Untouched s (s.raiseIf b e) := by
  rw [raiseIf_eq]
  exact .of_outward rfl fun _ => rfl

/-! ### Taking a command (R154 to R158) -/

/-- A property of what `Untouched` names. -/
def ReadsOutward (P : State → Prop) : Prop := ∀ {s s' : State}, Untouched s s' → P s → P s'

/-- The state that a reply leaves, if it is no refusal, has the property. -/
def Reply.Has (P : State → Prop) : Reply → Prop
  | .refuse _ _ => True
  | .accept s _ | .defer s => P s

theorem generalChecks_has {P : State → Prop} {ok channel : Bool} {p : Packet} {owner : Reply} (ho : owner.Has P) :
    (generalChecks ok channel p owner).Has P := by
  unfold generalChecks
  split_ifs
  · trivial
  · trivial
  · exact ho

theorem untouched_placeResult (l : Link) (r : Result) (s : State) : Untouched s (placeResult l r s) :=
  .of_outward rfl fun _ => rfl

theorem untouched_reservePlace (l : Link) (s : State) : Untouched s (reservePlace l s) := .of_outward rfl fun _ => rfl

theorem has_settle {P : State → Prop} (hP : ReadsOutward P) {l : Link} {p : Packet} {s : State} {r : Reply} (hs : P s)
    (hr : r.Has P) : P (settle l p s r) := by
  cases r with
  | refuse st payload => exact hP (untouched_placeResult l _ s) hs
  | accept s' payload => exact hP (untouched_placeResult l _ s') hr
  | defer s' => exact hP (untouched_reservePlace l s') hr

theorem untouched_dequeue {s : State} {l : Link} {p : Packet} {rest : List Packet}
    (h : nextPacket s = some (l, p, rest)) (t : Nat) : Untouched s (dequeue l rest (s.advance t)) := by
  obtain ⟨-, -, running⟩ := nextPacket_some h
  exact .of_outward rfl fun hi => absurd hi running

/-- A command keeps a property of the outputs and the store if its owner does, outside INITIALIZING. -/
theorem takeOwned_keeps {P : State → Prop} (hP : ReadsOutward P) {names : Packet → Bool} {lengthOk : Nat → Bool}
    {channel : Bool} {owner : Link → Packet → State → Reply}
    (ho : ∀ (l : Link) (p : Packet) (s : State), P s → s.part.state ≠ .initializing → (owner l p s).Has P)
    {s : State} (hs : P s) (t : Nat) : P (takeOwned names lengthOk channel owner t s) := by
  unfold takeOwned takeCommand
  cases hnext : nextPacket s with
  | none => exact hP (untouched_advance s t) hs
  | some next =>
    obtain ⟨l, p, rest⟩ := next
    have taken := hP (untouched_dequeue hnext t) hs
    obtain ⟨-, -, running⟩ := nextPacket_some hnext
    dsimp only
    split_ifs
    · exact hP (untouched_latchEdges _ _) (has_settle hP taken (generalChecks_has (ho l p _ taken running)))
    · exact hP (untouched_advance s t) hs

/-! ### Owners that pass by -/

/-- The reply leaves the outputs, the store, the ports and the part state as the owner found them. -/
def Reply.Spares (s : State) : Reply → Prop := Reply.Has fun s' => s'.outward = s.outward

theorem untouched_takeOwned {names : Packet → Bool} {lengthOk : Nat → Bool} {channel : Bool}
    {owner : Link → Packet → State → Reply} (ho : ∀ (l : Link) (p : Packet) (s : State), (owner l p s).Spares s)
    (t : Nat) (s : State) : Untouched s (takeOwned names lengthOk channel owner t s) := by
  have reads : ReadsOutward (Untouched s) := fun h h' => h'.trans h
  refine takeOwned_keeps reads (fun l p s1 h1 running => ?_) (.of_outward rfl fun _ => rfl) t
  have spares := ho l p s1
  cases hr : owner l p s1 with
  | refuse _ _ => trivial
  | accept s' _ | defer s' =>
    rw [hr] at spares
    exact h1.trans (.of_outward spares fun hi => absurd hi running)

theorem outward_stopMixing (o : Out) (k : Kind) (s : State) : (stopMixing o k s).outward = s.outward := by
  cases k <;> rfl

theorem tableOpenOwner_spares (l : Link) (p : Packet) (s : State) : (tableOpenOwner l p s).Spares s := by
  unfold tableOpenOwner
  split
  · trivial
  · dsimp only
    split_ifs
    · trivial
    · trivial
    · trivial
    · exact outward_stopMixing _ _ _

theorem tableDataOwner_spares (l : Link) (p : Packet) (s : State) : (tableDataOwner l p s).Spares s := by
  unfold tableDataOwner
  split
  · trivial
  · split
    · dsimp only; split_ifs <;> trivial
    all_goals trivial

theorem tableCloseOwner_spares (l : Link) (p : Packet) (s : State) : (tableCloseOwner l p s).Spares s := by
  unfold tableCloseOwner
  split
  · trivial
  · split
    · split_ifs <;> trivial
    all_goals trivial

theorem tableDiscardOwner_spares (l : Link) (p : Packet) (s : State) : (tableDiscardOwner l p s).Spares s := by
  unfold tableDiscardOwner
  split
  · trivial
  · split
    · rfl
    · split_ifs <;> trivial
    · trivial
    · split_ifs
      · trivial
      · exact outward_stopMixing _ _ _

theorem swapOwner_spares (l : Link) (p : Packet) (s : State) : (swapOwner l p s).Spares s := by
  unfold swapOwner
  dsimp only
  split
  · trivial
  · split_ifs
    · trivial
    · trivial
    · trivial
    · exact foldl_keeps (view := State.outward) (f := bookSwap _) (fun _ _ => rfl) _ s

theorem gainOwner_spares (l : Link) (p : Packet) (s : State) : (gainOwner l p s).Spares s := by
  unfold gainOwner
  dsimp only
  split_ifs <;> trivial

theorem cueAddOwner_spares (l : Link) (p : Packet) (s : State) : (cueAddOwner l p s).Spares s := by
  unfold cueAddOwner
  dsimp only
  split
  · trivial
  · split_ifs <;> trivial

theorem cueCancelOwner_spares (l : Link) (p : Packet) (s : State) : (cueCancelOwner l p s).Spares s := by
  unfold cueCancelOwner
  split_ifs <;> trivial

theorem configLockOwner_spares (l : Link) (p : Packet) (s : State) : (configLockOwner l p s).Spares s := by
  unfold configLockOwner
  split
  · trivial
  · split
    · split_ifs <;> trivial
    all_goals trivial

theorem configUnlockOwner_spares (l : Link) (p : Packet) (s : State) : (configUnlockOwner l p s).Spares s := by
  unfold configUnlockOwner
  split <;> trivial

theorem setOutputOwner_spares (l : Link) (p : Packet) (s : State) : (setOutputOwner l p s).Spares s := by
  unfold setOutputOwner
  dsimp only
  split
  · trivial
  · split_ifs <;> trivial

/-! ### Events that pass by -/

theorem untouched_endVerification (o : Out) (k : Kind) (s : State) : Untouched s (endVerification o k s) := by
  rw [endVerification_eq]
  exact .of_outward rfl fun _ => rfl

theorem execResetRelease_untouched (t : Nat) (s : State) : Answers (Untouched s) (execResetRelease t s) := by
  unfold execResetRelease
  dsimp only
  split_ifs
  · exact untouched_advance s t
  · exact .of_outward rfl fun _ => rfl

/-- D is undefined in ACQUIRING and after its timer has run out. -/
theorem execSyncAcquisitionTimeout_untouched (s : State) : Answers (Untouched s) (execSyncAcquisitionTimeout s) := by
  unfold execSyncAcquisitionTimeout
  split
  · next h => exact .of_outward (by simp [State.outward, State.dome, h, ClockState.dome]) fun _ => rfl
  all_goals exact .of_outward rfl fun _ => rfl

/-- The decoder may be written outside INITIALIZING. -/
theorem untouched_setDecoder {s : State} (h : decoderRuns s = true) (d : ServiceDecoder) :
    Untouched s (s.setDecoder d) :=
  ⟨rfl, rfl, rfl, rfl, rfl, rfl, rfl, rfl, fun hi => by simp [decoderRuns, hi] at h⟩

theorem untouched_setService {s : State} (h : s.part.state ≠ .initializing) (v : Override) :
    Untouched s (s.setService v) :=
  ⟨rfl, rfl, rfl, rfl, rfl, rfl, rfl, rfl, fun hi => absurd hi h⟩

theorem execServiceTaken_untouched (t : Nat) (s : State) :
    Answers (Untouched s) (execServiceTakenFall t s) ∧ Answers (Untouched s) (execServiceTakenRise t s) := by
  have runs {b : Bool} (h : (decoderRuns s && b) = true) : decoderRuns (s.advance t) = true := by
    rw [Bool.and_eq_true] at h
    exact h.1
  unfold execServiceTakenFall execServiceTakenRise
  constructor <;> split_ifs with h
  · exact (untouched_advance s t).trans (untouched_setDecoder (runs h) _)
  · exact untouched_advance s t
  · exact (untouched_advance s t).trans (untouched_setDecoder (runs h) _)
  · exact untouched_advance s t

/-! ### The rows and the samplers that pass by -/

/-- The rows that write none of the records that `Untouched` names. -/
def passesBy : Instr → Bool
  | .tableOpen _ | .tableData _ | .tableClose _ | .tableDiscard _ | .swap _ | .gain _ | .cueAdd _ | .cueCancel _
  | .cueFlush _ | .report _ | .configLock _ | .configUnlock _ | .setOutput _ | .flagsArm _ | .flagsClear _ | .status _
  | .unknownCommand _ | .verificationEnd _ _ _ | .resetRelease _ | .syncAcquisitionTimeout | .serviceTakenFall _
  | .serviceTakenRise _ => true
  | _ => false

theorem exec_untouched {c : Instr} (h : passesBy c = true) (s : State) : Answers (Untouched s) (exec c s) := by
  unfold passesBy at h
  split at h
  · exact untouched_takeOwned tableOpenOwner_spares _ s
  · exact untouched_takeOwned tableDataOwner_spares _ s
  · exact untouched_takeOwned tableCloseOwner_spares _ s
  · exact untouched_takeOwned tableDiscardOwner_spares _ s
  · exact untouched_takeOwned swapOwner_spares _ s
  · exact untouched_takeOwned gainOwner_spares _ s
  · exact untouched_takeOwned cueAddOwner_spares _ s
  · exact untouched_takeOwned cueCancelOwner_spares _ s
  · exact untouched_takeOwned (owner := cueFlushOwner) (fun _ _ _ => rfl) _ s
  · exact untouched_takeOwned (owner := reportOwner) (fun _ _ _ => rfl) _ s
  · exact untouched_takeOwned configLockOwner_spares _ s
  · exact untouched_takeOwned configUnlockOwner_spares _ s
  · exact untouched_takeOwned setOutputOwner_spares _ s
  · exact untouched_takeOwned (owner := flagsArmOwner) (fun _ _ _ => rfl) _ s
  · exact untouched_takeOwned (owner := flagsClearOwner) (fun _ _ _ => rfl) _ s
  · exact untouched_takeOwned (owner := statusOwner) (fun _ _ _ => rfl) _ s
  · exact untouched_takeOwned (owner := unknownOwner) (fun _ _ _ => trivial) _ s
  · exact (untouched_advance s _).trans (untouched_endVerification _ _ _)
  · exact execResetRelease_untouched _ s
  · exact execSyncAcquisitionTimeout_untouched s
  · exact (execServiceTaken_untouched _ s).1
  · exact (execServiceTaken_untouched _ s).2
  · cases h

theorem untouched_sampleSync (sample : Bool) (s : State) : Untouched s (sampleSync sample s) := by
  unfold sampleSync
  dsimp only
  split_ifs
  · split <;> exact .of_outward rfl fun _ => rfl
  · exact .of_outward rfl fun _ => rfl

theorem untouched_sampleService (sample : Bool) (s : State) : Untouched s (sampleService sample s) := by
  unfold sampleService
  dsimp only
  split_ifs with h
  · split
    · exact (untouched_setDecoder h _).trans (.of_outward rfl fun _ => rfl)
    · exact (untouched_setDecoder h _).trans (.of_outward rfl fun _ => rfl)
    all_goals exact untouched_setDecoder h _
  · exact .of_outward rfl fun _ => rfl

theorem untouched_sampleTick (s : State) : Untouched s (sampleTick s) := by
  unfold sampleTick
  split
  · exact .of_outward rfl fun _ => rfl
  · next x rest _ =>
    have taken : Untouched s (State.advance { s with samples := rest } x.time) := .of_outward rfl fun _ => rfl
    dsimp only
    split
    · exact taken.trans (untouched_sampleSync _ _)
    · exact taken.trans (untouched_sampleService _ _)

theorem answers_mono {P Q : State → Prop} {x : Host.Outcome State Fault Refusal} (h : Answers P x)
    (hPQ : ∀ s : State, P s → Q s) : Answers Q x := by
  cases x with
  | next s => exact hPQ s h
  | fault _ | refused _ => trivial

/-- A step keeps a property of the outputs and the store if the row it takes does, and the other rows do anyway. -/
theorem step_keeps {P : State → Prop} (hP : ReadsOutward P) {s s' : State} (hs : P s)
    (rows : ∀ c : Instr, s.pending.head? = some c → passesBy c = false → ∀ s1 : State, P s1 → Answers P (exec c s1))
    (h : step s = .next s') : P s' := by
  have answers : Answers P (step s) := by
    unfold step
    cases hq : s.pending with
    | nil => exact hP (untouched_sampleTick s) hs
    | cons c rest =>
      have waiting : Untouched s { s with pending := rest } := .of_outward rfl fun _ => rfl
      have taken := hP waiting hs
      dsimp only
      cases hc : passesBy c with
      | false => exact rows c (by rw [hq]; rfl) hc _ taken
      | true => exact answers_mono (exec_untouched hc _) fun _ same => hP same taken
  rw [h] at answers
  exact answers

end Sys2Proof.Machine
end

section
/-!
PROOFS. The invariant of the Frame Store and the ports under every event of a link: delimiters, headers, lines, packets,
the signal and the timers of a port.
-/
namespace Sys2Proof.Machine

open Sys2Proof

/-! ### Operations that leave slots and ports -/

theorem storeOk_reads : ReadsOutward StoreOk := fun h hs =>
  hs.congr h.dome h.store h.ports fun hi => h.state.symm.trans hi

theorem StoreOk.advance {s : State} (hs : StoreOk s) (t : Nat) : StoreOk (s.advance t) :=
  storeOk_reads (untouched_advance s t) hs

theorem StoreOk.raise {s : State} (hs : StoreOk s) (e : Event) : StoreOk (s.raise e) :=
  storeOk_reads (untouched_raise s e) hs

theorem StoreOk.raiseIf {s : State} (hs : StoreOk s) (b : Bool) (e : Event) : StoreOk (s.raiseIf b e) :=
  storeOk_reads (untouched_raiseIf s b e) hs

theorem StoreOk.latchEdges {s' : State} (hs : StoreOk s') (s : State) : StoreOk (latchEdges s s') :=
  storeOk_reads (untouched_latchEdges s s') hs

theorem StoreOk.keepIdleTimer {s : State} (hs : StoreOk s) : StoreOk (keepIdleTimer s) := hs.congr rfl rfl rfl id

theorem StoreOk.linkEvent {s' : State} (hs : StoreOk s') (s : State) : Answers StoreOk (linkEvent s s') :=
  StoreOk.latchEdges hs.keepIdleTimer s

/-- The part state may change, but not to INITIALIZING. -/
theorem StoreOk.setPart {s : State} (hs : StoreOk s) {p : PartControl}
    (h : p.state = .initializing → s.part.state = .initializing) : StoreOk { s with part := p } :=
  hs.congr rfl rfl rfl h

theorem wakeOnLock_store (s : State) : (wakeOnLock s).store = s.store := by rw [wakeOnLock_eq]; rfl

theorem wakeOnLock_ports (s : State) : (wakeOnLock s).ports = s.ports := by rw [wakeOnLock_eq]; rfl

theorem StoreOk.wakeOnLock {s : State} (hs : StoreOk s) : StoreOk (wakeOnLock s) := by
  rw [wakeOnLock_eq]
  refine hs.setPart fun hi => ?_
  dsimp only at hi
  split_ifs at hi
  exact hi

/-! ### A slot written -/

/-- A slot may be written where no other of its link is FILLING or has the target, if it and the port fit. -/
theorem LinkView.Ok.put {v : LinkView} (hv : v.Ok) (i : SlotIndex) {y : Slot} {p : Port} {leads : List Nat}
    (cause : DropCause) (held : v.initializing = true → p.state = .off ∧ p.frame = .none)
    (others : ∀ j : SlotIndex, j ≠ i → (v.store.slots.get j).isFilling = false)
    (fresh : ∀ j : SlotIndex, j ≠ i → y.target.isSome = true → (v.store.slots.get j).target ≠ y.target)
    (fits : y.fits v.dome p) (body : BodyOk p) (short : leads.length ≤ leadPlaces)
    (range : ∀ n ∈ leads, 1 ≤ n ∧ n ≤ 16) :
    LinkView.Ok { v with store := ⟨v.store.slots.set i y, leads, cause⟩, port := p } where
  held := held
  slots j := by
    by_cases hj : j = i
    · subst hj
      rwa [Quad.get_set_same]
    · rw [Quad.get_set_other _ _ hj]
      refine (Slot.Left.refl _).fits (hv.slots j) fun f hf => ?_
      have := others j hj
      rw [hf] at this
      cases this
  body := body
  one j k hj hk := by
    have at_i : ∀ {m : SlotIndex}, ((v.store.slots.set i y).get m).isFilling = true → m = i := fun {m} hm => by
      by_contra hne
      rw [Quad.get_set_other _ _ hne, others m hne] at hm
      cases hm
    exact (at_i hj).trans (at_i hk).symm
  targets j k hj hjk := by
    by_cases ji : j = i
    · by_cases ki : k = i
      · exact ji.trans ki.symm
      · rw [ji, Quad.get_set_same] at hj
        rw [ji, Quad.get_set_same, Quad.get_set_other _ _ ki] at hjk
        exact absurd hjk.symm (fresh k ki hj)
    · by_cases ki : k = i
      · rw [ki, Quad.get_set_same, Quad.get_set_other _ _ ji] at hjk
        rw [Quad.get_set_other _ _ ji, hjk] at hj
        exact absurd hjk (fresh j ji hj)
      · rw [Quad.get_set_other _ _ ji] at hj
        rw [Quad.get_set_other _ _ ji, Quad.get_set_other _ _ ki] at hjk
        exact hv.targets j k hj hjk
  leads := ⟨short, range⟩

theorem link_setSlot (s : State) (l : Link) (i : SlotIndex) (x : Slot) :
    (s.setSlot ⟨l, i⟩ x).link l =
      { s.link l with store :=
          ⟨(s.store.get l).slots.set i x, (s.store.get l).leads, (s.store.get l).lastDrop⟩ } := by
  simp only [State.link, State.setSlot, PerLink.get_set_same]
  rfl

theorem link_setSlot_other (s : State) {l m : Link} (i : SlotIndex) (x : Slot) (h : m ≠ l) :
    (s.setSlot ⟨l, i⟩ x).link m = s.link m := by
  simp only [State.link, State.setSlot, PerLink.get_set_other _ _ h]
  rfl

/-! ### Frames dropped (R93, R95) -/

theorem StoreOk.dropFrame {s : State} (hs : StoreOk s) (l : Link) (cause : DropCause) :
    StoreOk (dropFrame l cause s) := by
  have written : StoreOk (s.setLinkStore l { s.store.get l with lastDrop := cause }) := by
    refine hs.of_slots (l := l) rfl rfl rfl (fun m hm => ?_) (fun j => ?_) ?_
    · exact PerLink.get_set_other _ _ hm
    · rw [State.slot, State.slot, State.setLinkStore, PerLink.get_set_same]
      exact .refl _
    · rw [State.setLinkStore, PerLink.get_set_same]
  exact written.raise _

theorem StoreOk.dropFilling {s : State} (hs : StoreOk s) (l : Link) (cause : DropCause) :
    StoreOk (dropFilling l cause s) := by
  refine hs.of_slots (l := l) ?_ ?_ ?_ (fun m hm => ?_) (fun j => ?_) (leads_dropFilling l cause s l)
  · rw [dropFilling_eq]; rfl
  · rw [dropFilling_eq]
  · rw [dropFilling_eq]
  · exact (sameLink_dropFilling (Ne.symm hm) cause s).store
  · cases hi : fillingIndex s l with
    | none => rw [Machine.dropFilling, hi]; exact .refl _
    | some i =>
      rw [slot_dropFilling hi]
      split_ifs
      · exact .inl rfl
      · exact .refl _

theorem StoreOk.unfilled_dropFilling {s : State} (hs : StoreOk s) (l : Link) (cause : DropCause) :
    Unfilled (Machine.dropFilling l cause s) l := by
  intro j
  cases hi : fillingIndex s l with
  | none => rw [Machine.dropFilling, hi]; exact fillingIndex_none hi j
  | some i =>
    rw [slot_dropFilling hi]
    split_ifs with hj
    · rfl
    · refine Bool.eq_false_iff.mpr fun filling => hj ?_
      exact hs.oneFilling l j i filling (Quad.find_some hi)

theorem StoreOk.endFrame {s : State} (hs : StoreOk s) (l : Link) : StoreOk (endFrame l s) :=
  StoreOk.dropFilling (hs.raiseIf _ _) l _

theorem StoreOk.unfilled_endFrame {s : State} (hs : StoreOk s) (l : Link) : Unfilled (Machine.endFrame l s) l :=
  StoreOk.unfilled_dropFilling (hs.raiseIf _ _) l _

theorem endFrame_ports (l : Link) (s : State) : (endFrame l s).ports = s.ports := by rw [endFrame_written]

theorem endFrame_part (l : Link) (s : State) : (endFrame l s).part = s.part := by rw [endFrame_written]

/-! ### Entries into the link states -/

theorem bodyOk_of_no_body {p : Port} (h : ∀ b, p.frame ≠ .body b) : BodyOk p := by
  intro b hb
  cases hf : p.frame with
  | body c => exact absurd hf (h c)
  | none | awaitingHeader | headerLost | skipping => rw [hf] at hb; cases hb

/-- The link state may change while the link fills no slot. -/
theorem StoreOk.setLinkState {s : State} (hs : StoreOk s) {l : Link} (running : s.part.state ≠ .initializing)
    (h : Unfilled s l) (x : LinkState) : StoreOk (s.setLinkState l x) :=
  hs.setPort (fun hi => absurd hi running) (hs.link l).body (.inl h)

/-- A port between two bodies may have any link state. -/
theorem StoreOk.setPort_between {s : State} (hs : StoreOk s) {l : Link} (running : s.part.state ≠ .initializing)
    (h : Unfilled s l) {p : Port} (hp : ∀ b, p.frame ≠ .body b) : StoreOk (s.setPort l p) :=
  hs.setPort (fun hi => absurd hi running) (bodyOk_of_no_body hp) (.inl h)

theorem StoreOk.enterOff {s : State} (hs : StoreOk s) {l : Link} (h : Unfilled s l) : StoreOk (enterOff l s) :=
  hs.setPort (fun _ => ⟨rfl, rfl⟩) (bodyOk_of_no_body nofun) (.inl h)

theorem StoreOk.enterSeeking {s : State} (hs : StoreOk s) {l : Link} (running : s.part.state ≠ .initializing)
    (h : Unfilled s l) : StoreOk (enterSeeking l s) :=
  hs.setPort_between running h nofun

theorem loseLoads_part (l : Link) (s : State) : (loseLoads l s).part = s.part := raiseIf_part _ _ _

theorem loseLoads_store (l : Link) (s : State) : (loseLoads l s).store = s.store := raiseIf_store _ _ _

theorem raiseIf_ports (s : State) (b : Bool) (e : Event) : (s.raiseIf b e).ports = s.ports := by rw [raiseIf_eq]

theorem loseLoads_ports (l : Link) (s : State) : (loseLoads l s).ports = s.ports := raiseIf_ports _ _ _

theorem loseLoads_clock (l : Link) (s : State) : (loseLoads l s).clock = s.clock := raiseIf_clock _ _ _

theorem StoreOk.loseLoads {s : State} (hs : StoreOk s) (l : Link) : StoreOk (loseLoads l s) := by
  have lost := loseLoads_part l s
  refine hs.congr ?_ (loseLoads_store l s) ?_ fun hi => lost ▸ hi
  · rw [State.dome, loseLoads_clock]; rfl
  · exact loseLoads_ports l s

theorem StoreOk.enterQuiet {s : State} (hs : StoreOk s) {l : Link} (running : s.part.state ≠ .initializing)
    (h : Unfilled s l) : StoreOk (enterQuiet l s) := by
  refine StoreOk.setPort_between ((hs.raise _).loseLoads l) ?_ (unfilled_of_store h ?_) nofun
  · rwa [loseLoads_part, raise_part]
  · rw [loseLoads_store, raise_store]

theorem StoreOk.enterHoldover {s : State} (hs : StoreOk s) {l : Link} (running : s.part.state ≠ .initializing) :
    StoreOk (enterHoldover l s) := by
  rw [enterHoldover_eq]
  exact (hs.endFrame l).setPort_between (by rwa [endFrame_part]) (hs.unfilled_endFrame l) nofun

/-! ### Bad headers and delimiters (R107, R110 to R115) -/

theorem StoreOk.badHeader {s : State} (hs : StoreOk s) (l : Link) : StoreOk (badHeader l s) := by
  unfold Machine.badHeader
  split
  · next h =>
    exact hs.setLinkState (hs.not_initializing (by rw [h]; nofun)) (hs.unfilled (.inl (by rw [h]; rfl))) _
  · next h =>
    have running := hs.not_initializing (l := l) (by rw [h]; nofun)
    split_ifs
    · refine hs.setPort (fun hi => absurd hi running) (hs.link l).body (.inr ?_)
      exact fun b _ reading => ⟨rfl, b, reading, rfl, rfl⟩
    · exact hs.enterHoldover running
  · next h =>
    exact hs.setLinkState (hs.not_initializing (by rw [h]; nofun)) (hs.unfilled (.inl (by rw [h]; rfl))) _
  all_goals exact hs

theorem badHeader_part (l : Link) (s : State) : (badHeader l s).part = s.part := by
  unfold badHeader
  split
  · rfl
  · split_ifs
    · rfl
    · rw [enterHoldover_eq]; exact endFrame_part l s
  all_goals rfl

theorem unfilled_badHeader {s : State} {l : Link} (h : Unfilled s l) : Unfilled (badHeader l s) l := by
  have ended : Unfilled (endFrame l s) l := by
    refine unfilled_of_store h ?_
    rw [endFrame_written, fillingDropped_of_none h.fillingIndex]
  unfold badHeader
  split
  · exact h
  · split_ifs
    · exact h
    · rw [enterHoldover_eq]; exact ended
  all_goals exact h

theorem running_of_judges {s : State} (hs : StoreOk s) {l : Link} (h : (s.ports.get l).state.judges = true) :
    s.part.state ≠ .initializing :=
  hs.not_initializing ((judges_iff _).mp h).1

theorem storeOk_frameDelimiter (t : Nat) (l : Link) {s : State} (hs : StoreOk s) :
    Answers StoreOk (execFrameDelimiter t l s) := by
  unfold execFrameDelimiter
  dsimp only
  have hs0 := hs.advance t
  split_ifs with h
  · rw [Bool.and_eq_true] at h
    have running : (endFrame l (s.advance t)).part.state ≠ .initializing := by
      rw [endFrame_part]; exact running_of_judges hs0 h.2
    have ended := hs0.endFrame l
    have unfilled := hs0.unfilled_endFrame l
    refine StoreOk.linkEvent ?_ _
    split
    · exact (ended.badHeader l).setPort_between (by rwa [badHeader_part]) (unfilled_badHeader unfilled) nofun
    · exact (ended.badHeader l).setPort_between (by rwa [badHeader_part]) (unfilled_badHeader unfilled) nofun
    all_goals exact ended.setPort_between running unfilled nofun
  · exact hs0

/-! ### Good headers (R92, R107, R110 to R115) -/

/-- The sizes and the packet count of a good header (R107). -/
def Header.ok (h : Header) : Prop := sizeOk h.width h.height ∧ h.packets ≤ 24

theorem ok_of_headerOf {bytes : BitVec 96} {h : Header} (hb : headerOf bytes = some h) : h.ok := by
  obtain ⟨w, w', x, x', packets, -⟩ := (headerOf_eq_some_iff bytes h).mp hb
  exact ⟨⟨w, w', x, x'⟩, packets⟩

/-- The port that has just read the good header `h`. -/
def Port.hasRead (h : Header) (p : Port) : Prop := ∃ b, p.frame = .body b ∧ b.header = h ∧ b.lines = 0

theorem lead_of_admitted {t d : Period} (late : ¬atOrBefore t d = true) (early : ¬laterThan t (d + 16) = true) :
    1 ≤ (t - d).toNat ∧ (t - d).toNat ≤ 16 := by
  simp only [laterThan, atOrBefore, Bool.not_eq_true', Bool.not_eq_false, decide_eq_true_eq, not_lt] at late early
  bv_omega

theorem StoreOk.offerFrame {s : State} (hs : StoreOk s) {l : Link} {h : Header} (ok : h.ok) (unfilled : Unfilled s l)
    (locked : (s.ports.get l).state.isLocked = true) (read : (s.ports.get l).hasRead h) :
    StoreOk (offerFrame l h s) := by
  obtain ⟨cause, hx⟩ | hx | ⟨i, admitted, -, hx⟩ := offerFrame_cases l h s
  · rw [hx]; exact hs.dropFrame l cause
  · rwa [hx]
  · rw [hx]
    refine hs.of_link l (fun m hm => link_setSlot_other s i _ hm) ?_
    rw [link_setSlot]
    cases hd : s.dome with
    | none => rw [admissionFailure, hd] at admitted; cases admitted
    | some d =>
      rw [admissionFailure_of_dome hd] at admitted
      split_ifs at admitted with standby late early duplicate full
      obtain ⟨b, reading, header, lines⟩ := read
      have near := lead_of_admitted late early
      refine (hs.link l).put i _ (hs.link l).held (fun j _ => unfilled j) (fun j _ _ same => ?_)
        ⟨ok.1, nofun, ?_, locked, ⟨b, reading, lines, by rw [header], by rw [header]⟩, d, hd, near.2⟩
        (hs.link l).body (hs.link l).leads.1 (hs.link l).leads.2
      · exact duplicate ((holdsTarget_iff _ _).mpr ⟨j, same⟩)
      · obtain ⟨⟨-, -, height, -⟩, -⟩ := ok
        exact Nat.lt_of_lt_of_le (Nat.zero_lt_succ 479) height

/-- The body of a good header begins to be read, in some link state. -/
theorem StoreOk.beginBody {s : State} (hs : StoreOk s) {l : Link} (running : s.part.state ≠ .initializing)
    (unfilled : Unfilled s l) {h : Header} (ok : h.ok) (parsed : Bool) : StoreOk (beginBody l h parsed s) := by
  refine hs.setPort (fun hi => absurd hi running) (fun b hb => ?_) (.inl unfilled)
  cases hb
  exact ⟨ok.1, ok.2, Nat.zero_le _, Nat.zero_le _⟩

theorem hasRead_beginBody (l : Link) (h : Header) (parsed : Bool) (s : State) :
    ((beginBody l h parsed s).ports.get l).hasRead h := by
  rw [beginBody, State.get_setPort]
  exact ⟨_, rfl, rfl, rfl⟩

theorem StoreOk.lockAndOffer {s : State} (hs : StoreOk s) {l : Link} (running : s.part.state ≠ .initializing)
    (unfilled : Unfilled s l) {h : Header} (ok : h.ok) (fromAligned : Bool) :
    StoreOk (lockAndOffer l fromAligned h s) := by
  have begun := hs.beginBody running unfilled ok true
  refine StoreOk.offerFrame (StoreOk.wakeOnLock ?_) ok (unfilled_of_store unfilled (wakeOnLock_store _)) ?_ ?_
  · exact begun.setPort (fun hi => absurd hi running) (begun.link l).body (.inl unfilled)
  · rw [wakeOnLock_ports, State.get_setPort]; rfl
  · rw [wakeOnLock_ports, State.get_setPort]
    exact hasRead_beginBody l h true s

/-- A good header is read by a port that waits for one, whose link therefore fills no slot. -/
theorem StoreOk.goodHeader {s : State} (hs : StoreOk s) {l : Link} {h : Header} (ok : h.ok)
    (waits : (s.ports.get l).frame = .awaitingHeader) : StoreOk (goodHeader l h s) := by
  have unfilled : Unfilled s l := hs.unfilled (.inr (by rw [waits]; nofun))
  have read (running : s.part.state ≠ .initializing) (parsed : Bool) (x : LinkState) :
      StoreOk ((Machine.beginBody l h parsed s).setLinkState l x) :=
    (hs.beginBody running unfilled ok parsed).setLinkState running (unfilled_of_store unfilled rfl) x
  unfold Machine.goodHeader
  dsimp only
  split
  · next hx => exact read (hs.not_initializing (by rw [hx]; nofun)) _ _
  · next hx =>
    have running := hs.not_initializing (l := l) (by rw [hx]; nofun)
    split_ifs
    · exact read running _ _
    · exact hs.lockAndOffer running unfilled ok _
    · exact read running _ _
  · next hx =>
    have begun := read (hs.not_initializing (by rw [hx]; nofun)) true
    split_ifs
    · refine StoreOk.offerFrame (begun _) ok (unfilled_of_store unfilled rfl) ?_ ?_
      · rw [State.setLinkState, State.get_setPort]; rfl
      · rw [State.setLinkState, State.get_setPort]
        exact hasRead_beginBody l h true s
    · exact StoreOk.dropFrame (begun _) l _
  · next hx =>
    have running := hs.not_initializing (l := l) (by rw [hx]; nofun)
    split_ifs
    · exact read running _ _
    · exact hs.lockAndOffer running unfilled ok _
    · exact read running _ _
  all_goals exact hs

theorem storeOk_frameHeader (t : Nat) (l : Link) (bytes : BitVec 96) {s : State} (hs : StoreOk s) :
    Answers StoreOk (execFrameHeader t l bytes s) := by
  unfold execFrameHeader
  dsimp only
  have hs0 := hs.advance t
  split_ifs with h
  · obtain ⟨judges, -, waits⟩ := (expectsHeader_iff _ _).mp h
    split
    · next header hb => exact (hs0.goodHeader (ok_of_headerOf hb) waits).linkEvent _
    · have unfilled : Unfilled (s.advance t) l := hs0.unfilled (.inr (by rw [waits]; nofun))
      have skipped := hs0.setPort_between (running_of_judges hs0 judges) unfilled
        (p := ((s.advance t).ports.get l).reading .skipping) nofun
      exact StoreOk.linkEvent (skipped.badHeader l) _
  · exact hs0

/-! ### Signal (R108, R109) -/

theorem bodyOk_discard {p : Port} (h : BodyOk p) (signal : Bool) (loss : Option Nat) :
    BodyOk { p with signal := signal, signalLoss := loss, frame := p.frame.discard } := by
  intro b hb
  cases hf : p.frame with
  | body c => rw [hf] at hb; cases hb; exact h c (by rw [hf]; rfl)
  | none | awaitingHeader | headerLost | skipping => rw [hf] at hb; cases hb

theorem bodyOk_break {p : Port} (h : BodyOk p) (signal : Bool) (loss : Option Nat) :
    BodyOk { p with signal := signal, frame := p.frame.break, signalLoss := loss } := by
  intro b hb
  cases hf : p.frame with
  | body c => rw [hf] at hb; cases hb; exact h c (by rw [hf]; rfl)
  | none | awaitingHeader | headerLost | skipping => rw [hf] at hb; cases hb

theorem storeOk_signalPresent (t : Nat) (l : Link) {s : State} (hs : StoreOk s) :
    Answers StoreOk (execSignalPresent t l s) := by
  unfold execSignalPresent
  dsimp only
  have hs0 := hs.advance t
  have back : StoreOk ((s.advance t).setPort l { s.ports.get l with
      signal := true, signalLoss := none, frame := (s.ports.get l).frame.discard }) := by
    refine hs0.setPort (fun hi => ?_) (bodyOk_discard (hs.link l).body _ _) (.inr fun b locked reading => ?_)
    · obtain ⟨off, frame⟩ := (hs.link l).held (beq_iff_eq.mpr hi)
      exact ⟨off, by rw [show (s.ports.get l).frame = .none from frame]; rfl⟩
    · refine ⟨locked, { b with parsed := b.parsed && !b.broken }, ?_, rfl, rfl⟩
      rw [show (s.ports.get l).frame = .body b from reading]
      rfl
  split
  · exact hs0
  · split
    · next hx =>
      split
      · exact back
      · next running =>
        refine StoreOk.linkEvent (back.enterSeeking (by simpa using running) ?_) _
        exact unfilled_of_store (hs.unfilled (l := l) (.inl (by rw [show (s.ports.get l).state = .off from hx]; rfl))) rfl
    all_goals exact back

theorem storeOk_signalAbsent (t : Nat) (l : Link) {s : State} (hs : StoreOk s) :
    Answers StoreOk (execSignalAbsent t l s) := by
  unfold execSignalAbsent
  dsimp only
  have hs0 := hs.advance t
  split_ifs
  · exact hs0
  all_goals
    have cut : StoreOk (cutPacket l (s.advance t)) := hs0.raiseIf _ _
    refine cut.setPort (fun hi => ?_) (bodyOk_break (cut.link l).body _ _) (.inr fun b locked reading => ?_)
    · obtain ⟨off, frame⟩ := (cut.link l).held (beq_iff_eq.mpr hi)
      exact ⟨off, by rw [show ((cutPacket l (s.advance t)).ports.get l).frame = .none from frame]; rfl⟩
    · exact ⟨locked, { b with buffer := [], broken := true }, by rw [reading]; rfl, rfl, rfl⟩

theorem StoreOk.loseSignal {s : State} (hs : StoreOk s) (e : Nat) (l : Link) : StoreOk (loseSignal e l s) := by
  unfold Machine.loseSignal
  split
  · next h => exact hs.enterOff (hs.unfilled (.inl (by rw [h]; rfl)))
  · next h => exact hs.enterOff (hs.unfilled (.inl (by rw [h]; rfl)))
  · next h =>
    split_ifs
    · exact (hs.endFrame l).enterOff (hs.unfilled_endFrame l)
    · exact hs.enterHoldover (hs.not_initializing (l := l) (by rw [h]; nofun))
  · next h =>
    exact hs.setLinkState (hs.not_initializing (l := l) (by rw [h]; nofun)) (hs.unfilled (.inl (by rw [h]; rfl))) _
  all_goals exact hs

theorem storeOk_signalLost (l : Link) {s : State} (hs : StoreOk s) : Answers StoreOk (execSignalLost l s) := by
  unfold execSignalLost
  split
  · exact hs
  · next e _ =>
    have hs0 := hs.advance e
    have taken : StoreOk ((s.advance e).setPort l { (s.advance e).ports.get l with signalLoss := none }) := by
      refine hs0.setPort (fun hi => (hs0.link l).held (beq_iff_eq.mpr hi)) (hs0.link l).body (.inr ?_)
      exact fun b locked reading => ⟨locked, b, reading, rfl, rfl⟩
    exact StoreOk.linkEvent (taken.loseSignal e l) _

/-! ### Timers (R115, R116) -/

theorem StoreOk.quiet {s : State} (hs : StoreOk s) {l : Link} (e : Nat) (off : (s.ports.get l).state ≠ .off)
    (h : (s.ports.get l).state.isLocked = false) :
    Answers StoreOk (Machine.linkEvent (s.advance e) (Machine.enterQuiet l (s.advance e))) :=
  StoreOk.linkEvent ((hs.advance e).enterQuiet (hs.not_initializing off) (unfilled_of_store (hs.unfilled (.inl h)) rfl)) _

theorem storeOk_linkAcquisitionTimeout (l : Link) {s : State} (hs : StoreOk s) :
    Answers StoreOk (execLinkAcquisitionTimeout l s) := by
  unfold execLinkAcquisitionTimeout
  split
  · next h => exact hs.quiet _ (by rw [h]; nofun) (by rw [h]; rfl)
  · next h => exact hs.quiet _ (by rw [h]; nofun) (by rw [h]; rfl)
  all_goals exact hs

theorem storeOk_lossLimitExpiry (l : Link) {s : State} (hs : StoreOk s) :
    Answers StoreOk (execLossLimitExpiry l s) := by
  unfold execLossLimitExpiry
  split
  · next h => exact hs.quiet _ (by rw [h]; nofun) (by rw [h]; rfl)
  all_goals exact hs

theorem storeOk_quietTimerExpiry (l : Link) {s : State} (hs : StoreOk s) :
    Answers StoreOk (execQuietTimerExpiry l s) := by
  unfold execQuietTimerExpiry
  split
  · next e h =>
    have running : s.part.state ≠ .initializing := hs.not_initializing (l := l) (by rw [h]; nofun)
    have unfilled : Unfilled (s.advance e) l := unfilled_of_store (hs.unfilled (.inl (by rw [h]; rfl))) rfl
    refine StoreOk.linkEvent ?_ _
    split
    · exact (hs.advance e).enterSeeking running unfilled
    · exact (hs.advance e).enterOff unfilled
  all_goals exact hs

/-! ### The management area (R119 to R121) -/

theorem StoreOk.handOver {s : State} (hs : StoreOk s) (l : Link) (p : Packet) : StoreOk (handOver l p s) := by
  unfold Machine.handOver
  dsimp only
  split
  · exact hs.congr rfl rfl rfl id
  · exact hs.raise _

theorem handOver_same (l : Link) (p : Packet) (s : State) :
    (handOver l p s).part = s.part ∧ (handOver l p s).store = s.store := by
  unfold handOver
  dsimp only
  split
  · exact ⟨rfl, rfl⟩
  · exact ⟨raise_part _ _, raise_store _ _⟩

/-- The frame came with a good header, all its counts keep within it, and `due` packets may still come. -/
def FrameBody.fits (b : FrameBody) (due : Nat) : Prop :=
  sizeOk b.header.width b.header.height ∧ b.header.packets ≤ 24 ∧ b.lines ≤ b.header.height
    ∧ b.packets + due ≤ b.header.packets

theorem FrameBody.fits.bodyOk {b : FrameBody} {due : Nat} (h : b.fits due) {p : Port} (hp : p.frame = .body b) :
    BodyOk p := by
  obtain ⟨size, packets, lines, room⟩ := h
  intro c hc
  rw [hp] at hc
  cases hc
  exact ⟨size, packets, lines, (Nat.le_add_right _ _).trans room⟩

/-- Bytes of the area are taken while the link fills no slot. -/
theorem StoreOk.areaBytes {s : State} (hs : StoreOk s) {l : Link} (running : s.part.state ≠ .initializing)
    (unfilled : Unfilled s l) {due : Nat} {b : FrameBody} (h : b.fits due) (buf : List Byte) :
    StoreOk (areaBytes l due b buf s) := by
  have read {u : State} (hu : StoreOk u) (running : u.part.state ≠ .initializing) (unfilled : Unfilled u l)
      {c : FrameBody} {n : Nat} (hc : c.fits n) : StoreOk (u.setFrame l (.body c)) :=
    hu.setPort (fun hi => absurd hi running) (hc.bodyOk rfl) (.inl unfilled)
  induction due generalizing b buf s with
  | zero => exact hs
  | succ due ih =>
    have whole : ({ b with packets := b.packets + 1, buffer := [] } : FrameBody).fits due := by
      obtain ⟨size, packets, lines, room⟩ := h
      exact ⟨size, packets, lines, by dsimp only; omega⟩
    have buffered (x : List Byte) : ({ b with buffer := x } : FrameBody).fits (due + 1) := h
    unfold Machine.areaBytes
    dsimp only
    split_ifs
    · exact read hs running unfilled (buffered _)
    · exact StoreOk.raise (hs.setPort_between running unfilled (p := (s.ports.get l).reading .skipping) nofun) _
    · exact read hs running unfilled (buffered _)
    · obtain ⟨part, store⟩ := handOver_same l (packetOf (buf.take (lengthField buf + 8)))
        (s.setFrame l (.body { b with packets := b.packets + 1, buffer := [] }))
      exact ih ((read hs running unfilled whole).handOver l _) (by rwa [part]) (unfilled_of_store unfilled store) whole _
    · exact ih ((read hs running unfilled whole).raise _) (by rwa [raise_part])
        (unfilled_of_store unfilled (raise_store _ _)) whole _

theorem StoreOk.running_of_body {s : State} (hs : StoreOk s) {l : Link} {b : FrameBody}
    (hb : (s.ports.get l).frame = .body b) : s.part.state ≠ .initializing := fun hi => by
  obtain ⟨-, frame⟩ := (hs.link l).held (beq_iff_eq.mpr hi)
  cases hb.symm.trans frame

theorem StoreOk.body {s : State} (hs : StoreOk s) {l : Link} {b : FrameBody} (hb : (s.ports.get l).frame = .body b) :
    sizeOk b.header.width b.header.height ∧ b.header.packets ≤ 24 ∧ b.lines ≤ b.header.height
      ∧ b.packets ≤ b.header.packets :=
  (hs.link l).body b (congrArg FrameProgress.bodyOf hb)

/-- What a link that fills a slot knows of its frame and of the body that its port reads. -/
theorem StoreOk.filling {s : State} (hs : StoreOk s) {l : Link} {i : SlotIndex} {f : Frame} {b : FrameBody}
    (hf : s.slot ⟨l, i⟩ = .filling f) (hb : (s.ports.get l).frame = .body b) :
    sizeOk f.width f.height ∧ f.linesOk ∧ f.lines.length < f.height ∧ (s.ports.get l).state.isLocked = true
      ∧ b.lines = f.lines.length ∧ b.header.width = f.width ∧ b.header.height = f.height
      ∧ ∃ d, s.dome = some d ∧ (f.target - d).toNat ≤ 16 := by
  have fits := (hs.link l).slots i
  rw [show (s.link l).store.slots.get i = .filling f from hf] at fits
  obtain ⟨size, lines, short, locked, ⟨c, reading, counted⟩, near⟩ := fits
  cases hb.symm.trans reading
  exact ⟨size, lines, short, locked, counted.1, counted.2.1, counted.2.2, near⟩

/-- A packet is due only behind the last line, so the link fills no slot then. -/
theorem storeOk_managementPacket (t : Nat) (l : Link) (bytes : List Byte) {s : State} (hs : StoreOk s) :
    Answers StoreOk (execManagementPacket t l bytes s) := by
  unfold execManagementPacket
  dsimp only
  have hs0 := hs.advance t
  split
  · next b hb =>
    split_ifs with h
    · have due : b.lines = b.header.height := by
        simp only [FrameBody.expectsPacket, Bool.and_eq_true, beq_iff_eq] at h
        obtain ⟨-, ⟨-, due⟩, -⟩ := h
        exact due
      obtain ⟨size, packets, lines, room⟩ := hs0.body hb
      refine hs0.areaBytes (hs0.running_of_body hb) (fun j => ?_) ⟨size, packets, lines, by omega⟩ _
      cases hx : (s.advance t).slot ⟨l, j⟩ with
      | free | complete _ _ => rfl
      | filling f =>
        obtain ⟨-, -, short, -, counted, -, height, -⟩ := hs0.filling hx hb
        omega
    · exact hs0
  all_goals exact hs0

/-! ### Lines (R94, R96) -/

theorem one_le_of_laterThan {t d : Period} (h : laterThan t d = true) : 1 ≤ (t - d).toNat := by
  simp only [laterThan, atOrBefore, Bool.not_eq_true', decide_eq_false_iff_not, not_lt] at h
  bv_omega

theorem mem_addLead {n : Nat} {leads : List Nat} {m : Nat} (h : m ∈ (n :: leads).take 64) : m = n ∨ m ∈ leads :=
  List.mem_cons.mp (List.mem_of_mem_take h)

/-- The slot being filled may be written over with the same target, or freed. -/
theorem LinkView.Ok.refill {v : LinkView} (hv : v.Ok) {i : SlotIndex} {f : Frame}
    (hf : v.store.slots.get i = .filling f) {y : Slot} {p : Port} {leads : List Nat} (cause : DropCause)
    (running : v.initializing = false) (same : y.target = some f.target ∨ y = .free) (fits : y.fits v.dome p)
    (body : BodyOk p) (short : leads.length ≤ leadPlaces) (range : ∀ n ∈ leads, 1 ≤ n ∧ n ≤ 16) :
    LinkView.Ok { v with store := ⟨v.store.slots.set i y, leads, cause⟩, port := p } := by
  refine hv.put i cause (fun hi => by rw [running] at hi; cases hi) (fun j hj => ?_) (fun j hj hy hjy => ?_) fits body
    short range
  · exact Bool.eq_false_iff.mpr fun filling => hj (hv.one j i filling (by rw [hf]; rfl))
  · obtain target | rfl := same
    · refine hj (hv.targets j i (by rw [hjy]; exact hy) ?_)
      rw [hjy, target, hf]
      rfl
    · cases hy

theorem linesOk_withLine {f : Frame} (h : f.linesOk) {line : List Pixel} (hl : line.length = f.width) :
    (f.withLine line).linesOk := by
  intro x hx
  obtain hx | hx := List.mem_append.mp hx
  · exact h x hx
  · rw [List.mem_singleton.mp hx]
    exact hl

theorem length_withLine (f : Frame) (line : List Pixel) : (f.withLine line).lines.length = f.lines.length + 1 :=
  List.length_append

/-- A line of a frame being read is counted, and stored in the slot that the link fills. -/
theorem storeOk_lineTaken {s : State} (hs : StoreOk s) (t : Nat) {l : Link} {b : FrameBody}
    (hb : (s.ports.get l).frame = .body b) (room : b.lines < b.header.height) {line : List Pixel}
    (hl : line.length = b.header.width) : StoreOk (storeLine l line (lineCounted s t l b)) := by
  have running := hs.running_of_body hb
  obtain ⟨size, packets, lines, taken⟩ := hs.body hb
  have body : BodyOk ((s.ports.get l).reading (.body { b with lines := b.lines + 1 })) := fun c hc => by
    cases hc
    exact ⟨size, packets, room, taken⟩
  have counted : lineCounted s t l b =
      (s.advance t).setPort l ((s.ports.get l).reading (.body { b with lines := b.lines + 1 })) := rfl
  have other (m : Link) (hm : m ≠ l) : (lineCounted s t l b).link m = s.link m := link_setPort_other _ _ hm
  have own : (lineCounted s t l b).link l = { s.link l with
      port := (s.ports.get l).reading (.body { b with lines := b.lines + 1 }) } := link_setPort _ _ _
  cases hi : fillingIndex (lineCounted s t l b) l with
  | none =>
    rw [storeLine_unfilled hi, counted]
    exact (hs.advance t).setPort (fun hi => absurd hi running) body (.inl (fillingIndex_none hi))
  | some i =>
    obtain ⟨f, hf⟩ := fillingIndex_some hi
    obtain ⟨fsize, flines, short, locked, same, width, height, d, hd, near⟩ := hs.filling hf hb
    have whole := linesOk_withLine flines (hl.trans width)
    have refill {y : Slot} {leads : List Nat} (cause : DropCause) (h : y.target = some f.target ∨ y = .free)
        (fits : y.fits s.dome ((s.ports.get l).reading (.body { b with lines := b.lines + 1 })))
        (len : leads.length ≤ leadPlaces) (range : ∀ n ∈ leads, 1 ≤ n ∧ n ≤ 16) :=
      (hs.link l).refill (show (s.link l).store.slots.get i = .filling f from hf) cause
        (beq_eq_false_iff_ne.mpr running) h fits body len range
    obtain ⟨len, range⟩ := (hs.link l).leads
    rw [storeLine_filling hi hf, length_withLine]
    split_ifs with more
    · refine hs.of_link l (fun m hm => (link_setSlot_other _ i _ hm).trans (other m hm)) ?_
      rw [link_setSlot, own]
      refine refill _ (.inl rfl) ⟨fsize, whole, ?_, locked, ⟨_, rfl, ?_, width, height⟩, d, hd, near⟩ len range
      · rw [length_withLine]; exact more
      · rw [length_withLine, ← same]
    · cases later : laterThan f.target d with
      | true =>
        rw [completeFrame_inTime (s := lineCounted s t l b) (f := f.withLine line) (d := d) hd later]
        have full : (Slot.complete (f.withLine line) ⟨false, false⟩).fits s.dome
            ((s.ports.get l).reading (.body { b with lines := b.lines + 1 })) :=
          ⟨fsize, whole, by rw [length_withLine]; exact le_antisymm short (Nat.not_lt.mp more)⟩
        have completed := refill (s.store.get l).lastDrop (.inl rfl) full
          (leads := ((f.target - d).toNat :: (s.store.get l).leads).take 64) (List.length_take_le _ _) fun n hn => ?_
        · refine hs.of_link l (fun m hm => ?_) ?_
          · simp only [State.link, lineCounted, PerLink.get_set_other _ _ hm]
            rfl
          · simp only [State.link, lineCounted, PerLink.get_set_same]
            exact completed
        · obtain rfl | hn := mem_addLead hn
          · exact ⟨one_le_of_laterThan later, near⟩
          · exact range n hn
      | false =>
        rw [completeFrame_late (s := lineCounted s t l b) (f := f.withLine line) (d := d) hd later]
        refine StoreOk.dropFrame (hs.of_link l (fun m hm => (link_setSlot_other _ i _ hm).trans (other m hm)) ?_) l _
        rw [link_setSlot, own]
        exact refill _ (.inr rfl) trivial len range

theorem storeOk_pixelLine (t : Nat) (l : Link) (bytes : List Byte) {s : State} (hs : StoreOk s) :
    Answers StoreOk (exec (.pixelLine t l bytes) s) := by
  by_cases h : ∃ b, (s.ports.get l).frame = .body b ∧ lineTaken (s.ports.get l) (max s.now t) b bytes
  · obtain ⟨b, hb, taken⟩ := h
    rw [exec_pixelLine_taken hb taken]
    obtain ⟨length, room⟩ := taken
    refine storeOk_lineTaken hs t hb ?_ (length_pixelsOf _ _ _ length)
    obtain ⟨-, -, room⟩ | ⟨-, -, -, last⟩ := room
    · exact room
    · omega
  · rw [exec_pixelLine_other fun b hb taken => h ⟨b, hb, taken⟩]
    exact hs.advance t

end Sys2Proof.Machine
end

section
/-!
PROOFS. The invariant of the Frame Store and the ports under resets, standby, the part state and every period start.
-/
namespace Sys2Proof.Machine

open Sys2Proof

/-! ### Every slot FREE, and resets (R102, R103, R126) -/

/-- A link whose slots are all FREE, with its leads. -/
theorem LinkView.Ok.of_free {v w : LinkView} (hv : v.Ok)
    (held : w.initializing = true → w.port.state = .off ∧ w.port.frame = .none)
    (free : ∀ j : SlotIndex, w.store.slots.get j = .free) (body : BodyOk w.port) (leads : w.store.leads = v.store.leads) :
    w.Ok :=
  hv.of_left held (fun j => .inl (free j)) (fun j f hf => by rw [free j] at hf; cases hf) body leads

theorem get_linkStoreReset (j : SlotIndex) : LinkStore.reset.slots.get j = .free := by cases j <;> rfl

/-- The store and the ports at their reset values, whatever the rest. -/
theorem storeOk_of_reset {s : State} (store : s.store = ⟨LinkStore.reset, LinkStore.reset⟩)
    (ports : ∀ l : Link, (s.ports.get l).state = .off ∧ (s.ports.get l).frame = .none) : StoreOk s := by
  rw [storeOk_iff]
  intro l
  have reset : (s.link l).store = LinkStore.reset := by
    rw [State.link, store]
    cases l <;> rfl
  have free (j : SlotIndex) : (s.link l).store.slots.get j = .free := by rw [reset, get_linkStoreReset]
  exact
    { held := fun _ => ports l
      slots := fun j => by rw [free]; trivial
      body := bodyOk_of_no_body (by rw [show (s.link l).port.frame = .none from (ports l).2]; nofun)
      one := fun i j hi => by rw [free] at hi; cases hi
      targets := fun i j hi => by rw [free] at hi; cases hi
      leads := by rw [reset]; exact ⟨Nat.zero_le _, fun n hn => by cases hn⟩ }

theorem storeOk_powerOnReset (s : State) : StoreOk (powerOnReset s) :=
  storeOk_of_reset rfl fun l => by cases l <;> exact ⟨rfl, rfl⟩

theorem storeOk_pinReset (s : State) : StoreOk (pinReset s) :=
  storeOk_of_reset rfl fun l => by cases l <;> exact ⟨rfl, rfl⟩

/-! ### The part state, patterns and service (R180 to R189) -/

/-- The records that the invariant reads, with the part state. -/
def State.received (s : State) : Option Period × PerLink LinkStore × PerLink Port × PartState :=
  (s.dome, s.store, s.ports, s.part.state)

theorem StoreOk.of_received {s s' : State} (hs : StoreOk s) (h : s'.received = s.received) : StoreOk s' := by
  simp only [State.received, Prod.mk.injEq] at h
  obtain ⟨dome, store, ports, state⟩ := h
  exact hs.congr dome store ports fun hi => state.symm.trans hi

theorem received_startPattern (pat : Pattern) (o : Out) (s : State) : (startPattern pat o s).received = s.received := by
  unfold startPattern
  dsimp only
  split <;> rfl

theorem received_endPattern (o : Out) (s : State) : (endPattern o s).received = s.received := by
  unfold endPattern
  split
  · rfl
  · dsimp only
    split <;> rfl

theorem received_forOutputs {f : Out → State → State} (hf : ∀ (o : Out) (s : State), (f o s).received = s.received)
    (m : Mask) (s : State) : (forOutputs m f s).received = s.received := by
  unfold forOutputs
  split_ifs <;> simp only [hf]

theorem StoreOk.wakeFromStandby {s : State} (hs : StoreOk s) : StoreOk (wakeFromStandby s) := by
  unfold Machine.wakeFromStandby
  split
  · exact hs.setPart nofun
  all_goals exact hs

theorem StoreOk.standbyEntry {s : State} (hs : StoreOk s) (kind : StandbyKind) : StoreOk (standbyEntry kind s) := by
  rw [standbyEntry_eq]
  refine StoreOk.raiseIf (StoreOk.raiseIf ?_ _ _) _ _
  rw [storeOk_iff]
  intro l
  refine (hs.link l).of_free (fun hi => by cases hi) (fun j => ?_) (hs.link l).body ?_
  · cases l <;> cases j <;> rfl
  · cases l <;> rfl

theorem StoreOk.decodeGroup {s : State} (hs : StoreOk s) (count : Nat) : StoreOk (decodeGroup count s) := by
  unfold Machine.decodeGroup
  split
  · refine hs.of_received ?_
    unfold overrideDark
    dsimp only
    split <;> rfl
  · exact StoreOk.wakeFromStandby (hs.of_received rfl)
  · exact hs.of_received rfl
  · exact hs

theorem StoreOk.softReset {s : State} (hs : StoreOk s) (keep : Bool) : StoreOk (softReset keep s) := by
  have woken : StoreOk (Machine.wakeFromStandby (endPatternsAtSoftReset (softResetScheduler (resetTables s)))) :=
    StoreOk.wakeFromStandby (hs.of_received rfl)
  cases keep <;> exact woken.of_received rfl

theorem storeOk_softReset (t : Nat) {s : State} (hs : StoreOk s) : Answers StoreOk (execSoftReset t s) := by
  unfold execSoftReset
  split
  · exact hs.advance t
  · next l p rest hnext =>
    have taken := storeOk_reads (untouched_dequeue hnext t) hs
    split
    · refine has_settle storeOk_reads taken (generalChecks_has ?_)
      unfold softResetOwner
      split
      · trivial
      · exact taken.softReset _
    · exact hs.advance t

theorem StoreOk.enableReceiver {s : State} (hs : StoreOk s) {l : Link} (running : s.part.state ≠ .initializing)
    (off : (s.ports.get l).state = .off) : StoreOk (enableReceiver l s) := by
  unfold Machine.enableReceiver
  split
  · exact hs.enterSeeking running (hs.unfilled (.inl (by rw [off]; rfl)))
  · exact hs

theorem enableReceiver_part (l : Link) (s : State) : (enableReceiver l s).part = s.part := by
  unfold enableReceiver
  split <;> rfl

theorem enableReceiver_other {l m : Link} (h : m ≠ l) (s : State) :
    (enableReceiver l s).ports.get m = s.ports.get m := by
  unfold enableReceiver
  split
  · exact PerLink.get_set_other _ _ h
  · rfl

theorem storeOk_initialisationEnd (t : Nat) {s : State} (hs : StoreOk s) :
    Answers StoreOk (execInitialisationEnd t s) := by
  unfold execInitialisationEnd
  dsimp only
  split
  · next h =>
    rw [Bool.and_eq_true, beq_iff_eq] at h
    have off (l : Link) : (s.ports.get l).state = .off := ((hs.link l).held (beq_iff_eq.mpr h.2)).1
    have ready : StoreOk ((s.advance t).setPartState .ready) := (hs.advance t).setPart nofun
    have a := ready.enableReceiver (l := .a) nofun (off .a)
    have b := a.enableReceiver (l := .b) (by rw [enableReceiver_part]; nofun)
      (by rw [enableReceiver_other (by decide)]; exact off .b)
    exact StoreOk.latchEdges b.keepIdleTimer _
  · exact hs.advance t

/-! ### Timers of the outputs and of the part -/

theorem storeOk_douserTimerExpiry (o : Out) {s : State} (hs : StoreOk s) :
    Answers StoreOk (execDouserTimerExpiry o s) := by
  unfold execDouserTimerExpiry
  dsimp only
  split
  · exact hs
  · exact hs.of_received rfl

theorem storeOk_openTimerExpiry (o : Out) {s : State} (hs : StoreOk s) : Answers StoreOk (execOpenTimerExpiry o s) := by
  unfold execOpenTimerExpiry
  dsimp only
  split
  · exact hs.of_received rfl
  all_goals exact hs

theorem storeOk_idleTimerExpiry {s : State} (hs : StoreOk s) : Answers StoreOk (execIdleTimerExpiry s) := by
  unfold execIdleTimerExpiry
  split
  · exact hs
  · next e _ => exact StoreOk.latchEdges ((hs.advance e).standbyEntry _) _

theorem storeOk_wakingTimerExpiry {s : State} (hs : StoreOk s) : Answers StoreOk (execWakingTimerExpiry s) := by
  unfold execWakingTimerExpiry
  split
  · next e _ =>
    have ready : StoreOk ((s.advance e).setPartState .ready) := (hs.advance e).setPart nofun
    exact StoreOk.latchEdges ready.keepIdleTimer _
  all_goals exact hs

theorem storeOk_patternExpiry (o : Out) {s : State} (hs : StoreOk s) : Answers StoreOk (execPatternExpiry o s) := by
  unfold execPatternExpiry
  split
  · exact hs
  · next p _ =>
    exact StoreOk.latchEdges ((hs.advance p.expires).of_received (received_endPattern o (s.advance p.expires))) _

theorem storeOk_groupTimerExpiry {s : State} (hs : StoreOk s) : Answers StoreOk (execGroupTimerExpiry s) := by
  unfold execGroupTimerExpiry
  split
  · exact hs
  · next e _ =>
    have decoded := (hs.advance e).decodeGroup ((s.advance e).part.decoder.group.getD 0)
    exact StoreOk.latchEdges (s := s.advance e) (decoded.of_received rfl)

theorem storeOk_overrideTimerExpiry {s : State} (hs : StoreOk s) : Answers StoreOk (execOverrideTimerExpiry s) := by
  unfold execOverrideTimerExpiry
  split
  · exact hs
  all_goals exact hs.of_received rfl

/-! ### Rows that make a period start (R59 to R66) -/

/-- The clock as a start sets it: D does not become undefined, and what the start will read is as it was. -/
structure ClockSet (before s : State) : Prop where
  store : s.store = before.store
  ports : s.ports = before.ports
  controllers : s.controllers = before.controllers
  part : s.part = before.part
  commands : s.engine.commands = before.engine.commands
  dome : s.dome = none → before.dome = none

theorem clockSet_startClock (s : State) {state : ClockState} (period misses : Nat) (atMark : Bool)
    (h : state.dome = none → s.dome = none) : ClockSet s (s.startClock state period misses atMark) :=
  ⟨rfl, rfl, rfl, rfl, rfl, h⟩

theorem ClockSet.raiseIf {before s : State} (h : ClockSet before s) (b : Bool) (e : Event) :
    ClockSet before (s.raiseIf b e) := by
  rw [raiseIf_eq]
  exact ⟨h.store, h.ports, h.controllers, h.part, h.commands, h.dome⟩

theorem untouched_clock {s : State} {clock : Clock} (h : clock.state.dome = s.dome) :
    Untouched s { s with clock := clock } :=
  .of_outward (by rw [State.outward, State.outward]; exact congrArg (fun d => (d, _)) h) fun _ => rfl

/-- A property of the outputs and the store that every period start keeps. -/
def KeptByStarts (P : State → Prop) : Prop := ∀ {before s : State}, P before → ClockSet before s → P (periodStart before s)

section
variable {P : State → Prop}

theorem makeStart_keeps (start : KeptByStarts P) {before s : State} (hb : P before) (set : ClockSet before s) :
    P (makeStart before s) := by
  unfold makeStart
  split_ifs
  · exact hb
  · exact start hb set

theorem startAtWord_keeps (start : KeptByStarts P) (d n : Period) (period : Nat) {s : State} (hs : P s) :
    P (startAtWord d n period s) := by
  have tracking : (trackingFrom n period s.now).dome = none → s.dome = none := nofun
  exact makeStart_keeps start hs ((clockSet_startClock s period 0 true tracking).raiseIf _ _)

theorem acceptWord_keeps (hP : ReadsOutward P) (start : KeptByStarts P) (n : Period) {s : State} (hs : P s) :
    P (acceptWord n s) := by
  unfold acceptWord
  split
  · next h => exact hP (untouched_clock (by rw [State.dome, h]; rfl)) hs
  · next h =>
    split_ifs
    · exact makeStart_keeps start hs (clockSet_startClock s _ _ _ nofun)
    · exact hP (untouched_clock (by rw [State.dome, h]; rfl)) hs
  · split_ifs
    · exact startAtWord_keeps start _ n _ hs
    · exact hs
  · exact startAtWord_keeps start _ n _ hs

theorem execSyncWord_keeps (hP : ReadsOutward P) (start : KeptByStarts P) (t : Nat) (cells : BitVec 48) {s : State}
    (hs : P s) : Answers P (execSyncWord t cells s) := by
  have hs0 := hP (untouched_advance s t) hs
  have atMark : P (decoderAtMark (s.advance t)) := hP (untouched_clock rfl) hs0
  unfold execSyncWord
  dsimp only
  split_ifs
  · exact acceptWord_keeps hP start _ atMark
  · exact atMark
  · exact hs0

theorem execGeneratorStart_keeps (hP : ReadsOutward P) (start : KeptByStarts P) {s : State} (hs : P s) :
    Answers P (execGeneratorStart s) := by
  unfold execGeneratorStart
  split
  · exact hs
  · next e _ =>
    have hs0 := hP (untouched_advance s e) hs
    unfold generatorStart
    split
    · exact makeStart_keeps start hs0 (clockSet_startClock _ _ _ _ nofun)
    · exact makeStart_keeps start hs0 (clockSet_startClock _ _ _ _ id)
    · exact makeStart_keeps start hs0 (clockSet_startClock _ _ _ _ id)
    · exact hs0

theorem execTrackingWindowClose_keeps (hP : ReadsOutward P) (start : KeptByStarts P) {s : State} (hs : P s) :
    Answers P (execTrackingWindowClose s) := by
  unfold execTrackingWindowClose
  split
  · next closes _ =>
    unfold missedStart
    refine makeStart_keeps start (hP (untouched_advance s closes) hs) (clockSet_startClock _ _ _ _ ?_)
    split_ifs <;> exact nofun
  all_goals exact hs

end

/-! ### Period starts (R99, R100) -/

theorem bodyOk_of_frame {p q : Port} (h : BodyOk p) (hq : q.frame = p.frame) : BodyOk q := by
  unfold BodyOk
  rw [hq]
  exact h

/-- A start that gives D, or leaves it undefined, keeps the invariant that held before the clock was set. -/
theorem StoreOk.periodStart {before s : State} (hs : StoreOk before) (set : ClockSet before s) :
    StoreOk (periodStart before s) := by
  obtain ⟨store, ports, -, part, -, dome⟩ := set
  obtain ⟨-, clock, part', -, -, -, -, -, ports'⟩ := frame_of_startPart (periodStart_part before s)
  have dome' : (Machine.periodStart before s).dome = s.dome := congrArg (fun c : Clock => c.state.dome) clock
  have slots (i : SlotId) : (Machine.periodStart before s).slot i = (releaseWork (beforeRelease s)).slot i :=
    slot_of_store (store_periodStart before s) i
  have remain := remain_beforeRelease s
  have one (l : Link) : OneFilling (beforeRelease s) l :=
    (hs.oneFilling l).congr fun i => by
      rw [(remain.slots ⟨l, i⟩).isFilling, slot_of_store store]
  rw [storeOk_iff]
  intro l
  have sameState : ((Machine.periodStart before s).ports.get l).state = (before.ports.get l).state := by
    rw [ports' l, ports]
  have sameFrame : ((Machine.periodStart before s).ports.get l).frame = (before.ports.get l).frame := by
    rw [ports' l, ports]
  have left (j : SlotIndex) : (before.slot ⟨l, j⟩).Left ((Machine.periodStart before s).slot ⟨l, j⟩) := by
    rw [slots, ← slot_of_store store]
    refine (remain.slots ⟨l, j⟩).left.trans ?_
    cases hd : s.dome with
    | none =>
      rw [slot_releaseWork_of_no_dome (remain.dome.trans hd)]
      exact .refl _
    | some d =>
      rw [slot_releaseWork (remain.dome.trans hd) one]
      exact (remains_release (some d) _).left.trans (Slot.left_tested d _)
  refine (hs.link l).of_left (fun hi => ?_) left (fun j f hf => ?_) (bodyOk_of_frame (hs.link l).body sameFrame) ?_
  · have off := (hs.link l).held (beq_iff_eq.mpr (by rw [← part, ← part']; exact beq_iff_eq.mp hi))
    exact ⟨sameState.trans off.1, sameFrame.trans off.2⟩
  · have fits := (hs.link l).slots j
    rw [show (before.link l).store.slots.get j = .filling f from (left j).filling hf] at fits
    obtain ⟨-, -, -, locked, ⟨b, reading, counted⟩, d', hd', -⟩ := fits
    cases hd : s.dome with
    | none => exact absurd ((dome hd).symm.trans hd') nofun
    | some d =>
      refine ⟨?_, ⟨b, sameFrame.trans reading, counted⟩, d, dome'.trans hd, ?_⟩
      · exact (congrArg LinkState.isLocked sameState).trans locked
      · have kept := kept_of_released d ((beforeRelease s).slot ⟨l, j⟩)
        rw [← slot_releaseWork (remain.dome.trans hd) one, ← slots,
          show (Machine.periodStart before s).slot ⟨l, j⟩ = .filling f from hf] at kept
        obtain kept | kept := kept
        · cases kept
        · exact of_decide_eq_true kept
  · have leads := leads_periodStart before s l
    rw [store] at leads
    exact leads

/-! ### Every step -/

theorem routeOwner_received (l : Link) (p : Packet) (s : State) :
    (routeOwner l p s).Has fun s' => s'.received = s.received := by
  unfold routeOwner
  split
  · trivial
  · split_ifs <;> trivial

theorem selectOwner_received (l : Link) (p : Packet) (s : State) :
    (selectOwner l p s).Has fun s' => s'.received = s.received := by
  unfold selectOwner
  split
  · trivial
  · split_ifs <;> trivial

theorem patternOwner_received (l : Link) (p : Packet) (s : State) :
    (patternOwner l p s).Has fun s' => s'.received = s.received := by
  unfold patternOwner
  dsimp only
  split
  · trivial
  · split_ifs
    · trivial
    · trivial
    · trivial
    · trivial
    · exact received_forOutputs (received_startPattern _) _ s

theorem standbyEnterOwner_storeOk (l : Link) (p : Packet) {s : State} (hs : StoreOk s) :
    (standbyEnterOwner l p s).Has StoreOk := by
  unfold standbyEnterOwner
  split_ifs
  · trivial
  · split
    · exact hs.setPart nofun
    · exact hs
    · exact hs.standbyEntry _
    · exact hs.standbyEntry _
    · exact hs

theorem standbyExitOwner_storeOk (l : Link) (p : Packet) {s : State} (hs : StoreOk s) :
    (standbyExitOwner l p s).Has StoreOk := by
  unfold standbyExitOwner
  split_ifs
  · trivial
  · exact hs.wakeFromStandby

theorem standbyDelayOwner_received (l : Link) (p : Packet) (s : State) :
    (standbyDelayOwner l p s).Has fun s' => s'.received = s.received := by
  unfold standbyDelayOwner
  dsimp only
  split_ifs <;> trivial

theorem Reply.Has.mono {P Q : State → Prop} {r : Reply} (h : r.Has P) (hPQ : ∀ s, P s → Q s) : r.Has Q := by
  cases r with
  | refuse _ _ => trivial
  | accept s _ | defer s => exact hPQ s h

theorem storeOk_takeOwned {names : Packet → Bool} {lengthOk : Nat → Bool} {channel : Bool}
    {owner : Link → Packet → State → Reply} {s : State} (hs : StoreOk s)
    (ho : ∀ (l : Link) (p : Packet) (s : State), (owner l p s).Has fun s' => s'.received = s.received) (t : Nat) :
    StoreOk (takeOwned names lengthOk channel owner t s) :=
  takeOwned_keeps storeOk_reads (fun l p s1 h1 _ => (ho l p s1).mono fun _ h => h1.of_received h) hs t

theorem exec_storeOk {c : Instr} (h : passesBy c = false) {s : State} (hs : StoreOk s) :
    Answers StoreOk (exec c s) := by
  cases c with
  | route t => exact storeOk_takeOwned hs routeOwner_received t
  | select t => exact storeOk_takeOwned hs selectOwner_received t
  | pattern t => exact storeOk_takeOwned hs patternOwner_received t
  | patternEnd t =>
    exact storeOk_takeOwned (owner := patternEndOwner) hs (fun _ _ s => received_forOutputs received_endPattern _ s) t
  | standbyEnter t => exact takeOwned_keeps storeOk_reads (fun l p _ h _ => standbyEnterOwner_storeOk l p h) hs t
  | standbyExit t => exact takeOwned_keeps storeOk_reads (fun l p _ h _ => standbyExitOwner_storeOk l p h) hs t
  | standbyDelay t => exact storeOk_takeOwned hs standbyDelayOwner_received t
  | softReset t => exact storeOk_softReset t hs
  | powerOnReset t => exact storeOk_powerOnReset _
  | resetPin t => exact storeOk_pinReset _
  | initialisationEnd t => exact storeOk_initialisationEnd t hs
  | syncWord t cells => exact execSyncWord_keeps storeOk_reads StoreOk.periodStart t cells hs
  | generatorStart => exact execGeneratorStart_keeps storeOk_reads StoreOk.periodStart hs
  | trackingWindowClose => exact execTrackingWindowClose_keeps storeOk_reads StoreOk.periodStart hs
  | douserTimerExpiry o => exact storeOk_douserTimerExpiry o hs
  | openTimerExpiry o => exact storeOk_openTimerExpiry o hs
  | signalPresent t l => exact storeOk_signalPresent t l hs
  | signalAbsent t l => exact storeOk_signalAbsent t l hs
  | signalLost l => exact storeOk_signalLost l hs
  | frameDelimiter t l => exact storeOk_frameDelimiter t l hs
  | frameHeader t l bytes => exact storeOk_frameHeader t l bytes hs
  | pixelLine t l bytes => exact storeOk_pixelLine t l bytes hs
  | managementPacket t l bytes => exact storeOk_managementPacket t l bytes hs
  | linkAcquisitionTimeout l => exact storeOk_linkAcquisitionTimeout l hs
  | lossLimitExpiry l => exact storeOk_lossLimitExpiry l hs
  | quietTimerExpiry l => exact storeOk_quietTimerExpiry l hs
  | idleTimerExpiry => exact storeOk_idleTimerExpiry hs
  | wakingTimerExpiry => exact storeOk_wakingTimerExpiry hs
  | patternExpiry o => exact storeOk_patternExpiry o hs
  | groupTimerExpiry => exact storeOk_groupTimerExpiry hs
  | overrideTimerExpiry => exact storeOk_overrideTimerExpiry hs
  | tableOpen _ | tableData _ | tableClose _ | tableDiscard _ | swap _ | gain _ | cueAdd _ | cueCancel _ | cueFlush _
  | report _ | configLock _ | configUnlock _ | setOutput _ | flagsArm _ | flagsClear _ | status _ | unknownCommand _
  | verificationEnd _ _ _ | resetRelease _ | syncAcquisitionTimeout | serviceTakenFall _ | serviceTakenRise _ => cases h

/-- Settles O59: every row keeps the invariant, link by link: a row writes slots that a port between two bodies has left,
a port that goes on reading its body, or both together for a line; a period start frees slots and moves D. -/
theorem stepKeepsTheStore : Obligations.StepKeepsTheStore := by
  unfold Obligations.StepKeepsTheStore
  intro s s' hs h
  exact step_keeps storeOk_reads hs (fun c _ hc s1 h1 => exec_storeOk hc h1) h

end Sys2Proof.Machine
end

section
/-!
PROOFS. What the events of a link leave of the outputs: the controllers, the viewers, the patterns; and the slots of a
part in standby.
-/
namespace Sys2Proof.Machine

open Sys2Proof

/-! ### Link events as the outputs see them -/

/-- The port receives nothing. -/
def Port.unused (p : Port) : Prop := p.state = .off ∧ p.frame = .none

/-- No link is in use, and no command waits, while the part is INITIALIZING. -/
def HeldLinks (s : State) : Prop := s.part.state = .initializing → LinksOff s

/-- The controllers, the viewers, the patterns and the override stay; the part wakes at most; a FREE slot of a part that
is not READY stays so, and so do the links while the part is INITIALIZING. -/
structure Moves (s s' : State) : Prop where
  controllers : s'.controllers = s.controllers
  patterns : s'.part.patterns = s.part.patterns
  delay : s'.part.standbyDelay = s.part.standbyDelay
  decoder : s'.part.decoder = s.part.decoder
  service : s'.part.service = s.part.service
  state : s'.part.state = s.part.state ∨ s.part.state.inStandby = true ∧ s'.part.state.inStandby = true
  viewed : ∀ (i : SlotId) (o : Out), (s'.slot i).viewedBy o = (s.slot i).viewedBy o
  free : HeldLinks s → s.part.state ≠ .ready → ∀ i : SlotId, (s.slot i).isFree = true → (s'.slot i).isFree = true
  held : HeldLinks s → HeldLinks s'

theorem Moves.of_outward {s s' : State} (h : s'.outward = s.outward)
    (commands : s.part.state = .initializing → s'.engine.commands = s.engine.commands) : Moves s s' := by
  simp only [State.outward, Prod.mk.injEq] at h
  obtain ⟨-, store, ports, controllers, part⟩ := h
  refine ⟨controllers, by rw [part], by rw [part], by rw [part], by rw [part], .inl (by rw [part]), fun i o => ?_,
    fun _ _ i hi => ?_, fun held hi => ?_⟩
  · rw [slot_of_store store]
  · rwa [slot_of_store store]
  · rw [part] at hi
    intro l
    rw [commands hi, ports]
    exact held hi l

theorem Moves.refl (s : State) : Moves s s := .of_outward rfl fun _ => rfl

theorem Moves.not_ready {s s' : State} (h : Moves s s') (hs : s.part.state ≠ .ready) : s'.part.state ≠ .ready := by
  obtain state | ⟨-, standby⟩ := h.state
  · rwa [state]
  · intro ready
    rw [ready] at standby
    cases standby

theorem Moves.trans {s t u : State} (h : Moves s t) (h' : Moves t u) : Moves s u where
  controllers := h'.controllers.trans h.controllers
  patterns := h'.patterns.trans h.patterns
  delay := h'.delay.trans h.delay
  decoder := h'.decoder.trans h.decoder
  service := h'.service.trans h.service
  state := by
    obtain e | ⟨a, b⟩ := h.state
    · obtain e' | ⟨c, d⟩ := h'.state
      · exact .inl (e'.trans e)
      · exact .inr ⟨e ▸ c, d⟩
    · obtain e' | ⟨c, d⟩ := h'.state
      · exact .inr ⟨a, e'.symm ▸ b⟩
      · exact .inr ⟨a, d⟩
  viewed i o := (h'.viewed i o).trans (h.viewed i o)
  free held hs i hi := h'.free (h.held held) (h.not_ready hs) i (h.free held hs i hi)
  held held := h'.held (h.held held)

/-- What writes the store, a port and the commands alone moves as its slots and its links do. -/
theorem Moves.of_part {s s' : State} (controllers : s'.controllers = s.controllers) (part : s'.part = s.part)
    (viewed : ∀ (i : SlotId) (o : Out), (s'.slot i).viewedBy o = (s.slot i).viewedBy o)
    (free : HeldLinks s → s.part.state ≠ .ready → ∀ i : SlotId, (s.slot i).isFree = true → (s'.slot i).isFree = true)
    (held : HeldLinks s → HeldLinks s') : Moves s s' :=
  ⟨controllers, by rw [part], by rw [part], by rw [part], by rw [part], .inl (by rw [part]), viewed, free, held⟩

theorem moves_advance (s : State) (t : Nat) : Moves s (s.advance t) := .of_outward rfl fun _ => rfl

theorem moves_raiseIf (s : State) (b : Bool) (e : Event) : Moves s (s.raiseIf b e) := by
  rw [raiseIf_eq]
  exact .of_outward rfl fun _ => rfl

theorem moves_raise (s : State) (e : Event) : Moves s (s.raise e) := moves_raiseIf s true e

/-- A port may be written, but no port that receives nothing while the part is INITIALIZING. -/
theorem moves_setPort {s : State} {l : Link} {p : Port}
    (h : s.part.state = .initializing → (s.ports.get l).unused → p.unused) : Moves s (s.setPort l p) := by
  refine .of_part rfl rfl (fun _ _ => rfl) (fun _ _ _ => id) fun held hi m => ?_
  obtain ⟨commands, unused⟩ := held hi m
  refine ⟨commands, ?_⟩
  by_cases hm : m = l
  · subst hm
    rw [State.get_setPort]
    exact h hi unused
  · rwa [State.setPort_ports, PerLink.get_set_other _ _ hm]

/-- A slot may be written if its viewers stay, and a FREE one only in a part that is READY or whose links are in use. -/
theorem moves_setSlot {s : State} {i : SlotId} {x : Slot} (viewed : ∀ o : Out, x.viewedBy o = (s.slot i).viewedBy o)
    (free : HeldLinks s → s.part.state ≠ .ready → (s.slot i).isFree = true → x.isFree = true) :
    Moves s (s.setSlot i x) := by
  refine .of_part rfl rfl (fun j o => ?_) (fun held hs j hj => ?_) id
  · by_cases hj : j = i
    · rw [hj, State.slot_setSlot_same, viewed]
    · rw [State.slot_setSlot_other s x hj]
  · by_cases hji : j = i
    · rw [hji] at hj ⊢
      rw [State.slot_setSlot_same]
      exact free held hs hj
    · rwa [State.slot_setSlot_other s x hji]

/-! ### The Frame Store -/

theorem slot_setLinkStore {s : State} {l : Link} {st : LinkStore} (h : st.slots = (s.store.get l).slots) (i : SlotId) :
    (s.setLinkStore l st).slot i = s.slot i := by
  rw [State.slot, State.slot, State.setLinkStore]
  by_cases hl : i.link = l
  · rw [hl, PerLink.get_set_same, h]
  · rw [PerLink.get_set_other _ _ hl]

theorem moves_setLinkStore {s : State} {l : Link} {st : LinkStore} (h : st.slots = (s.store.get l).slots) :
    Moves s (s.setLinkStore l st) :=
  .of_part rfl rfl (fun i o => by rw [slot_setLinkStore h]) (fun _ _ i hi => by rwa [slot_setLinkStore h]) id

theorem moves_dropFrame (l : Link) (cause : DropCause) (s : State) : Moves s (dropFrame l cause s) := by
  unfold dropFrame
  refine Moves.trans ?_ (moves_raise _ _)
  exact moves_setLinkStore rfl

/-- The slot being filled has no viewers and is not FREE, whatever takes its place. -/
theorem moves_setSlot_filling {s : State} {i : SlotId} {f : Frame} (hf : s.slot i = .filling f) {x : Slot}
    (hx : ∀ o : Out, x.viewedBy o = false) : Moves s (s.setSlot i x) :=
  moves_setSlot (fun o => by rw [hx, hf]; rfl) (fun _ _ free => by rw [hf] at free; cases free)

theorem moves_dropFilling (l : Link) (cause : DropCause) (s : State) : Moves s (dropFilling l cause s) := by
  unfold dropFilling
  split
  · exact .refl s
  · next i hi =>
    obtain ⟨f, hf⟩ := fillingIndex_some hi
    exact (moves_setSlot_filling hf fun _ => rfl).trans (moves_dropFrame l cause _)

/-- A part that is not READY takes no frame: in standby it drops it, and INITIALIZING it has no port that reads one. -/
theorem moves_offerFrame (l : Link) (h : Header) {s : State} (used : ¬(s.ports.get l).unused) :
    Moves s (offerFrame l h s) := by
  obtain ⟨cause, hx⟩ | hx | ⟨i, admitted, room, hx⟩ := offerFrame_cases l h s
  · rw [hx]; exact moves_dropFrame l cause s
  · rw [hx]; exact .refl s
  · have free : (s.slot ⟨l, i⟩).isFree = true := Quad.find_some room
    rw [hx]
    refine moves_setSlot (fun o => ?_) fun held notReady _ => ?_
    · cases hy : s.slot ⟨l, i⟩ with
      | free => rfl
      | filling _ | complete _ _ => rw [hy] at free; cases free
    · unfold admissionFailure at admitted
      cases hd : s.dome with
      | none => rw [hd] at admitted; cases admitted
      | some d =>
        simp only [hd] at admitted
        split_ifs at admitted with standby
        cases hp : s.part.state with
        | ready => exact absurd hp notReady
        | initializing => exact absurd (held hp l).2 used
        | standby _ | waking _ => rw [hp] at standby; exact absurd rfl standby

theorem moves_completeFrame {l : Link} {i : SlotIndex} {f : Frame} {s : State} (hf : s.slot ⟨l, i⟩ = .filling f)
    (g : Frame) : Moves s (completeFrame l i g s) := by
  have freed : Moves s (dropFrame l .late (s.setSlot ⟨l, i⟩ .free)) :=
    (moves_setSlot_filling hf fun _ => rfl).trans (moves_dropFrame l .late _)
  unfold completeFrame
  split
  · exact freed
  · next d _ =>
    split
    · have done : Moves s (s.setSlot ⟨l, i⟩ (.complete g ⟨false, false⟩)) :=
        moves_setSlot_filling hf fun o => by cases o <;> rfl
      exact done.trans (moves_setLinkStore rfl)
    · exact freed

theorem moves_storeLine (l : Link) (line : List Pixel) (s : State) : Moves s (storeLine l line s) := by
  unfold storeLine
  split
  · exact .refl s
  · split
    · next f hf =>
      dsimp only
      split
      · exact moves_setSlot_filling hf fun _ => rfl
      · exact moves_completeFrame hf _
    all_goals exact .refl s

/-! ### The ports -/

theorem moves_wakeOnLock (s : State) : Moves s (wakeOnLock s) := by
  unfold wakeOnLock
  split
  · next h =>
    exact
      { controllers := rfl
        patterns := rfl
        delay := rfl
        decoder := rfl
        service := rfl
        state := .inr ⟨by rw [h]; rfl, rfl⟩
        viewed := fun _ _ => rfl
        free := fun _ _ _ => id
        held := fun _ hi => by cases hi }
  all_goals exact .refl s

theorem moves_cutPacket (l : Link) (s : State) : Moves s (cutPacket l s) := moves_raiseIf s _ _

theorem moves_endFrame (l : Link) (s : State) : Moves s (endFrame l s) :=
  (moves_cutPacket l s).trans (moves_dropFilling l _ _)

theorem moves_loseLoads (l : Link) (s : State) : Moves s (loseLoads l s) := by
  unfold loseLoads
  refine Moves.trans ?_ (moves_raiseIf _ _ _)
  exact .of_outward rfl fun _ => rfl

theorem moves_enterOff (l : Link) (s : State) : Moves s (enterOff l s) := moves_setPort fun _ _ => ⟨rfl, rfl⟩

/-- A port in use may be written. -/
theorem moves_setPort_used {s : State} {l : Link} (used : ¬(s.ports.get l).unused) (p : Port) :
    Moves s (s.setPort l p) :=
  moves_setPort fun _ unused => absurd unused used

theorem moves_enterQuiet {l : Link} {s : State} (used : ¬(s.ports.get l).unused) : Moves s (enterQuiet l s) := by
  refine ((moves_raise s _).trans (moves_loseLoads l _)).trans (moves_setPort_used ?_ _)
  rwa [loseLoads_ports, raise_ports]

theorem moves_enterHoldover {l : Link} {s : State} (used : ¬(s.ports.get l).unused) : Moves s (enterHoldover l s) := by
  rw [enterHoldover_eq]
  exact (moves_endFrame l s).trans (moves_setPort_used (by rwa [endFrame_ports]) _)

theorem used_of_state {p : Port} (h : p.state ≠ .off) : ¬p.unused := fun unused => h unused.1

theorem used_of_frame {p : Port} (h : p.frame ≠ .none) : ¬p.unused := fun unused => h unused.2

theorem moves_badHeader (l : Link) (s : State) : Moves s (badHeader l s) := by
  unfold badHeader
  split
  · next h => exact moves_setPort_used (used_of_state (by rw [h]; nofun)) _
  · next h =>
    have used : ¬(s.ports.get l).unused := used_of_state (by rw [h]; nofun)
    split
    · exact moves_setPort_used used _
    · exact moves_enterHoldover used
  · next h => exact moves_setPort_used (used_of_state (by rw [h]; nofun)) _
  all_goals exact .refl s

theorem used_badHeader {l : Link} {s : State} (h : ¬(s.ports.get l).unused) : ¬((badHeader l s).ports.get l).unused := by
  unfold badHeader
  split
  · rw [State.setLinkState, State.get_setPort]; exact used_of_state nofun
  · split
    · rw [State.setLinkState, State.get_setPort]; exact used_of_state nofun
    · rw [enterHoldover_eq, State.get_setPort]; exact used_of_state nofun
  · rw [State.setLinkState, State.get_setPort]; exact used_of_state nofun
  all_goals exact h

theorem used_beginBody (l : Link) (h : Header) (parsed : Bool) (s : State) :
    ¬((beginBody l h parsed s).ports.get l).unused := by
  rw [beginBody, State.get_setPort]
  exact used_of_frame nofun

theorem moves_lockAndOffer {l : Link} {s : State} (used : ¬(s.ports.get l).unused) (fromAligned : Bool) (h : Header) :
    Moves s (lockAndOffer l fromAligned h s) := by
  have begun : Moves s (beginBody l h true s) := moves_setPort_used used _
  have locked : Moves s (enterLocked l fromAligned (beginBody l h true s)) :=
    (begun.trans (moves_setPort_used (used_beginBody l h true s) _)).trans (moves_wakeOnLock _)
  refine locked.trans (moves_offerFrame l h ?_)
  rw [enterLocked, wakeOnLock_ports, State.get_setPort]
  exact used_of_state nofun

theorem moves_goodHeader {l : Link} {s : State} (used : ¬(s.ports.get l).unused) (h : Header) :
    Moves s (goodHeader l h s) := by
  have read (parsed : Bool) (x : LinkState) : Moves s ((beginBody l h parsed s).setLinkState l x) :=
    (moves_setPort_used used _).trans (moves_setPort_used (used_beginBody l h parsed s) _)
  unfold goodHeader
  dsimp only
  split
  · exact read _ _
  · split_ifs
    · exact read _ _
    · exact moves_lockAndOffer used _ h
    · exact read _ _
  · split_ifs
    · refine (read _ _).trans (moves_offerFrame l h ?_)
      rw [State.setLinkState, State.get_setPort]
      exact used_of_state nofun
    · exact (read _ _).trans (moves_dropFrame l _ _)
  · split_ifs
    · exact read _ _
    · exact moves_lockAndOffer used _ h
    · exact read _ _
  all_goals exact .refl s

theorem moves_loseSignal (e : Nat) (l : Link) (s : State) : Moves s (loseSignal e l s) := by
  unfold loseSignal
  split
  · exact moves_enterOff l s
  · exact moves_enterOff l s
  · next h =>
    split
    · exact (moves_endFrame l s).trans (moves_enterOff l _)
    · exact moves_enterHoldover (used_of_state (by rw [h]; nofun))
  · next h => exact moves_setPort_used (used_of_state (by rw [h]; nofun)) _
  all_goals exact .refl s

theorem moves_handOver (l : Link) (p : Packet) {s : State} (used : ¬(s.ports.get l).unused) : Moves s (handOver l p s) := by
  unfold handOver
  dsimp only
  split
  · exact .of_part rfl rfl (fun _ _ => rfl) (fun _ _ _ => id) fun held hi => absurd (held hi l).2 used
  · exact moves_raise s _

theorem handOver_ports (l : Link) (p : Packet) (s : State) : (handOver l p s).ports = s.ports := by
  unfold handOver
  dsimp only
  split
  · rfl
  · exact raise_ports _ _

theorem moves_areaBytes (l : Link) (due : Nat) (b : FrameBody) (buf : List Byte) {s : State}
    (used : ¬(s.ports.get l).unused) : Moves s (areaBytes l due b buf s) := by
  induction due generalizing b buf s with
  | zero => exact .refl s
  | succ due ih =>
    have taken (c : FrameBody) : ¬((s.setFrame l (.body c)).ports.get l).unused := by
      rw [State.setFrame, State.get_setPort]
      exact used_of_frame nofun
    unfold areaBytes
    dsimp only
    split_ifs
    · exact moves_setPort_used used _
    · exact (moves_setPort_used used _).trans (moves_raise _ _)
    · exact moves_setPort_used used _
    · refine ((moves_setPort_used used _).trans (moves_handOver l _ (taken _))).trans (ih _ _ ?_)
      rw [handOver_ports]
      exact taken _
    · refine ((moves_setPort_used used _).trans (moves_raise _ _)).trans (ih _ _ ?_)
      rw [raise_ports]
      exact taken _

/-! ### The idle timer (R182) -/

/-- The idle timer runs exactly under its condition. -/
def IdleOk (s : State) : Prop := s.part.idleTimer.isSome = idleCondition s

theorem idleOk_keepIdleTimer (s : State) : IdleOk (keepIdleTimer s) := by
  change (idleTimerAfter s).isSome = idleCondition s
  unfold idleTimerAfter
  cases idleCondition s with
  | false => rfl
  | true => cases s.part.idleTimer <;> rfl

/-- The idle timer and its condition read the part state and whether the links are idle. -/
theorem IdleOk.congr {s s' : State} (h : IdleOk s) (part : s'.part = s.part)
    (links : ∀ l : Link, (s'.ports.get l).state.isIdle = (s.ports.get l).state.isIdle) : IdleOk s' := by
  have a : s'.ports.a.state.isIdle = s.ports.a.state.isIdle := links .a
  have b : s'.ports.b.state.isIdle = s.ports.b.state.isIdle := links .b
  unfold IdleOk idleCondition at h ⊢
  rw [part, a, b]
  exact h

theorem IdleOk.of_state {s s' : State} (h : IdleOk s) (part : s'.part = s.part) {l : Link} {p : Port}
    (ports : s'.ports = s.ports.set l p) (state : p.state = (s.ports.get l).state) : IdleOk s' := by
  refine h.congr part fun m => ?_
  rw [ports]
  by_cases hm : m = l
  · rw [hm, PerLink.get_set_same, state]
  · rw [PerLink.get_set_other _ _ hm]

/-- What a link event does: as `Moves`, with the idle timer under its condition. -/
structure LinkMoves (s s' : State) : Prop where
  moves : Moves s s'
  idle : IdleOk s → IdleOk s'

theorem LinkMoves.refl (s : State) : LinkMoves s s := ⟨.refl s, id⟩

theorem linkMoves_advance (s : State) (t : Nat) : LinkMoves s (s.advance t) :=
  ⟨moves_advance s t, fun h => h.congr rfl fun _ => rfl⟩

theorem moves_keepIdleTimer (s : State) : Moves s (keepIdleTimer s) :=
  ⟨rfl, rfl, rfl, rfl, rfl, .inl rfl, fun _ _ => rfl, fun _ _ _ => id, id⟩

theorem moves_latchEdges (s s' : State) : Moves s' (latchEdges s s') := .of_outward rfl fun _ => rfl

theorem Moves.linkEvent {s u : State} (h : Moves s u) (s0 : State) : Answers (LinkMoves s) (linkEvent s0 u) :=
  ⟨(h.trans (moves_keepIdleTimer u)).trans (moves_latchEdges s0 _),
    fun _ => (idleOk_keepIdleTimer u).congr rfl fun _ => rfl⟩

/-! ### The link rows -/

theorem execSignalPresent_moves (t : Nat) (l : Link) (s : State) :
    Answers (LinkMoves s) (execSignalPresent t l s) := by
  have back : Moves s ((s.advance t).setPort l { s.ports.get l with
      signal := true, signalLoss := none, frame := (s.ports.get l).frame.discard }) := by
    refine (moves_advance s t).trans (moves_setPort fun _ unused => ⟨unused.1, ?_⟩)
    rw [show (s.ports.get l).frame = .none from unused.2]
    rfl
  have kept : LinkMoves s ((s.advance t).setPort l { s.ports.get l with
      signal := true, signalLoss := none, frame := (s.ports.get l).frame.discard }) :=
    ⟨back, fun h => h.of_state rfl rfl rfl⟩
  unfold execSignalPresent
  dsimp only
  split
  · exact linkMoves_advance s t
  · split
    · split
      · exact kept
      · next running =>
        have ready : s.part.state ≠ .initializing := by simpa using running
        exact Moves.linkEvent (back.trans (moves_setPort fun hi _ => absurd hi ready)) _
    all_goals exact kept

theorem execSignalAbsent_moves (t : Nat) (l : Link) (s : State) : Answers (LinkMoves s) (execSignalAbsent t l s) := by
  unfold execSignalAbsent
  dsimp only
  have cut : Moves s (cutPacket l (s.advance t)) := (moves_advance s t).trans (moves_cutPacket l _)
  have same : (cutPacket l (s.advance t)).part = s.part := raiseIf_part _ _ _
  have ports : (cutPacket l (s.advance t)).ports = s.ports := raiseIf_ports _ _ _
  split
  · exact linkMoves_advance s t
  · refine ⟨cut.trans (moves_setPort fun _ unused => ⟨unused.1, ?_⟩), fun h => ?_⟩
    · dsimp only
      rw [unused.2]
      rfl
    · refine h.of_state (l := l) same (congrArg (fun x => PerLink.set x l _) ports) ?_
      dsimp only
      rw [ports]

theorem execSignalLost_moves (l : Link) (s : State) : Answers (LinkMoves s) (execSignalLost l s) := by
  unfold execSignalLost
  split
  · exact .refl s
  · next e _ =>
    have taken : Moves s ((s.advance e).setPort l { (s.advance e).ports.get l with signalLoss := none }) :=
      (moves_advance s e).trans (moves_setPort fun _ unused => unused)
    exact Moves.linkEvent (taken.trans (moves_loseSignal e l _)) _

theorem used_of_judges {p : Port} (h : p.state.judges = true) : ¬p.unused := used_of_state ((judges_iff _).mp h).1

theorem execFrameDelimiter_moves (t : Nat) (l : Link) (s : State) :
    Answers (LinkMoves s) (execFrameDelimiter t l s) := by
  unfold execFrameDelimiter
  dsimp only
  split
  · next h =>
    rw [Bool.and_eq_true] at h
    have used : ¬((endFrame l (s.advance t)).ports.get l).unused := by
      rw [endFrame_ports]
      exact used_of_judges h.2
    have ended : Moves s (endFrame l (s.advance t)) := (moves_advance s t).trans (moves_endFrame l _)
    have judged : Moves s ((badHeader l (endFrame l (s.advance t))).setFrame l .awaitingHeader) :=
      (ended.trans (moves_badHeader l _)).trans (moves_setPort_used (used_badHeader used) _)
    refine Moves.linkEvent ?_ _
    split
    · exact judged
    · exact judged
    all_goals exact ended.trans (moves_setPort_used used _)
  · exact linkMoves_advance s t

theorem execFrameHeader_moves (t : Nat) (l : Link) (bytes : BitVec 96) (s : State) :
    Answers (LinkMoves s) (execFrameHeader t l bytes s) := by
  unfold execFrameHeader
  dsimp only
  split
  · next h =>
    obtain ⟨judges, -, -⟩ := (expectsHeader_iff _ _).mp h
    have used : ¬((s.advance t).ports.get l).unused := used_of_judges judges
    split
    · exact Moves.linkEvent ((moves_advance s t).trans (moves_goodHeader used _)) _
    · exact Moves.linkEvent (((moves_advance s t).trans (moves_setPort_used used _)).trans (moves_badHeader l _)) _
  · exact linkMoves_advance s t

theorem storeLine_same (l : Link) (line : List Pixel) (s : State) :
    (storeLine l line s).part = s.part ∧ (storeLine l line s).ports = s.ports := by
  have drop (u : State) : (dropFrame l .late u).part = u.part ∧ (dropFrame l .late u).ports = u.ports :=
    ⟨raise_part _ _, raise_ports _ _⟩
  unfold storeLine completeFrame
  dsimp only
  split
  · exact ⟨rfl, rfl⟩
  · split
    · split
      · exact ⟨rfl, rfl⟩
      · split
        · exact drop _
        · split
          · exact ⟨rfl, rfl⟩
          · exact drop _
    all_goals exact ⟨rfl, rfl⟩

theorem execPixelLine_moves (t : Nat) (l : Link) (bytes : List Byte) (s : State) :
    Answers (LinkMoves s) (execPixelLine t l bytes s) := by
  unfold execPixelLine
  dsimp only
  split
  · next b hb =>
    have used : ¬((s.advance t).ports.get l).unused := used_of_frame (by rw [hb]; nofun)
    split
    · obtain ⟨part, ports⟩ := storeLine_same l (pixelsOf b.header.encoding bytes)
        ((s.advance t).setFrame l (.body { b with lines := b.lines + 1 }))
      refine ⟨((moves_advance s t).trans (moves_setPort_used used _)).trans (moves_storeLine l _ _), fun h => ?_⟩
      exact h.of_state (l := l) (p := (s.ports.get l).reading (.body { b with lines := b.lines + 1 })) part ports rfl
    · exact linkMoves_advance s t
  all_goals exact linkMoves_advance s t

theorem handOver_part (l : Link) (p : Packet) (s : State) : (handOver l p s).part = s.part := (handOver_same l p s).1

/-- Bytes of the area leave the part state, and the link states. -/
theorem idleOk_areaBytes (l : Link) (due : Nat) (b : FrameBody) (buf : List Byte) {s : State} (h : IdleOk s) :
    IdleOk (areaBytes l due b buf s) := by
  have read {u : State} (hu : IdleOk u) (x : FrameProgress) : IdleOk (u.setFrame l x) := hu.of_state rfl rfl rfl
  have raised {u : State} (hu : IdleOk u) (e : Event) : IdleOk (u.raise e) :=
    hu.congr (raise_part u e) fun _ => by rw [raise_ports]
  induction due generalizing b buf s with
  | zero => exact h
  | succ due ih =>
    unfold areaBytes
    dsimp only
    split_ifs
    · exact read h _
    · exact raised (read h _) _
    · exact read h _
    · refine ih _ _ ((read h (.body { b with packets := b.packets + 1, buffer := [] })).congr ?_ fun _ => ?_)
      · exact handOver_part _ _ _
      · rw [handOver_ports]
    · exact ih _ _ (raised (read h _) _)

theorem execManagementPacket_moves (t : Nat) (l : Link) (bytes : List Byte) (s : State) :
    Answers (LinkMoves s) (execManagementPacket t l bytes s) := by
  unfold execManagementPacket
  dsimp only
  split
  · next b hb =>
    have used : ¬((s.advance t).ports.get l).unused := used_of_frame (by rw [hb]; nofun)
    split
    · obtain ⟨moved, idle⟩ := linkMoves_advance s t
      exact ⟨moved.trans (moves_areaBytes l _ _ _ used), fun h => idleOk_areaBytes l _ _ _ (idle h)⟩
    · exact linkMoves_advance s t
  all_goals exact linkMoves_advance s t

theorem enterQuiet_moves {s : State} {l : Link} (e : Nat) (h : (s.ports.get l).state ≠ .off) :
    Answers (LinkMoves s) (linkEvent (s.advance e) (enterQuiet l (s.advance e))) :=
  Moves.linkEvent ((moves_advance s e).trans (moves_enterQuiet (used_of_state h))) _

theorem execLinkAcquisitionTimeout_moves (l : Link) (s : State) :
    Answers (LinkMoves s) (execLinkAcquisitionTimeout l s) := by
  unfold execLinkAcquisitionTimeout
  split
  · next h => exact enterQuiet_moves _ (by rw [h]; nofun)
  · next h => exact enterQuiet_moves _ (by rw [h]; nofun)
  all_goals exact .refl s

theorem execLossLimitExpiry_moves (l : Link) (s : State) : Answers (LinkMoves s) (execLossLimitExpiry l s) := by
  unfold execLossLimitExpiry
  split
  · next h => exact enterQuiet_moves _ (by rw [h]; nofun)
  all_goals exact .refl s

theorem execQuietTimerExpiry_moves (l : Link) (s : State) : Answers (LinkMoves s) (execQuietTimerExpiry l s) := by
  unfold execQuietTimerExpiry
  split
  · next e h =>
    have used : ¬((s.advance e).ports.get l).unused :=
      used_of_state (by rw [show ((s.advance e).ports.get l).state = .quiet e from h]; nofun)
    refine Moves.linkEvent ((moves_advance s e).trans ?_) _
    split
    · exact moves_setPort_used used _
    · exact moves_enterOff l _
  all_goals exact .refl s

/-- The rows of the Stream Link Ports. -/
def isLinkRow : Instr → Bool
  | .signalPresent _ _ | .signalAbsent _ _ | .signalLost _ | .frameDelimiter _ _ | .frameHeader _ _ _ | .pixelLine _ _ _
  | .managementPacket _ _ _ | .linkAcquisitionTimeout _ | .lossLimitExpiry _ | .quietTimerExpiry _ => true
  | _ => false

theorem exec_linkMoves {c : Instr} (h : isLinkRow c = true) (s : State) : Answers (LinkMoves s) (exec c s) := by
  unfold isLinkRow at h
  split at h
  · exact execSignalPresent_moves _ _ s
  · exact execSignalAbsent_moves _ _ s
  · exact execSignalLost_moves _ s
  · exact execFrameDelimiter_moves _ _ s
  · exact execFrameHeader_moves _ _ _ s
  · exact execPixelLine_moves _ _ _ s
  · exact execManagementPacket_moves _ _ _ s
  · exact execLinkAcquisitionTimeout_moves _ s
  · exact execLossLimitExpiry_moves _ s
  · exact execQuietTimerExpiry_moves _ s
  · cases h

/-- A row of the ports keeps what every link event keeps. -/
theorem exec_linkRow {P : State → Prop} {c : Instr} (hc : isLinkRow c = true) {s : State}
    (h : ∀ u : State, LinkMoves s u → P u) : Answers P (exec c s) :=
  answers_mono (exec_linkMoves hc s) h

end Sys2Proof.Machine
end

section
/-!
PROOFS. The invariant of the outputs and the part state under the events of a link, standby, waking, patterns, the
override, the timers of an output, and resets.
-/
namespace Sys2Proof.Machine

open Sys2Proof

/-! ### The invariant, clause by clause -/

/-- What a controller holds in each output state. -/
def Controller.fits (c : Controller) : OutputState → Prop
  | .dark => c.showsNothing ∧ c.openTimer = .stopped ∧ (c.douser = true → c.douserTimer = none)
  | .opening => c.showsNothing ∧ c.openTimer ≠ .stopped ∧ c.douser = false ∧ c.douserTimer = none
  | .live => c.showsFrame ∧ c.ws = 1 ∧ c.starved = 0
  | .holding => c.showsFrame ∧ c.ws = 1 ∧ 1 ≤ c.starved ∧ c.starved < 250
  | .fadingIn => c.showsFrame ∧ 0 < c.ws ∧ c.ws < 1 ∧ c.starved < 250
  | .fadingOut => c.showsFrame ∧ 0 < c.ws ∧ c.ws < 1 ∧ c.starved ≤ 250

/-- The routes of a controller are in order. -/
def Controller.routesOk (c : Controller) : Prop :=
  c.route.ok ∧ ∀ r ∈ c.pendingRoute, r.ok ∧ changesShown r c = false

theorem controller_ok_iff (c : Controller) : c.ok ↔ c.routesOk ∧ c.fits c.state := by
  unfold Controller.ok Controller.routesOk
  rw [and_assoc]
  refine and_congr_right fun _ => and_congr_right fun _ => ?_
  cases c.state <;> exact Iff.rfl

/-- The invariant without the idle timer. -/
structure Ordered (s : State) : Prop where
  delay : s.part.standbyDelay ≤ 3600
  dark : s.part.state ≠ .ready → AllDark s
  held : HeldLinks s
  service : s.part.state = .initializing → s.part.decoder = ServiceDecoder.reset ∧ s.part.service = .none
  outputs : ∀ o : Out, OutputOk s o

theorem outputsOk_iff (s : State) : OutputsOk s ↔ Ordered s ∧ IdleOk s := by
  unfold OutputsOk PartOk
  constructor
  · rintro ⟨⟨delay, idle, state⟩, outputs⟩
    cases hp : s.part.state with
    | initializing =>
      rw [hp] at state
      exact ⟨⟨delay, fun _ => state.1, fun _ => state.2.1, fun _ => state.2.2, outputs⟩, idle⟩
    | ready => exact ⟨⟨delay, fun h => absurd hp h, fun h => (by rw [hp] at h; cases h),
        fun h => (by rw [hp] at h; cases h), outputs⟩, idle⟩
    | standby _ | waking _ =>
      rw [hp] at state
      exact ⟨⟨delay, fun _ => state, fun h => (by rw [hp] at h; cases h), fun h => (by rw [hp] at h; cases h),
        outputs⟩, idle⟩
  · rintro ⟨⟨delay, dark, held, service, outputs⟩, idle⟩
    refine ⟨⟨delay, idle, ?_⟩, outputs⟩
    cases hp : s.part.state with
    | initializing => exact ⟨dark (by rw [hp]; nofun), held hp, service hp⟩
    | ready => trivial
    | standby _ | waking _ => exact dark (by rw [hp]; nofun)

theorem OutputOk.controllerOk {s : State} {o : Out} (h : OutputOk s o) : (s.controllers.get o).ok := by
  obtain ⟨ok, -, -⟩ := h
  exact ok

/-- No douser timer runs under a pattern. -/
theorem OutputOk.untimed {s : State} {o : Out} (h : OutputOk s o) :
    (s.part.patterns.get o).isSome = true → (s.controllers.get o).douserTimer = none := by
  obtain ⟨-, timer, -⟩ := h
  exact timer

theorem OutputOk.congr {s s' : State} {o : Out} (h : OutputOk s o)
    (controller : s'.controllers.get o = s.controllers.get o) (pattern : s'.part.patterns.get o = s.part.patterns.get o)
    (viewed : ∀ i : SlotId, (s'.slot i).viewedBy o = (s.slot i).viewedBy o) : OutputOk s' o := by
  obtain ⟨ok, timer, views⟩ := h
  refine ⟨by rwa [controller], by rwa [controller, pattern], fun i => ?_⟩
  rw [controller, viewed]
  exact views i

theorem Ordered.of_moves {s s' : State} (hs : Ordered s) (h : Moves s s') : Ordered s' where
  delay := by rw [h.delay]; exact hs.delay
  dark notReady := by
    have was : s.part.state ≠ .ready := fun ready => by
      obtain state | ⟨standby, -⟩ := h.state
      · exact notReady (state.trans ready)
      · rw [ready] at standby
        cases standby
    obtain ⟨outputs, slots⟩ := hs.dark was
    refine ⟨fun o => ?_, fun i => h.free hs.held was i (slots i)⟩
    rw [h.controllers, h.patterns]
    exact outputs o
  held := h.held hs.held
  service hi := by
    rw [h.decoder, h.service]
    obtain state | ⟨-, standby⟩ := h.state
    · exact hs.service (state.symm.trans hi)
    · rw [hi] at standby
      cases standby
  outputs o := (hs.outputs o).congr (by rw [h.controllers]) (by rw [h.patterns]) fun i => h.viewed i o

theorem OutputsOk.of_linkMoves {s s' : State} (hs : OutputsOk s) (h : LinkMoves s s') : OutputsOk s' := by
  obtain ⟨ordered, idle⟩ := (outputsOk_iff s).mp hs
  exact (outputsOk_iff s').mpr ⟨ordered.of_moves h.moves, h.idle idle⟩

theorem Ordered.of_untouched {s s' : State} (hs : Ordered s) (h : Untouched s s') : Ordered s' where
  delay := by rw [h.delay]; exact hs.delay
  dark notReady := by
    rw [h.state] at notReady
    obtain ⟨outputs, slots⟩ := hs.dark notReady
    refine ⟨fun o => ?_, fun i => ?_⟩
    · rw [h.controllers, h.patterns]
      exact outputs o
    · rw [slot_of_store h.store]
      exact slots i
  held hi := by
    rw [h.state] at hi
    obtain ⟨commands, -, -⟩ := h.held hi
    intro l
    rw [commands, h.ports]
    exact hs.held hi l
  service hi := by
    rw [h.state] at hi
    obtain ⟨-, decoder, service⟩ := h.held hi
    rw [decoder, service]
    exact hs.service hi
  outputs o := (hs.outputs o).congr (by rw [h.controllers]) (by rw [h.patterns]) fun i => by rw [slot_of_store h.store]

theorem IdleOk.of_untouched {s s' : State} (hs : IdleOk s) (h : Untouched s s') : IdleOk s' := by
  unfold IdleOk idleCondition at hs ⊢
  rw [h.idleTimer, h.state, h.ports, h.delay]
  exact hs

theorem outputsOk_reads : ReadsOutward OutputsOk := fun {s s'} h hs => by
  obtain ⟨ordered, idle⟩ := (outputsOk_iff s).mp hs
  exact (outputsOk_iff s').mpr ⟨ordered.of_untouched h, idle.of_untouched h⟩

theorem OutputsOk.advance {s : State} (hs : OutputsOk s) (t : Nat) : OutputsOk (s.advance t) :=
  outputsOk_reads (untouched_advance s t) hs

theorem OutputsOk.latchEdges {s' : State} (hs : OutputsOk s') (s : State) : OutputsOk (latchEdges s s') :=
  outputsOk_reads (untouched_latchEdges s s') hs

theorem Ordered.keepIdleTimer {s : State} (hs : Ordered s) : OutputsOk (keepIdleTimer s) :=
  (outputsOk_iff _).mpr ⟨hs.of_moves (moves_keepIdleTimer s), idleOk_keepIdleTimer s⟩

theorem OutputsOk.ordered {s : State} (hs : OutputsOk s) : Ordered s := ((outputsOk_iff s).mp hs).1

theorem OutputsOk.idleOk {s : State} (hs : OutputsOk s) : IdleOk s := ((outputsOk_iff s).mp hs).2

/-- The idle timer runs in READY alone. -/
theorem IdleOk.stopped {s : State} (hs : IdleOk s) (h : s.part.state ≠ .ready) : s.part.idleTimer = none := by
  unfold IdleOk idleCondition at hs
  rw [beq_eq_false_iff_ne.mpr h] at hs
  exact Option.isSome_eq_false_iff.mp hs |> Option.isNone_iff_eq_none.mp

theorem idleOk_of_stopped {s : State} (timer : s.part.idleTimer = none) (h : s.part.state ≠ .ready) : IdleOk s := by
  unfold IdleOk idleCondition
  rw [timer, beq_eq_false_iff_ne.mpr h]
  rfl

/-! ### Standby and waking (R148, R180, R183) -/

theorem changesShown_of_dark (r : Route) {c : Controller} (h : c.state = .dark) : changesShown r c = false := by
  rw [changesShown, h]
  rfl

/-- A controller whose output is DARK may have any pending route that is in range. -/
theorem Controller.routesOk.of_dark {c c' : Controller} (h : c.routesOk) (dark : c'.state = .dark)
    (route : c'.route = c.route) (pending : c'.pendingRoute = c.pendingRoute) : c'.routesOk := by
  obtain ⟨ok, range⟩ := h
  unfold Controller.routesOk
  rw [route, pending]
  exact ⟨ok, fun r hr => ⟨(range r hr).1, changesShown_of_dark r dark⟩⟩

theorem Controller.ok.forceDark {c : Controller} (h : c.ok) : c.forceDark.ok := by
  obtain ⟨routes, -⟩ := (controller_ok_iff c).mp h
  exact (controller_ok_iff _).mpr ⟨routes.of_dark rfl rfl rfl, ⟨rfl, rfl, rfl, rfl⟩, rfl, fun _ => rfl⟩

/-- The outputs are dark, every slot is FREE and no pattern is on: each output is as it should be. -/
theorem outputOk_of_dark {s : State} {o : Out} (ok : (s.controllers.get o).ok)
    (held : (s.controllers.get o).held = none) (pattern : s.part.patterns.get o = none)
    (free : ∀ i : SlotId, (s.slot i).isFree = true) : OutputOk s o := by
  refine ⟨ok, fun h => ?_, fun i => ?_⟩
  · rw [pattern] at h
    cases h
  rw [held]
  have := free i
  cases hx : s.slot i with
  | free => exact ⟨fun h => (by cases h), fun h => (by cases h)⟩
  | filling _ | complete _ _ => rw [hx] at this; cases this

theorem OutputsOk.standbyEntry {s : State} (hs : OutputsOk s) (kind : StandbyKind) :
    OutputsOk (standbyEntry kind s) := by
  have free (i : SlotId) : ((s.darkened kind).slot i).isFree = true := by
    obtain ⟨l, j⟩ := i
    cases l <;> cases j <;> rfl
  have controller (o : Out) : (s.darkened kind).controllers.get o = (s.controllers.get o).forceDark :=
    PerOut.get_map _ _ o
  have pattern (o : Out) : (s.darkened kind).part.patterns.get o = none := by cases o <;> rfl
  have dark : OutputsOk (s.darkened kind) := by
    refine (outputsOk_iff _).mpr ⟨⟨hs.ordered.delay, fun _ => ⟨fun o => ?_, free⟩, fun hi => (by cases hi),
      fun hi => (by cases hi), fun o => ?_⟩, idleOk_of_stopped rfl nofun⟩
    · rw [controller, pattern]
      exact ⟨rfl, rfl, rfl⟩
    · obtain ⟨ok, -, -⟩ := hs.ordered.outputs o
      exact outputOk_of_dark (by rw [controller]; exact ok.forceDark) (by rw [controller]; rfl) (pattern o) free
  rw [standbyEntry_eq]
  exact outputsOk_reads (untouched_raiseIf _ _ _) (outputsOk_reads (untouched_raiseIf _ _ _) dark)

/-- A part in standby may pass between STANDBY and WAKING. -/
theorem OutputsOk.inStandby {s : State} (hs : OutputsOk s) (h : s.part.state.inStandby = true) {x : PartState}
    (hx : x.inStandby = true) : OutputsOk (s.setPartState x) := by
  have notReady {y : PartState} (hy : y.inStandby = true) : y ≠ .ready := fun e => by rw [e] at hy; cases hy
  have held {y : PartState} (hy : y.inStandby = true) : y ≠ .initializing := fun e => by rw [e] at hy; cases hy
  exact (outputsOk_iff _).mpr
    ⟨⟨hs.ordered.delay, fun _ => hs.ordered.dark (notReady h), fun hi => absurd hi (held hx),
      fun hi => absurd hi (held hx), hs.ordered.outputs⟩,
      idleOk_of_stopped (hs.idleOk.stopped (notReady h)) (notReady hx)⟩

theorem OutputsOk.wakeFromStandby {s : State} (hs : OutputsOk s) : OutputsOk (wakeFromStandby s) := by
  unfold Machine.wakeFromStandby
  split
  · next h => exact hs.inStandby (by rw [h]; rfl) rfl
  all_goals exact hs

theorem OutputsOk.setStandbyDelay {s : State} (hs : OutputsOk s) {delay : Nat} (h : delay ≤ 3600) :
    OutputsOk (setStandbyDelay delay s) :=
  have ordered : Ordered { s with part := { s.part with standbyDelay := delay, idleTimer := none } } :=
    { hs.ordered with delay := h }
  ordered.keepIdleTimer

/-- A READY part shows what its controllers have, and is bound by nothing else. -/
theorem Ordered.ready {s : State} (hs : Ordered s) : Ordered (s.setPartState .ready) :=
  ⟨hs.delay, fun h => absurd rfl h, fun hi => (by cases hi), fun hi => (by cases hi), hs.outputs⟩

theorem standbyEnterOwner_outputsOk (l : Link) (p : Packet) {s : State} (hs : OutputsOk s) :
    (standbyEnterOwner l p s).Has OutputsOk := by
  unfold standbyEnterOwner
  split_ifs
  · trivial
  · split
    · next h => exact hs.inStandby (by rw [h]; rfl) rfl
    · exact hs
    · exact hs.standbyEntry _
    · exact hs.standbyEntry _
    · exact hs

theorem standbyExitOwner_outputsOk (l : Link) (p : Packet) {s : State} (hs : OutputsOk s) :
    (standbyExitOwner l p s).Has OutputsOk := by
  unfold standbyExitOwner
  split_ifs
  · trivial
  · exact hs.wakeFromStandby

theorem standbyDelayOwner_outputsOk (l : Link) (p : Packet) {s : State} (hs : OutputsOk s) :
    (standbyDelayOwner l p s).Has OutputsOk := by
  unfold standbyDelayOwner
  dsimp only
  split_ifs with action long
  · trivial
  · trivial
  · exact hs.setStandbyDelay (Nat.not_lt.mp long)

theorem execIdleTimerExpiry_outputsOk {s : State} (hs : OutputsOk s) : Answers OutputsOk (execIdleTimerExpiry s) := by
  unfold execIdleTimerExpiry
  split
  · exact hs
  · next e _ => exact OutputsOk.latchEdges ((hs.advance e).standbyEntry _) _

theorem execWakingTimerExpiry_outputsOk {s : State} (hs : OutputsOk s) :
    Answers OutputsOk (execWakingTimerExpiry s) := by
  unfold execWakingTimerExpiry
  split
  · next e _ => exact OutputsOk.latchEdges (hs.advance e).ordered.ready.keepIdleTimer _
  all_goals exact hs

theorem moves_enableReceiver {s : State} (h : s.part.state ≠ .initializing) (l : Link) :
    Moves s (enableReceiver l s) := by
  unfold enableReceiver
  split
  · exact moves_setPort fun hi => absurd hi h
  · exact .refl s

theorem execInitialisationEnd_outputsOk (t : Nat) {s : State} (hs : OutputsOk s) :
    Answers OutputsOk (execInitialisationEnd t s) := by
  unfold execInitialisationEnd
  dsimp only
  split
  · have a := moves_enableReceiver (s := (s.advance t).setPartState .ready) nofun .a
    have b := moves_enableReceiver (s := enableReceiver .a ((s.advance t).setPartState .ready))
      (by rw [enableReceiver_part]; nofun) .b
    exact OutputsOk.latchEdges (Ordered.keepIdleTimer ((hs.advance t).ordered.ready.of_moves (a.trans b))) _
  · exact hs.advance t

/-! ### The service override (R188, R189) -/

theorem execGroupTimerExpiry_outputsOk {s : State} (hs : OutputsOk s) : Answers OutputsOk (execGroupTimerExpiry s) := by
  unfold execGroupTimerExpiry
  split
  · exact hs
  · next e he =>
    have running : s.part.state ≠ .initializing := fun hi => by
      rw [(hs.ordered.service hi).1] at he
      cases he
    have hs0 := hs.advance e
    have set {u : State} (hu : OutputsOk u) (h : u.part.state ≠ .initializing) (v : Override) :
        OutputsOk (u.setService v) := outputsOk_reads (untouched_setService h v) hu
    have decoded : OutputsOk (decodeGroup ((s.advance e).part.decoder.group.getD 0) (s.advance e))
        ∧ (decodeGroup ((s.advance e).part.decoder.group.getD 0) (s.advance e)).part.state ≠ .initializing := by
      unfold decodeGroup
      split
      · unfold overrideDark
        dsimp only
        split
        · exact ⟨set hs0 running _, running⟩
        all_goals exact ⟨outputsOk_reads (.of_outward rfl fun _ => rfl) (set hs0 running (.dark _)), running⟩
      · refine ⟨(set hs0 running _).wakeFromStandby, ?_⟩
        unfold overrideGrid wakeFromStandby
        split
        · nofun
        all_goals exact running
      · exact ⟨set hs0 running _, running⟩
      · exact ⟨hs0, running⟩
    have runs : decoderRuns (decodeGroup ((s.advance e).part.decoder.group.getD 0) (s.advance e)) = true :=
      bne_iff_ne.mpr decoded.2
    exact OutputsOk.latchEdges (outputsOk_reads (untouched_setDecoder runs _) decoded.1) _

theorem execOverrideTimerExpiry_outputsOk {s : State} (hs : OutputsOk s) :
    Answers OutputsOk (execOverrideTimerExpiry s) := by
  have running {v : Override} (h : s.part.service = v) (hv : v ≠ .none) : s.part.state ≠ .initializing := fun hi =>
    hv (h.symm.trans (hs.ordered.service hi).2)
  have ended (e : Nat) (h : s.part.state ≠ .initializing) : OutputsOk ((s.advance e).setService .none) :=
    outputsOk_reads (untouched_setService (s := s.advance e) h _) (hs.advance e)
  unfold execOverrideTimerExpiry
  split
  · exact hs
  · next h => exact OutputsOk.latchEdges (ended _ (running h nofun)) _
  · next h => exact OutputsOk.latchEdges (ended _ (running h nofun)) _

/-! ### Resets (R103, R126, R149, R191) -/

theorem route_reset_ok : Route.reset.ok := by
  unfold Route.ok Route.reset
  decide

/-- Controllers at rest, with the store, the ports and the part at their reset values. -/
theorem outputsOk_of_reset {s : State} (store : s.store = ⟨LinkStore.reset, LinkStore.reset⟩)
    (part : s.part = PartControl.reset)
    (links : ∀ l : Link, s.engine.commands.get l = [] ∧ (s.ports.get l).unused)
    (rest : ∀ o : Out, ∃ c : Controller, c.ok ∧ c.pendingRoute = none ∧ s.controllers.get o = c.forceDark) :
    OutputsOk s := by
  have free (i : SlotId) : (s.slot i).isFree = true := by
    rw [State.slot, store]
    obtain ⟨l, j⟩ := i
    cases l <;> cases j <;> rfl
  have pattern (o : Out) : s.part.patterns.get o = none := by rw [part]; cases o <;> rfl
  refine (outputsOk_iff s).mpr ⟨⟨by rw [part]; decide, fun _ => ⟨fun o => ?_, free⟩, fun _ => links,
    fun _ => by rw [part]; exact ⟨rfl, rfl⟩, fun o => ?_⟩, idleOk_of_stopped (by rw [part]; rfl) (by rw [part]; nofun)⟩
  · obtain ⟨c, -, -, h⟩ := rest o
    rw [h, pattern]
    exact ⟨rfl, rfl, rfl⟩
  · obtain ⟨c, ok, -, h⟩ := rest o
    exact outputOk_of_dark (by rw [h]; exact ok.forceDark) (by rw [h]; rfl) (pattern o) free

theorem controller_reset_ok : Controller.reset.ok :=
  ⟨route_reset_ok, fun r hr => (by cases hr), ⟨rfl, rfl, rfl, rfl⟩, rfl, fun _ => rfl⟩

theorem outputsOk_powerOnReset (s : State) : OutputsOk (powerOnReset s) := by
  refine outputsOk_of_reset rfl rfl (fun l => ?_) fun o => ⟨Controller.reset, controller_reset_ok, rfl, ?_⟩
  · cases l <;> exact ⟨rfl, rfl, rfl⟩
  · cases o <;> rfl

theorem outputsOk_pinReset {s : State} (hs : OutputsOk s) : OutputsOk (pinReset s) := by
  refine outputsOk_of_reset rfl rfl (fun l => ?_) fun o => ?_
  · cases l <;> exact ⟨rfl, rfl, rfl⟩
  · obtain ⟨⟨route, pending, state⟩, -, -⟩ := hs.ordered.outputs o
    refine ⟨{ s.controllers.get o with pendingRoute := none }, ⟨route, fun r hr => (by cases hr), state⟩, rfl, ?_⟩
    exact PerOut.get_map _ _ o

/-! ### Patterns and the timers of an output (R132, R142, R144, R185, R186) -/

/-- The controllers may be written if each keeps its held slot and is in order, and stays dark outside READY. -/
theorem Ordered.setControllers {s : State} (hs : Ordered s) {cs : PerOut Controller} (ok : ∀ o : Out, (cs.get o).ok)
    (timer : ∀ o : Out, (s.part.patterns.get o).isSome = true → (cs.get o).douserTimer = none)
    (held : ∀ o : Out, (cs.get o).held = (s.controllers.get o).held)
    (dark : ∀ o : Out, s.part.state ≠ .ready → (s.controllers.get o).isDark = true →
      (s.controllers.get o).douser = true → (cs.get o).isDark = true ∧ (cs.get o).douser = true) :
    Ordered { s with controllers := cs } where
  delay := hs.delay
  dark notReady := by
    obtain ⟨outputs, slots⟩ := hs.dark notReady
    refine ⟨fun o => ?_, slots⟩
    obtain ⟨isDark, douser, pattern⟩ := outputs o
    obtain ⟨isDark', douser'⟩ := dark o notReady isDark douser
    exact ⟨isDark', douser', pattern⟩
  held := hs.held
  service := hs.service
  outputs o := by
    obtain ⟨-, -, views⟩ := hs.outputs o
    refine ⟨ok o, timer o, fun i => ?_⟩
    rw [show ({ s with controllers := cs } : State).controllers.get o = cs.get o from rfl, held o]
    exact views i

theorem OutputsOk.setControllers {s : State} (hs : OutputsOk s) {cs : PerOut Controller} (ok : ∀ o : Out, (cs.get o).ok)
    (timer : ∀ o : Out, (s.part.patterns.get o).isSome = true → (cs.get o).douserTimer = none)
    (held : ∀ o : Out, (cs.get o).held = (s.controllers.get o).held)
    (dark : ∀ o : Out, s.part.state ≠ .ready → (s.controllers.get o).isDark = true →
      (s.controllers.get o).douser = true → (cs.get o).isDark = true ∧ (cs.get o).douser = true) :
    OutputsOk { s with controllers := cs } :=
  (outputsOk_iff _).mpr ⟨hs.ordered.setControllers ok timer held dark, hs.idleOk⟩

theorem PerOut.forall_set {α : Type} {P : Out → α → Prop} {p : PerOut α} {o : Out} {x : α} (hx : P o x)
    (h : ∀ q : Out, P q (p.get q)) (q : Out) : P q ((p.set o x).get q) := by
  by_cases hq : q = o
  · rw [hq, PerOut.get_set_same]
    exact hx
  · rw [PerOut.get_set_other _ _ hq]
    exact h q

/-- One controller may be written. -/
theorem OutputsOk.setController {s : State} (hs : OutputsOk s) (o : Out) {c : Controller} (ok : c.ok)
    (timer : (s.part.patterns.get o).isSome = true → c.douserTimer = none)
    (held : c.held = (s.controllers.get o).held)
    (dark : s.part.state ≠ .ready → (s.controllers.get o).isDark = true → (s.controllers.get o).douser = true →
      c.isDark = true ∧ c.douser = true) : OutputsOk (s.setController o c) := by
  refine hs.setControllers ?_ ?_ ?_ ?_
  · exact PerOut.forall_set (P := fun _ (c : Controller) => c.ok) ok fun q => (hs.ordered.outputs q).controllerOk
  · exact PerOut.forall_set (P := fun q (c : Controller) => (s.part.patterns.get q).isSome = true →
      c.douserTimer = none) timer fun q => (hs.ordered.outputs q).untimed
  · exact PerOut.forall_set (P := fun q (c : Controller) => c.held = (s.controllers.get q).held) held fun _ => rfl
  · exact PerOut.forall_set (P := fun q (c : Controller) => s.part.state ≠ .ready →
      (s.controllers.get q).isDark = true → (s.controllers.get q).douser = true → c.isDark = true ∧ c.douser = true)
      dark fun _ _ isDark douser => ⟨isDark, douser⟩

theorem Controller.showsFrame.timers {c : Controller} (h : c.showsFrame) :
    c.douser = false ∧ c.douserTimer = none ∧ c.openTimer = .stopped := by
  obtain ⟨-, -, timers⟩ := h
  exact timers

/-- Only a DARK output has a douser timer. -/
theorem Controller.fits.dark_of_timer {c : Controller} {x : OutputState} (h : c.fits x) {e : Nat}
    (ht : c.douserTimer = some e) : x = .dark := by
  cases x with
  | dark => rfl
  | opening =>
    obtain ⟨-, -, -, none⟩ := h
    cases none.symm.trans ht
  | live | holding | fadingIn | fadingOut =>
    obtain ⟨shows, -⟩ := h
    obtain ⟨-, none, -⟩ := shows.timers
    cases none.symm.trans ht

/-- Only an OPENING output has an open timer. -/
theorem Controller.fits.opening_of_timer {c : Controller} {x : OutputState} (h : c.fits x) {e : Nat}
    (ht : c.openTimer = .running e) : x = .opening := by
  cases x with
  | opening => rfl
  | dark =>
    obtain ⟨-, stopped, -⟩ := h
    cases stopped.symm.trans ht
  | live | holding | fadingIn | fadingOut =>
    obtain ⟨shows, -⟩ := h
    obtain ⟨-, -, stopped⟩ := shows.timers
    cases stopped.symm.trans ht

theorem Controller.ok.assert {c : Controller} (h : c.ok) (dark : c.state = .dark) :
    ({ c with douser := true, douserTimer := none } : Controller).ok := by
  obtain ⟨routes, fits⟩ := (controller_ok_iff c).mp h
  rw [dark] at fits
  obtain ⟨nothing, opens, -⟩ := fits
  refine (controller_ok_iff _).mpr ⟨routes.of_dark dark rfl rfl, ?_⟩
  dsimp only
  rw [dark]
  exact ⟨nothing, opens, fun _ => rfl⟩

theorem execDouserTimerExpiry_outputsOk (o : Out) {s : State} (hs : OutputsOk s) :
    Answers OutputsOk (execDouserTimerExpiry o s) := by
  unfold execDouserTimerExpiry
  dsimp only
  split
  · exact hs
  · next e he =>
    obtain ⟨ok, -, -⟩ := hs.ordered.outputs o
    have dark := ((controller_ok_iff _).mp ok).2.dark_of_timer he
    exact (hs.advance e).setController o (ok.assert dark) (fun _ => rfl) rfl fun _ dark _ => ⟨dark, rfl⟩

theorem Controller.ok.expireOpening {c : Controller} (h : c.ok) {e : Nat} (ht : c.openTimer = .running e) :
    ({ c with openTimer := .expired } : Controller).ok := by
  obtain ⟨routes, fits⟩ := (controller_ok_iff c).mp h
  have opening := fits.opening_of_timer ht
  rw [opening] at fits
  obtain ⟨nothing, -, douser, timer⟩ := fits
  refine (controller_ok_iff _).mpr ⟨routes, ?_⟩
  dsimp only
  rw [opening]
  exact ⟨nothing, nofun, douser, timer⟩

theorem execOpenTimerExpiry_outputsOk (o : Out) {s : State} (hs : OutputsOk s) :
    Answers OutputsOk (execOpenTimerExpiry o s) := by
  unfold execOpenTimerExpiry
  dsimp only
  split
  · next e he =>
    obtain ⟨ok, timer, -⟩ := hs.ordered.outputs o
    exact (hs.advance e).setController o (ok.expireOpening he) timer rfl fun _ dark douser => ⟨dark, douser⟩
  all_goals exact hs

/-- A pattern is written on a READY part. -/
theorem OutputsOk.setPattern {s : State} (hs : OutputsOk s) (ready : s.part.state = .ready) (o : Out)
    (pat : Option Pattern) (h : pat.isSome = true → (s.controllers.get o).douserTimer = none) :
    OutputsOk { s with part := { s.part with patterns := s.part.patterns.set o pat } } := by
  refine (outputsOk_iff _).mpr ⟨⟨hs.ordered.delay, fun notReady => absurd ready notReady,
    fun hi => (by rw [show s.part.state = .initializing from hi] at ready; cases ready),
    fun hi => (by rw [show s.part.state = .initializing from hi] at ready; cases ready), fun q => ?_⟩, hs.idleOk⟩
  obtain ⟨ok, timer, views⟩ := hs.ordered.outputs q
  refine ⟨ok, fun on => ?_, views⟩
  dsimp only at on
  by_cases hq : q = o
  · rw [hq, PerOut.get_set_same] at on
    rw [hq]
    exact h on
  · rw [PerOut.get_set_other _ _ hq] at on
    exact timer on

theorem Controller.fits.release {c : Controller} {x : OutputState} (h : c.fits x) :
    ({ c with douser := false, douserTimer := none } : Controller).fits x := by
  cases x with
  | dark =>
    obtain ⟨nothing, opens, -⟩ := h
    exact ⟨nothing, opens, fun h => by cases h⟩
  | opening =>
    obtain ⟨nothing, opens, -⟩ := h
    exact ⟨nothing, opens, rfl, rfl⟩
  | live | holding | fadingIn | fadingOut =>
    obtain ⟨⟨role, held, -, -, opens⟩, rest⟩ := h
    exact ⟨⟨role, held, rfl, rfl, opens⟩, rest⟩

theorem startPattern_state (pat : Pattern) (o : Out) (s : State) : (startPattern pat o s).part.state = s.part.state := by
  unfold startPattern
  dsimp only
  split <;> rfl

theorem OutputsOk.startPattern {s : State} (hs : OutputsOk s) (ready : s.part.state = .ready) (pat : Pattern) (o : Out) :
    OutputsOk (startPattern pat o s) := by
  obtain ⟨ok, timer, -⟩ := hs.ordered.outputs o
  obtain ⟨routes, fits⟩ := (controller_ok_iff _).mp ok
  unfold Machine.startPattern
  dsimp only
  split
  · next on => exact hs.setPattern ready o (some pat) fun _ => timer (by rw [on]; rfl)
  · have ok' := (controller_ok_iff { s.controllers.get o with douser := false, douserTimer := none }).mpr
      ⟨routes, fits.release⟩
    have released := hs.setController o ok' (fun _ => rfl) rfl fun notReady => absurd ready notReady
    refine released.setPattern ready o (some pat) fun _ => ?_
    rw [State.setController, PerOut.get_set_same]

theorem Controller.ok.startDouserTimer {c : Controller} (h : c.ok) (dark : c.state = .dark) (douser : c.douser = false)
    (now : Nat) : (c.startDouserTimer now).ok := by
  unfold Controller.startDouserTimer
  split
  · exact h.assert dark
  · obtain ⟨routes, fits⟩ := (controller_ok_iff c).mp h
    rw [dark] at fits
    obtain ⟨nothing, opens, -⟩ := fits
    refine (controller_ok_iff _).mpr ⟨routes.of_dark dark rfl rfl, ?_⟩
    dsimp only
    rw [dark]
    exact ⟨nothing, opens, fun h => (by rw [douser] at h; cases h)⟩

theorem startDouserTimer_same (c : Controller) (now : Nat) :
    (c.startDouserTimer now).held = c.held ∧ (c.startDouserTimer now).state = c.state := by
  unfold Controller.startDouserTimer
  split <;> exact ⟨rfl, rfl⟩

/-- A pattern is on only while the part is READY; a DARK output then starts its douser timer, none being on. -/
theorem OutputsOk.endPattern {s : State} (hs : OutputsOk s) (o : Out) : OutputsOk (endPattern o s) := by
  unfold Machine.endPattern
  split
  · exact hs
  · next pat on =>
    have ready : s.part.state = .ready := by
      by_contra notReady
      obtain ⟨-, -, off⟩ := (hs.ordered.dark notReady).1 o
      cases off.symm.trans on
    have ended := hs.setPattern ready o none nofun
    dsimp only
    split
    · next h =>
      rw [Bool.and_eq_true, Controller.isDark, beq_iff_eq, Bool.not_eq_true'] at h
      obtain ⟨dark, released⟩ := h
      obtain ⟨ok, -, -⟩ := hs.ordered.outputs o
      obtain ⟨held, -⟩ := startDouserTimer_same (s.controllers.get o) s.now
      refine ended.setController o (ok.startDouserTimer dark released s.now) (fun h => ?_) held fun _ _ asserted => ?_
      · rw [PerOut.get_set_same] at h
        cases h
      · cases released.symm.trans asserted
    · exact ended

theorem OutputsOk.forOutputs {f : Out → State → State} {m : Mask} {s : State} (hs : OutputsOk s)
    (hf : ∀ (o : Out) {u : State}, OutputsOk u → OutputsOk (f o u)) : OutputsOk (forOutputs m f s) := by
  unfold Machine.forOutputs
  split_ifs
  · exact hf _ (hf _ hs)
  · exact hf _ hs
  · exact hf _ hs
  · exact hs

theorem patternOwner_outputsOk (l : Link) (p : Packet) {s : State} (hs : OutputsOk s)
    (running : s.part.state ≠ .initializing) : (patternOwner l p s).Has OutputsOk := by
  unfold patternOwner
  dsimp only
  split
  · trivial
  · split_ifs with duration lock service standby
    · trivial
    · trivial
    · trivial
    · trivial
    · have ready : s.part.state = .ready := by
        cases hp : s.part.state with
        | ready => rfl
        | initializing => exact absurd hp running
        | standby _ | waking _ => rw [hp] at standby; exact absurd rfl standby
      unfold forOutputs
      split_ifs
      · exact (hs.startPattern ready _ _).startPattern ((startPattern_state _ _ _).trans ready) _ _
      · exact hs.startPattern ready _ _
      · exact hs.startPattern ready _ _
      · exact hs

theorem execPatternExpiry_outputsOk (o : Out) {s : State} (hs : OutputsOk s) :
    Answers OutputsOk (execPatternExpiry o s) := by
  unfold execPatternExpiry
  split
  · exact hs
  · next p _ => exact OutputsOk.latchEdges ((hs.advance p.expires).endPattern o) _

end Sys2Proof.Machine
end

section
/-!
PROOFS. ROUTE, SELECT and SOFT_RESET keep the invariant of the outputs.
-/
namespace Sys2Proof.Machine

open Sys2Proof

/-! ### ROUTE and SELECT (R128, R141) -/

theorem routeOf_ok {p : Packet} {r : Route} (h : routeOf p = some r) : r.ok := by
  unfold routeOf at h
  split at h
  · next primary backup revert _ _ _ =>
    dsimp only at h
    split at h
    · next range =>
      cases h
      simp only [Bool.and_eq_true, decide_eq_true_eq, Bool.not_eq_true'] at range
      obtain ⟨⟨⟨⟨⟨⟨⟨⟨⟨⟨⟨settle, low⟩, high⟩, short⟩, long⟩, fadeIn⟩, fadeOut⟩, delay⟩, opens⟩, distinct⟩, named⟩, limit⟩ :=
        range
      refine ⟨settle, low, high, short, long, fadeIn, fadeOut, delay, opens, limit, fun hp => ?_, fun hb same => ?_⟩
      · dsimp only at hp ⊢
        rw [hp] at named
        simpa using named
      · dsimp only at hb same
        rw [same, beq_self_eq_true, Bool.and_true, ← same, Option.isSome_eq_false_iff, Option.isNone_iff_eq_none]
          at distinct
        exact hb distinct
    · cases h
  · cases h

theorem anyWhere_eq_false {α : Type} {p : PerOut α} {m : Mask} {f : α → Bool} (h : ¬p.anyWhere m f = true) {o : Out}
    (ho : m.get o = true) : f (p.get o) = false := by
  rw [Bool.not_eq_true, PerOut.anyWhere, Bool.or_eq_false_iff, Bool.and_eq_false_imp, Bool.and_eq_false_imp] at h
  cases o with
  | out0 => exact h.1 ho
  | out1 => exact h.2 ho

/-- What a controller holds in its state does not depend on what is pending. -/
theorem fits_pending (c : Controller) (r : Option Route) (role : Option Role) (x : OutputState) :
    ({ c with pendingRoute := r, pendingSelect := role } : Controller).fits x ↔ c.fits x := by
  cases x <;> exact Iff.rfl

theorem Controller.ok.setPendingRoute {c : Controller} (h : c.ok) {r : Route} (ok : r.ok)
    (shown : routeNeedsDark r c = false) : ({ c with pendingRoute := some r } : Controller).ok := by
  obtain ⟨⟨route, -⟩, fits⟩ := (controller_ok_iff c).mp h
  refine (controller_ok_iff _).mpr ⟨⟨route, fun q hq => ?_⟩, (fits_pending c _ c.pendingSelect _).mpr fits⟩
  cases hq
  exact ⟨ok, shown⟩

theorem Controller.ok.setPendingSelect {c : Controller} (h : c.ok) (role : Option Role) :
    ({ c with pendingSelect := role } : Controller).ok := by
  obtain ⟨routes, fits⟩ := (controller_ok_iff c).mp h
  exact (controller_ok_iff _).mpr ⟨routes, (fits_pending c c.pendingRoute role _).mpr fits⟩

/-- What is pending on the outputs of a mask may change if it keeps their controllers in order. -/
theorem OutputsOk.mapWhere {s : State} (hs : OutputsOk s) (m : Mask) {f : Controller → Controller}
    (ok : ∀ o : Out, m.get o = true → (s.controllers.get o).ok → (f (s.controllers.get o)).ok)
    (same : ∀ c : Controller, (f c).state = c.state ∧ (f c).held = c.held ∧ (f c).douser = c.douser
      ∧ (f c).douserTimer = c.douserTimer) : OutputsOk { s with controllers := s.controllers.mapWhere m f } := by
  refine hs.setControllers (fun o => ?_) (fun o => ?_) (fun o => ?_) fun o _ isDark asserted => ?_
  all_goals
    obtain ⟨fine, timer, -⟩ := hs.ordered.outputs o
    obtain ⟨state, held, douser, douserTimer⟩ := same (s.controllers.get o)
    rw [PerOut.get_mapWhere]
    split
  · next ho => exact ok o ho fine
  · exact fine
  · rw [douserTimer]; exact timer
  · exact timer
  · exact held
  · rfl
  · rw [Controller.isDark, state, douser]; exact ⟨isDark, asserted⟩
  · exact ⟨isDark, asserted⟩

theorem routeOwner_outputsOk (l : Link) (p : Packet) {s : State} (hs : OutputsOk s) :
    (routeOwner l p s).Has OutputsOk := by
  unfold routeOwner
  split
  · trivial
  · next r hr =>
    split_ifs with lock dark
    · trivial
    · trivial
    · exact hs.mapWhere p.outputs (fun o ho ok => ok.setPendingRoute (routeOf_ok hr) (anyWhere_eq_false dark ho))
        fun _ => ⟨rfl, rfl, rfl, rfl⟩

theorem selectOwner_outputsOk (l : Link) (p : Packet) {s : State} (hs : OutputsOk s) :
    (selectOwner l p s).Has OutputsOk := by
  unfold selectOwner
  split
  · trivial
  · split_ifs
    · trivial
    · trivial
    · trivial
    · exact hs.mapWhere p.outputs (fun o _ ok => ok.setPendingSelect _) fun _ => ⟨rfl, rfl, rfl, rfl⟩

/-! ### SOFT_RESET (R163, R186, R191) -/

theorem OutputsOk.endPatternsAtSoftReset {s : State} (hs : OutputsOk s) : OutputsOk (endPatternsAtSoftReset s) := by
  have off (o : Out) : (Machine.endPatternsAtSoftReset s).part.patterns.get o = none := by cases o <;> rfl
  refine (outputsOk_iff _).mpr ⟨⟨hs.ordered.delay, fun notReady => ?_, hs.ordered.held, hs.ordered.service,
    fun o => ?_⟩, hs.idleOk⟩
  · obtain ⟨outputs, slots⟩ := hs.ordered.dark notReady
    refine ⟨fun o => ?_, slots⟩
    obtain ⟨isDark, douser, -⟩ := outputs o
    exact ⟨isDark, douser, off o⟩
  · obtain ⟨ok, -, views⟩ := hs.ordered.outputs o
    refine ⟨ok, fun on => ?_, views⟩
    rw [off] at on
    cases on

theorem wakeFromStandby_running {s : State} (h : s.part.state ≠ .initializing) :
    (wakeFromStandby s).part.state ≠ .initializing := by
  unfold wakeFromStandby
  split
  · nofun
  all_goals exact h

theorem OutputsOk.softReset {s : State} (hs : OutputsOk s) (running : s.part.state ≠ .initializing) (keep : Bool) :
    OutputsOk (softReset keep s) := by
  have begun : Untouched s (softResetScheduler (resetTables s)) := .of_outward rfl fun _ => rfl
  have woken := (outputsOk_reads begun hs).endPatternsAtSoftReset.wakeFromStandby
  have stays : (Machine.wakeFromStandby (Machine.endPatternsAtSoftReset
      (softResetScheduler (resetTables s)))).part.state ≠ .initializing := wakeFromStandby_running running
  have emptied {u : State} (hu : OutputsOk u) (h : u.part.state ≠ .initializing) :
      OutputsOk { u with engine := u.engine.emptyQueues, flagUnit := u.flagUnit.softReset keep } := by
    have same : Untouched u { u with engine := u.engine.emptyQueues, flagUnit := u.flagUnit.softReset keep } :=
      .of_outward rfl fun hi => absurd hi h
    exact outputsOk_reads same hu
  cases keep with
  | true => exact emptied woken stays
  | false => exact emptied (woken.setStandbyDelay (by decide)) stays

theorem execSoftReset_outputsOk (t : Nat) {s : State} (hs : OutputsOk s) : Answers OutputsOk (execSoftReset t s) := by
  unfold execSoftReset
  split
  · exact hs.advance t
  · next l p rest hnext =>
    obtain ⟨-, -, running⟩ := nextPacket_some hnext
    have taken := outputsOk_reads (untouched_dequeue hnext t) hs
    split
    · refine has_settle outputsOk_reads taken (generalChecks_has ?_)
      unfold softResetOwner
      split
      · trivial
      · exact taken.softReset running _
    · exact hs.advance t

end Sys2Proof.Machine
end

section
/-!
PROOFS. The controller of an output at a period start: a pending route and a pending select come into force, and the rule
of its state leaves what its next state holds (R128 to R142).
-/
namespace Sys2Proof.Machine

open Sys2Proof

/-! ### What a rule leaves and where a held slot comes from -/

/-- What every rule keeps of a controller: its routes; its held slot stays, goes, or is a frame for D; and a douser timer
does not start under a pattern. -/
structure Controller.Keeps (v : StartView) (c c' : Controller) : Prop where
  route : c'.route = c.route
  pending : c'.pendingRoute = c.pendingRoute
  held : c'.held = c.held ∨ c'.held = none ∨ ∃ l : Link, c'.held.isSome = true ∧ v.frames.get l = c'.held
  timer : v.patternOn = true → c.douserTimer = none → c'.douserTimer = none

theorem Controller.Keeps.refl (v : StartView) (c : Controller) : c.Keeps v c := ⟨rfl, rfl, .inl rfl, fun _ => id⟩

theorem Controller.Keeps.trans {v : StartView} {a b c : Controller} (h : a.Keeps v b) (h' : b.Keeps v c) :
    a.Keeps v c where
  route := h'.route.trans h.route
  pending := h'.pending.trans h.pending
  held := by
    obtain e | other := h'.held
    · rw [e]; exact h.held
    · exact .inr other
  timer on none := h'.timer on (h.timer on none)

theorem frameOn_some {v : StartView} {x : Option Link} {i : SlotId} (h : v.frameOn x = some i) :
    x ≠ none ∧ ∃ l : Link, v.frames.get l = some i := by
  cases x with
  | none => cases h
  | some l => exact ⟨nofun, l, h⟩

theorem candidate_some {v : StartView} {r : Route} {role : Role} {i : SlotId} (h : v.candidate r = some (role, i)) :
    r.link role ≠ none ∧ ∃ l : Link, v.frames.get l = some i := by
  unfold StartView.candidate at h
  split at h
  · next hp => cases h; exact frameOn_some hp
  · split at h
    · next hb => cases h; exact frameOn_some hb
    · cases h

theorem keeps_showFrame {v : StartView} {i : SlotId} (h : ∃ l : Link, v.frames.get l = some i) (c : Controller)
    (role : Role) : c.Keeps v (c.showFrame role i) := by
  obtain ⟨l, hl⟩ := h
  exact ⟨rfl, rfl, .inr (.inr ⟨l, rfl, hl⟩), fun _ => id⟩

theorem keeps_fadeUp (v : StartView) (c : Controller) : c.Keeps v c.fadeUp := ⟨rfl, rfl, .inl rfl, fun _ => id⟩

theorem startDouserTimer_routes (c : Controller) (now : Nat) :
    (c.startDouserTimer now).route = c.route ∧ (c.startDouserTimer now).pendingRoute = c.pendingRoute := by
  unfold Controller.startDouserTimer
  split <;> exact ⟨rfl, rfl⟩

theorem keeps_enterDark (v : StartView) (c : Controller) : c.Keeps v (c.enterDark v) := by
  unfold Controller.enterDark
  dsimp only
  split
  · exact ⟨rfl, rfl, .inr (.inl rfl), fun _ _ => rfl⟩
  · next off =>
    obtain ⟨route, pending⟩ := startDouserTimer_routes { c with
      state := .dark, role := none, held := none, ws := 0, starved := 0, douser := false, douserTimer := none
      openTimer := .stopped } v.now
    obtain ⟨held, -⟩ := startDouserTimer_same { c with
      state := .dark, role := none, held := none, ws := 0, starved := 0, douser := false, douserTimer := none
      openTimer := .stopped } v.now
    exact ⟨route, pending, .inr (.inl held), fun on => absurd on off⟩

theorem keeps_fadeDown (v : StartView) (c : Controller) : c.Keeps v (c.fadeDown v) := by
  unfold Controller.fadeDown
  dsimp only
  split
  · exact keeps_enterDark v c
  · exact ⟨rfl, rfl, .inl rfl, fun _ => id⟩

theorem keeps_beginShowing {v : StartView} {i : SlotId} (h : ∃ l : Link, v.frames.get l = some i) (c : Controller)
    (role : Role) : c.Keeps v (c.beginShowing role i) := by
  obtain ⟨l, hl⟩ := h
  unfold Controller.beginShowing
  dsimp only
  split <;> exact ⟨rfl, rfl, .inr (.inr ⟨l, rfl, hl⟩), fun _ _ => rfl⟩

/-! ### The source weight (R129) -/

theorem one_div_fade_pos {n : Nat} (h : n ≠ 0) : (0 : Rat) < 1 / (n : Rat) :=
  one_div_pos.mpr (Nat.cast_pos.mpr (Nat.pos_of_ne_zero h))

theorem weightUp_mem (r : Route) {ws : Rat} (h : 0 < ws) : 0 < weightUp r ws ∧ weightUp r ws ≤ 1 := by
  unfold weightUp
  split
  · exact ⟨one_pos, le_rfl⟩
  · next n => exact ⟨lt_min one_pos (add_pos h (one_div_fade_pos n)), min_le_left _ _⟩

theorem weightDown_mem (r : Route) {ws : Rat} (h : ws ≤ 1) : 0 ≤ weightDown r ws ∧ weightDown r ws < 1 := by
  unfold weightDown
  split
  · exact ⟨le_rfl, one_pos⟩
  · next n => exact ⟨le_max_left _ _, max_lt one_pos ((sub_lt_self ws (one_div_fade_pos n)).trans_le h)⟩

/-! ### What each operation leaves in the state that it enters -/

/-- The request is released and both timers of the output are stopped. -/
def Controller.released (c : Controller) : Prop := c.douser = false ∧ c.douserTimer = none ∧ c.openTimer = .stopped

theorem showsFrame_showFrame {c : Controller} (h : c.released) {role : Role} (link : c.route.link role ≠ none)
    (i : SlotId) : (c.showFrame role i).showsFrame := by
  obtain ⟨douser, timer, opens⟩ := h
  exact ⟨⟨role, rfl, link⟩, rfl, douser, timer, opens⟩

theorem Controller.showsFrame.released {c : Controller} (h : c.showsFrame) : c.released := h.timers

theorem fits_enterDark (v : StartView) (c : Controller) :
    (c.enterDark v).state = .dark ∧ (c.enterDark v).fits .dark := by
  unfold Controller.enterDark Controller.startDouserTimer
  dsimp only
  split
  · exact ⟨rfl, ⟨rfl, rfl, rfl, rfl⟩, rfl, fun _ => rfl⟩
  · split
    · exact ⟨rfl, ⟨rfl, rfl, rfl, rfl⟩, rfl, fun _ => rfl⟩
    · exact ⟨rfl, ⟨rfl, rfl, rfl, rfl⟩, rfl, fun h => by cases h⟩

theorem fits_fadeUp {c : Controller} (h : c.showsFrame) (ws : 0 < c.ws) (starved : c.starved = 0) :
    c.fadeUp.fits c.fadeUp.state := by
  obtain ⟨low, high⟩ := weightUp_mem c.route ws
  by_cases full : weightUp c.route c.ws = 1
  · have state : c.fadeUp.state = .live := if_pos full
    rw [state]
    exact ⟨h, full, starved⟩
  · have state : c.fadeUp.state = .fadingIn := if_neg full
    rw [state]
    exact ⟨h, low, lt_of_le_of_ne high full, (by change c.starved < 250; omega)⟩

theorem fits_fadeDown (v : StartView) {c : Controller} (h : c.showsFrame) (ws : c.ws ≤ 1) (starved : c.starved ≤ 250) :
    (c.fadeDown v).fits (c.fadeDown v).state := by
  obtain ⟨low, high⟩ := weightDown_mem c.route ws
  unfold Controller.fadeDown
  dsimp only
  split
  · obtain ⟨state, fits⟩ := fits_enterDark v c
    rw [state]
    exact fits
  · next more => exact ⟨h, lt_of_le_of_ne low (Ne.symm more), high, starved⟩

theorem fits_beginShowing {c : Controller} (douser : c.douser = false) {role : Role} (link : c.route.link role ≠ none)
    (i : SlotId) : (c.beginShowing role i).fits (c.beginShowing role i).state := by
  unfold Controller.beginShowing
  dsimp only
  have shows {ws : Rat} {x : OutputState} : Controller.showsFrame
      { c.showFrame role i with douserTimer := none, openTimer := .stopped, ws := ws, state := x } :=
    ⟨⟨role, rfl, link⟩, rfl, douser, rfl, rfl⟩
  split
  · exact ⟨shows, rfl, rfl⟩
  · next long =>
    have more : (1 : Rat) < (c.route.fadeIn : Rat) := by exact_mod_cast Nat.not_le.mp long
    refine ⟨shows, one_div_pos.mpr (one_pos.trans more), (div_lt_one (one_pos.trans more)).mpr more, ?_⟩
    change 0 < 250
    decide

/-! ### The starved step (R134) -/

/-- How a starved step may leave a controller. -/
def StarvedEnd.Fine (v : StartView) (c : Controller) : StarvedEnd → Prop
  | .failedOver c' => c.Keeps v c' ∧ c'.showsFrame ∧ c'.ws = c.ws ∧ c'.starved = 0 ∧ c'.state = c.state
  | .limit c' => c.Keeps v c' ∧ c'.fits c'.state
  | .hold c' => c' = { c with starved := c.starved + 1 } ∧ c.starved + 1 < 250

theorem starve_fine (v : StartView) (role : Role) {c : Controller} (route : c.route.ok) (h : c.showsFrame)
    (ws : c.ws ≤ 1) (starved : c.starved < 250) : (c.starve v role).Fine v c := by
  have counted : c.Keeps v { c with starved := c.starved + 1 } := ⟨rfl, rfl, .inl rfl, fun _ => id⟩
  have shows : Controller.showsFrame { c with starved := c.starved + 1 } := h
  obtain ⟨-, -, -, -, limit, -⟩ := route
  have ends : StarvedEnd.Fine v c (if c.route.holdover ≤ c.starved + 1
      then .limit (Controller.fadeDown v { c with starved := c.starved + 1 })
      else .hold { c with starved := c.starved + 1 }) := by
    split
    · exact ⟨counted.trans (keeps_fadeDown v _), fits_fadeDown v shows ws starved⟩
    · next more => exact ⟨rfl, by omega⟩
  unfold Controller.starve
  dsimp only
  split
  · next i hi =>
    obtain ⟨link, frame⟩ := frameOn_some hi
    split
    · exact ⟨counted.trans (keeps_showFrame frame _ _), showsFrame_showFrame shows.released link i, rfl, rfl, rfl⟩
    · exact ends
  · exact ends

/-! ### The rules of the states (R131 to R137) -/

/-- A controller that a rule may leave. -/
def Controller.Follows (v : StartView) (c c' : Controller) : Prop := c.Keeps v c' ∧ c'.fits c'.state

theorem follows_darkRule (v : StartView) {c : Controller} (state : c.state = .dark) (h : c.fits .dark) :
    c.Follows v (c.darkRule v) := by
  obtain ⟨nothing, opens, timer⟩ := h
  unfold Controller.darkRule
  split
  · exact ⟨.refl v c, by rw [state]; exact ⟨nothing, opens, timer⟩⟩
  · next role i hc =>
    obtain ⟨link, frame⟩ := candidate_some hc
    split
    · next asserted =>
      refine ⟨⟨rfl, rfl, .inl rfl, fun _ => id⟩, nothing, ?_, rfl, timer asserted⟩
      dsimp only
      split <;> nofun
    · next released =>
      exact ⟨keeps_beginShowing frame c role, fits_beginShowing (Bool.not_eq_true _ ▸ released) link i⟩

theorem follows_openingRule (v : StartView) {c : Controller} (state : c.state = .opening) (h : c.fits .opening) :
    c.Follows v (c.openingRule v) := by
  have same : c.Follows v c := ⟨.refl v c, by rw [state]; exact h⟩
  obtain ⟨-, -, douser, -⟩ := h
  unfold Controller.openingRule
  split
  · split
    · obtain ⟨dark, fits⟩ := fits_enterDark v c
      exact ⟨keeps_enterDark v c, by rw [dark]; exact fits⟩
    · next role i hc =>
      obtain ⟨link, frame⟩ := candidate_some hc
      exact ⟨keeps_beginShowing frame c role, fits_beginShowing douser link i⟩
  all_goals exact same

theorem revertFrame_some {v : StartView} {role : Role} {c : Controller} {i : SlotId}
    (h : c.revertFrame v role = some i) : v.frameOn (c.route.link .primary) = some i := by
  unfold Controller.revertFrame at h
  split_ifs at h
  exact h

theorem follows_liveRule (v : StartView) (role : Role) {c : Controller} (route : c.route.ok) (state : c.state = .live)
    (h : c.fits .live) : c.Follows v (c.liveRule v role).1 := by
  obtain ⟨shows, ws, starved⟩ := h
  have shown {role : Role} {i : SlotId} (hi : v.frameOn (c.route.link role) = some i) :
      c.Follows v (c.showFrame role i) := by
    obtain ⟨link, frame⟩ := frameOn_some hi
    refine ⟨keeps_showFrame frame c role, ?_⟩
    rw [show (c.showFrame role i).state = .live from state]
    exact ⟨showsFrame_showFrame shows.released link i, ws, rfl⟩
  have fine := starve_fine v role route shows ws.le (starved ▸ by decide)
  unfold Controller.liveRule
  split
  · next i hi => exact shown (revertFrame_some hi)
  · split
    · next i hi => exact shown hi
    · split
      · next c' he =>
        rw [he] at fine
        obtain ⟨keeps, shows', ws', starved', state'⟩ := fine
        refine ⟨keeps, ?_⟩
        rw [state', state]
        exact ⟨shows', ws'.trans ws, starved'⟩
      · next c' he => rw [he] at fine; exact fine
      · next c' he =>
        rw [he] at fine
        obtain ⟨rfl, limit⟩ := fine
        exact ⟨⟨rfl, rfl, .inl rfl, fun _ => id⟩, shows, ws, Nat.succ_le_succ (Nat.zero_le _), limit⟩

theorem follows_holdingRule (v : StartView) (role : Role) {c : Controller} (route : c.route.ok)
    (state : c.state = .holding) (h : c.fits .holding) : c.Follows v (c.holdingRule v role).1 := by
  obtain ⟨shows, ws, -, starved⟩ := h
  have fine := starve_fine v role route shows ws.le starved
  have alive {c' : Controller} (keeps : c.Keeps v c') : c.Keeps v { c' with state := .live } :=
    ⟨keeps.route, keeps.pending, keeps.held, keeps.timer⟩
  unfold Controller.holdingRule
  split
  · next i hi =>
    obtain ⟨link, frame⟩ := frameOn_some hi
    exact ⟨alive (keeps_showFrame frame c role), showsFrame_showFrame shows.released link i, ws, rfl⟩
  · split
    · next c' he =>
      rw [he] at fine
      obtain ⟨keeps, shows', ws', starved', -⟩ := fine
      exact ⟨alive keeps, shows', ws'.trans ws, starved'⟩
    · next c' he => rw [he] at fine; exact fine
    · next c' he =>
      rw [he] at fine
      obtain ⟨rfl, limit⟩ := fine
      refine ⟨⟨rfl, rfl, .inl rfl, fun _ => id⟩, ?_⟩
      dsimp only
      rw [state]
      exact ⟨shows, ws, Nat.succ_le_succ (Nat.zero_le _), limit⟩

theorem follows_fadingInRule (v : StartView) (role : Role) {c : Controller} (route : c.route.ok)
    (h : c.fits .fadingIn) : c.Follows v (c.fadingInRule v role).1 := by
  obtain ⟨shows, low, high, starved⟩ := h
  have fine := starve_fine v role route shows high.le starved
  unfold Controller.fadingInRule
  split
  · next i hi =>
    obtain ⟨link, frame⟩ := frameOn_some hi
    exact ⟨(keeps_showFrame frame c role).trans (keeps_fadeUp v _),
      fits_fadeUp (showsFrame_showFrame shows.released link i) low rfl⟩
  · split
    · next c' he =>
      rw [he] at fine
      obtain ⟨keeps, shows', ws', starved', -⟩ := fine
      exact ⟨keeps.trans (keeps_fadeUp v c'), fits_fadeUp shows' (ws' ▸ low) starved'⟩
    · next c' he => rw [he] at fine; exact fine
    · next c' he =>
      rw [he] at fine
      obtain ⟨rfl, limit⟩ := fine
      refine ⟨⟨rfl, rfl, .inl rfl, fun _ => id⟩, ?_⟩
      obtain ⟨low', high'⟩ := weightUp_mem c.route low
      dsimp only
      split
      · next full => exact ⟨shows, full, Nat.succ_le_succ (Nat.zero_le _), limit⟩
      · next short => exact ⟨shows, low', lt_of_le_of_ne high' short, limit⟩

theorem follows_fadingOutRule (v : StartView) {c : Controller} (h : c.fits .fadingOut) :
    c.Follows v (c.fadingOutRule v) := by
  obtain ⟨shows, low, high, starved⟩ := h
  unfold Controller.fadingOutRule
  split
  · next role i hc =>
    obtain ⟨link, frame⟩ := candidate_some hc
    exact ⟨(keeps_showFrame frame c role).trans (keeps_fadeUp v _),
      fits_fadeUp (showsFrame_showFrame shows.released link i) low rfl⟩
  · exact ⟨keeps_fadeDown v c, fits_fadeDown v shows high.le starved⟩

theorem follows_stateRule (v : StartView) {c : Controller} (route : c.route.ok) (h : c.fits c.state) :
    c.Follows v (c.stateRule v).1 := by
  unfold Controller.stateRule
  split
  · next state => exact follows_darkRule v state (state ▸ h)
  · next state => exact follows_openingRule v state (state ▸ h)
  · next state _ => exact follows_liveRule v _ route state (state ▸ h)
  · next state _ => exact follows_holdingRule v _ route state (state ▸ h)
  · next state _ => exact follows_fadingInRule v _ route (state ▸ h)
  · next state => exact follows_fadingOutRule v (state ▸ h)
  · exact ⟨.refl v c, h⟩

/-! ### Pending routes and selects (R128, R130, R141) -/

theorem Controller.fits.setRoute {c : Controller} {x : OutputState} (h : c.fits x) {r : Route} (p : Option Route)
    (same : x ≠ .dark → ∀ role : Role, c.role = some role → c.route.link role ≠ none → r.link role ≠ none) :
    ({ c with route := r, pendingRoute := p } : Controller).fits x := by
  have shown (hs : c.showsFrame) (hx : x ≠ .dark) :
      Controller.showsFrame { c with route := r, pendingRoute := p } := by
    obtain ⟨⟨role, hr, link⟩, rest⟩ := hs
    exact ⟨⟨role, hr, same hx role hr link⟩, rest⟩
  cases x with
  | dark | opening => exact h
  | live | holding | fadingIn | fadingOut =>
    obtain ⟨shows, rest⟩ := h
    exact ⟨shown shows nofun, rest⟩

/-- A route that passes the NOT_DARK test still names the link that is shown. -/
theorem link_of_unchanged {r : Route} {c : Controller} (h : changesShown r c = false) (hx : c.state ≠ .dark)
    {role : Role} (hr : c.role = some role) : r.link role = c.route.link role := by
  unfold changesShown at h
  rw [bne_iff_ne.mpr hx, Bool.true_and, Bool.or_eq_false_iff, bne_eq_false_iff_eq, hr] at h
  obtain ⟨primary, backup⟩ := h
  cases role with
  | primary => exact primary
  | backup => simpa [Route.link] using backup

/-- After a pending route has come into force none is pending. -/
theorem applyRoute_ok {c : Controller} (h : c.ok) :
    c.applyRoute.route.ok ∧ c.applyRoute.pendingRoute = none ∧ c.applyRoute.fits c.applyRoute.state := by
  obtain ⟨⟨route, pending⟩, fits⟩ := (controller_ok_iff c).mp h
  unfold Controller.applyRoute
  split
  · next none => exact ⟨route, none, fits⟩
  · next r hr =>
    obtain ⟨ok, unchanged⟩ := pending r hr
    exact ⟨ok, rfl, fits.setRoute _ fun hx role hrole link => by rwa [link_of_unchanged unchanged hx hrole]⟩

theorem applyRoute_same (c : Controller) :
    c.applyRoute.held = c.held ∧ c.applyRoute.state = c.state ∧ c.applyRoute.douser = c.douser
      ∧ c.applyRoute.douserTimer = c.douserTimer := by
  unfold Controller.applyRoute
  split <;> exact ⟨rfl, rfl, rfl, rfl⟩

theorem applySelect_same (c : Controller) :
    c.applySelect.1.held = c.held ∧ c.applySelect.1.state = c.state ∧ c.applySelect.1.douser = c.douser
      ∧ c.applySelect.1.douserTimer = c.douserTimer ∧ c.applySelect.1.route = c.route
      ∧ c.applySelect.1.pendingRoute = c.pendingRoute := by
  unfold Controller.applySelect
  split
  · exact ⟨rfl, rfl, rfl, rfl, rfl, rfl⟩
  · split <;> exact ⟨rfl, rfl, rfl, rfl, rfl, rfl⟩

theorem Controller.fits.applySelect {c : Controller} (h : c.fits c.state) : c.applySelect.1.fits c.state := by
  unfold Controller.applySelect
  split
  · exact h
  · next role _ =>
    split
    · next named =>
      rw [Bool.and_eq_true] at named
      obtain ⟨showing, link⟩ := named
      have shown (hs : c.showsFrame) : Controller.showsFrame { c with pendingSelect := none, role := some role } := by
        obtain ⟨-, rest⟩ := hs
        exact ⟨⟨role, rfl, Option.isSome_iff_ne_none.mp link⟩, rest⟩
      cases hx : c.state with
      | dark | opening => rw [hx] at showing; cases showing
      | live | holding | fadingIn | fadingOut =>
        rw [hx] at h
        obtain ⟨shows, rest⟩ := h
        exact ⟨shown shows, rest⟩
    · exact (fits_pending c c.pendingRoute none _).mpr h

end Sys2Proof.Machine
end

section
/-!
PROOFS. The invariant of the outputs at a period start: the two controllers with their viewers, the release of slots, and
what follows it (R98, R101, R130, R139).
-/
namespace Sys2Proof.Machine

open Sys2Proof

/-! ### A controller at a start (R130) -/

theorem controllerAtStart_eq (o : Out) (s : State) :
    (controllerAtStart o s).1 =
      if s.part.state.inStandby || s.dome.isNone then (s.controllers.get o).applyRoute.applySelect.1
      else ((s.controllers.get o).applyRoute.applySelect.1.stateRule (startView o
        (s.controllers.get o).applyRoute.applySelect.2 (s.controllers.get o).applyRoute.applySelect.1.route s)).1 := by
  unfold controllerAtStart
  dsimp only
  split <;> rfl

theorem frames_startView (o : Out) (selected : Bool) (r : Route) (s : State) (l : Link) :
    (startView o selected r s).frames.get l = frameForD s l := by
  cases l <;> rfl

/-- The held slot after a start: as it was, none, or a frame for D. -/
def HeldAfter (s : State) (old new : Option SlotId) : Prop :=
  new = old ∨ new = none ∨ ∃ (i : SlotId) (f : Frame) (v : PerOut Bool), new = some i ∧ s.slot i = .complete f v

theorem controllerAtStart_ok {o : Out} {s : State} (ok : (s.controllers.get o).ok)
    (timer : (s.part.patterns.get o).isSome = true → (s.controllers.get o).douserTimer = none) :
    (controllerAtStart o s).1.ok ∧ HeldAfter s (s.controllers.get o).held (controllerAtStart o s).1.held
      ∧ ((s.part.patterns.get o).isSome = true → (controllerAtStart o s).1.douserTimer = none) := by
  obtain ⟨route, pending, fits⟩ := applyRoute_ok ok
  obtain ⟨held, state, -, douserTimer⟩ := applyRoute_same (s.controllers.get o)
  obtain ⟨held', state', -, douserTimer', route', pending'⟩ := applySelect_same (s.controllers.get o).applyRoute
  have fits' := fits.applySelect
  rw [← state'] at fits'
  have done {c : Controller} (range : c.route.ok) (none : c.pendingRoute = none) (h : c.fits c.state) : c.ok :=
    (controller_ok_iff c).mpr ⟨⟨range, fun r hr => by rw [none] at hr; cases hr⟩, h⟩
  rw [controllerAtStart_eq]
  split
  · refine ⟨done (by rwa [route']) (by rw [pending', pending]) fits', .inl (held'.trans held), fun on => ?_⟩
    rw [douserTimer', douserTimer, timer on]
  · have range : (s.controllers.get o).applyRoute.applySelect.1.route.ok := by rwa [route']
    obtain ⟨keeps, follows⟩ := follows_stateRule (startView o (s.controllers.get o).applyRoute.applySelect.2
      (s.controllers.get o).applyRoute.applySelect.1.route s) range fits'
    refine ⟨done (by rwa [keeps.route]) (by rw [keeps.pending, pending', pending]) follows, ?_, fun on => ?_⟩
    · obtain h | h | ⟨l, some, h⟩ := keeps.held
      · exact .inl (h.trans (held'.trans held))
      · exact .inr (.inl h)
      · obtain ⟨i, hi⟩ := Option.isSome_iff_exists.mp some
        rw [frames_startView, hi] at h
        obtain ⟨-, f, v, slot, -⟩ := frameForD_some h
        exact .inr (.inr ⟨i, f, v, hi, slot⟩)
    · exact keeps.timer on (by rw [douserTimer', douserTimer, timer on])

/-- While every slot is FREE, or in standby, a DARK output stays as it is. -/
theorem controllerAtStart_dark {o : Out} {s : State} (dark : (s.controllers.get o).isDark = true)
    (free : ∀ i : SlotId, (s.slot i).isFree = true) :
    (controllerAtStart o s).1.isDark = true ∧ (controllerAtStart o s).1.douser = (s.controllers.get o).douser := by
  obtain ⟨-, state, douser, -⟩ := applyRoute_same (s.controllers.get o)
  obtain ⟨-, state', douser', -⟩ := applySelect_same (s.controllers.get o).applyRoute
  have stays : (s.controllers.get o).applyRoute.applySelect.1.isDark = true := by
    rw [Controller.isDark, state', state]
    exact dark
  have noFrame (l : Link) : frameForD s l = none := by
    cases h : frameForD s l with
    | none => rfl
    | some i =>
      obtain ⟨-, f, v, slot, -⟩ := frameForD_some h
      have := free i
      rw [slot] at this
      cases this
  have noFrameOn (v : StartView) (hv : ∀ l : Link, v.frames.get l = none) (x : Option Link) : v.frameOn x = none := by
    cases x with
    | none => rfl
    | some l => exact hv l
  rw [controllerAtStart_eq]
  split
  · exact ⟨stays, douser'.trans douser⟩
  · have none (v : StartView) (hv : ∀ l : Link, v.frames.get l = none) (r : Route) : v.candidate r = none := by
      rw [StartView.candidate, noFrameOn v hv, noFrameOn v hv]
    have rule (v : StartView) (hv : ∀ l : Link, v.frames.get l = Option.none) :
        ((s.controllers.get o).applyRoute.applySelect.1.stateRule v).1
          = (s.controllers.get o).applyRoute.applySelect.1 := by
      rw [Controller.stateRule, beq_iff_eq.mp stays]
      dsimp only
      rw [Controller.darkRule, none v hv]
    rw [rule _ fun l => (frames_startView _ _ _ _ l).trans (noFrame l)]
    exact ⟨stays, douser'.trans douser⟩

/-! ### Viewers (R98, R101, R139) -/

theorem viewedBy_release (q : Out) (d : Option Period) (x : Slot) : (x.release d).viewedBy q = x.viewedBy q := by
  cases x with
  | free | filling _ => rfl
  | complete f v =>
    cases d with
    | none => rfl
    | some d =>
      rw [Slot.release]
      split
      · next h =>
        rw [Bool.and_eq_true, noViewers, Bool.and_eq_true, Bool.not_eq_true', Bool.not_eq_true'] at h
        obtain ⟨⟨a, b⟩, -⟩ := h
        cases q with
        | out0 => exact a.symm
        | out1 => exact b.symm
      · rfl

theorem viewedBy_leave (o q : Out) (d : Option Period) (x : Slot) :
    (x.leave o d).viewedBy q = (decide (q ≠ o) && x.viewedBy q) := by
  cases x with
  | free | filling _ => simp [Slot.leave, Slot.viewedBy]
  | complete f v =>
    rw [Slot.leave, viewedBy_release]
    by_cases hq : q = o
    · simp [Slot.viewedBy, hq]
    · simp [Slot.viewedBy, hq, PerOut.get_set_other _ _ hq]

theorem viewedBy_join {x : Slot} {f : Frame} {v : PerOut Bool} (h : x = .complete f v) (o q : Out) :
    (x.join o).viewedBy q = (decide (q = o) || x.viewedBy q) := by
  subst h
  rw [Slot.join]
  by_cases hq : q = o
  · simp [Slot.viewedBy, hq]
  · simp [Slot.viewedBy, hq, PerOut.get_set_other _ _ hq]

theorem moveViewer_same (o : Out) (x : Option SlotId) (s : State) : moveViewer o x x s = s := if_pos rfl

/-- The slots after a change of viewers. -/
theorem slot_moveViewer (o : Out) {old new : Option SlotId} (h : old ≠ new) (s : State) (i : SlotId) :
    (moveViewer o old new s).slot i =
      if new = some i then (s.slot i).join o else if old = some i then (s.slot i).leave o s.dome else s.slot i := by
  have left : ∀ j : SlotId, (match old with
      | none => s
      | some i => s.setSlot i ((s.slot i).leave o s.dome)).slot j =
      if old = some j then (s.slot j).leave o s.dome else s.slot j := by
    intro j
    cases old with
    | none => rfl
    | some k =>
      dsimp only
      by_cases hk : j = k
      · rw [hk, State.slot_setSlot_same, if_pos rfl]
      · rw [State.slot_setSlot_other _ _ hk, if_neg fun e => hk (Option.some.inj e).symm]
  unfold moveViewer
  rw [if_neg h]
  dsimp only
  cases new with
  | none =>
    rw [if_neg nofun]
    exact left i
  | some k =>
    dsimp only
    by_cases hk : i = k
    · subst hk
      rw [State.slot_setSlot_same, if_pos rfl]
      exact congrArg (Slot.join o) ((left i).trans (if_neg h))
    · rw [State.slot_setSlot_other _ _ hk, if_neg fun e => hk (Option.some.inj e).symm]
      exact left i

/-- An output that views exactly its held slot does so after the change; the other output views what it did. -/
theorem viewedBy_moveViewer {o : Out} {old new : Option SlotId} {s : State} (change : HeldAfter s old new)
    (views : ∀ i : SlotId, (s.slot i).viewedBy o = true ↔ old = some i) :
    (∀ i : SlotId, ((moveViewer o old new s).slot i).viewedBy o = true ↔ new = some i)
    ∧ ∀ q : Out, q ≠ o → ∀ i : SlotId, ((moveViewer o old new s).slot i).viewedBy q = (s.slot i).viewedBy q := by
  by_cases h : old = new
  · subst h
    rw [moveViewer_same]
    exact ⟨views, fun _ _ _ => rfl⟩
  have complete {i : SlotId} (hi : new = some i) : ∃ f v, s.slot i = .complete f v := by
    obtain same | none | ⟨j, f, v, hj, slot⟩ := change
    · exact absurd same.symm h
    · cases none.symm.trans hi
    · cases hj.symm.trans hi
      exact ⟨f, v, slot⟩
  constructor
  · intro i
    rw [slot_moveViewer o h]
    split
    · next hi =>
      obtain ⟨f, v, slot⟩ := complete hi
      rw [viewedBy_join slot]
      simp [hi]
    · next hi =>
      split
      · rw [viewedBy_leave]
        simp [hi]
      · next ho => exact ⟨fun viewed => absurd ((views i).mp viewed) ho, fun e => absurd e hi⟩
  · intro q hq i
    rw [slot_moveViewer o h]
    split
    · next hi =>
      obtain ⟨f, v, slot⟩ := complete hi
      rw [viewedBy_join slot]
      simp [hq]
    · split
      · rw [viewedBy_leave]
        simp [hq]
      · rfl

/-! ### The work of one controller -/

theorem slot_controllerWork (o : Out) (s : State) (i : SlotId) :
    (controllerWork o s).slot i =
      (moveViewer o (s.controllers.get o).held (controllerAtStart o s).1.held s).slot i := by
  have same {u : State} (dome : u.dome = s.dome) (store : u.store = s.store) (old new : Option SlotId) :
      (moveViewer o old new u).slot i = (moveViewer o old new s).slot i := by
    by_cases h : old = new
    · rw [h, moveViewer_same, moveViewer_same]
      exact slot_of_store store i
    · rw [slot_moveViewer o h, slot_moveViewer o h, dome, slot_of_store store]
  unfold controllerWork
  refine same ?_ ?_ _ _
  · rw [State.dome, raiseIf_clock]
    rfl
  · rw [raiseIf_store]
    rfl

theorem free_of_remain {s s' : State} (h : Remain s s') {i : SlotId} (free : (s.slot i).isFree = true) :
    (s'.slot i).isFree = true := by
  have remains := h.slots i
  cases hx : s.slot i with
  | free => rw [hx] at remains; rw [show s'.slot i = .free from remains]; rfl
  | filling _ | complete _ _ => rw [hx] at free; cases free

theorem Ordered.controllerWork {s : State} (hs : Ordered s) (o : Out) : Ordered (controllerWork o s) := by
  have written := controllerWork_eq o s
  have part : (Machine.controllerWork o s).part = s.part := by rw [written]
  have controllers : (Machine.controllerWork o s).controllers = s.controllers.set o (controllerAtStart o s).1 := by
    rw [written]
  obtain ⟨ok, timer, views⟩ := hs.outputs o
  obtain ⟨ok', change, timer'⟩ := controllerAtStart_ok ok timer
  obtain ⟨own, other⟩ := viewedBy_moveViewer change views
  refine ⟨by rw [part]; exact hs.delay, fun notReady => ?_, fun hi => ?_, fun hi => ?_, fun q => ?_⟩
  · rw [part] at notReady
    obtain ⟨outputs, slots⟩ := hs.dark notReady
    refine ⟨?_, fun i => free_of_remain (remain_controllerWork o s) (slots i)⟩
    rw [controllers, part]
    obtain ⟨isDark, douser, pattern⟩ := outputs o
    obtain ⟨isDark', douser'⟩ := controllerAtStart_dark isDark slots
    exact PerOut.forall_set (P := fun q (c : Controller) => c.isDark = true ∧ c.douser = true
      ∧ s.part.patterns.get q = none) ⟨isDark', douser'.trans douser, pattern⟩ outputs
  · rw [part] at hi
    rw [written]
    exact hs.held hi
  · rw [part] at hi ⊢
    exact hs.service hi
  · unfold OutputOk
    simp only [slot_controllerWork]
    rw [controllers, part]
    by_cases hq : q = o
    · subst hq
      rw [PerOut.get_set_same]
      exact ⟨ok', timer', own⟩
    · rw [PerOut.get_set_other _ _ hq]
      obtain ⟨okq, timerq, viewsq⟩ := hs.outputs q
      refine ⟨okq, timerq, fun i => ?_⟩
      rw [other q hq]
      exact viewsq i

/-! ### The start as a whole (R60) -/

theorem moves_testFilling (l : Link) (s : State) : Moves s (testFilling l s) := by
  unfold testFilling
  split
  · split
    · split_ifs
      · exact moves_dropFilling l _ s
      · exact moves_dropFilling l _ s
      · exact .refl s
    · exact .refl s
  · exact .refl s

theorem moves_releaseWork (s : State) : Moves s (releaseWork s) := by
  have released : Moves s (completeReleased s) := by
    refine .of_part rfl rfl (fun i o => ?_) (fun _ _ i free => free_of_remain (remain_completeReleased s) free) id
    rw [slot_completeReleased, viewedBy_release]
  exact (released.trans (moves_testFilling .a _)).trans (moves_testFilling .b _)

theorem moves_sendReturnFrames (s : State) : Moves s (sendReturnFrames s) := by
  refine .of_part rfl rfl (fun _ _ => rfl) (fun _ _ _ => id) fun held hi l => ?_
  obtain ⟨commands, state, frame⟩ := held hi l
  cases l <;> exact ⟨commands, state, frame⟩

theorem Ordered.of_clockSet {before s : State} (hs : Ordered before) (set : ClockSet before s) : Ordered s := by
  obtain ⟨store, ports, controllers, part, commands, -⟩ := set
  refine ⟨by rw [part]; exact hs.delay, fun notReady => ?_, fun hi l => ?_, fun hi => ?_, fun o => ?_⟩
  · rw [part] at notReady
    obtain ⟨outputs, slots⟩ := hs.dark notReady
    refine ⟨fun o => ?_, fun i => ?_⟩
    · rw [controllers, part]
      exact outputs o
    · rw [slot_of_store store]
      exact slots i
  · rw [part] at hi
    rw [commands, ports]
    exact hs.held hi l
  · rw [part] at hi ⊢
    exact hs.service hi
  · exact (hs.outputs o).congr (by rw [controllers]) (by rw [part]) fun i => by rw [slot_of_store store]

theorem Ordered.periodStart {s : State} (hs : Ordered s) (before : State) : Ordered (periodStart before s) := by
  have scheduled : Untouched s (schedulerWork (verificationsAtStart s)) := by
    rw [schedulerWork_part, verificationsAtStart_eq]
    exact .of_outward rfl fun _ => rfl
  have worked := ((hs.of_untouched scheduled).controllerWork .out0).controllerWork .out1
  have released := worked.of_moves (moves_releaseWork _)
  have begun {u : State} : Untouched u (beginRasters (applyFormats u)) := .of_outward rfl fun _ => rfl
  have latched : Ordered (Machine.latchEdges before (startWork s)) :=
    Ordered.of_untouched (released.of_untouched begun) (untouched_latchEdges before _)
  exact latched.of_moves (moves_sendReturnFrames _)

theorem OutputsOk.periodStart {before s : State} (hs : OutputsOk before) (set : ClockSet before s) :
    OutputsOk (periodStart before s) := by
  obtain ⟨-, -, part, -, -, -, -, -, ports⟩ := frame_of_startPart (periodStart_part before s)
  refine (outputsOk_iff _).mpr ⟨(hs.ordered.of_clockSet set).periodStart before, ?_⟩
  refine hs.idleOk.congr (part.trans set.part) fun l => ?_
  rw [ports l, set.ports]

end Sys2Proof.Machine
end

section
/-!
PROOFS. A DARK output with its request released keeps a douser timer or a pattern; and every step keeps the outputs.
-/
namespace Sys2Proof.Machine

open Sys2Proof

/-! ### What the claim reads (R142, R144) -/

/-- The controller of an output and its pattern. -/
def State.douserView (s : State) : PerOut Controller × PerOut (Option Pattern) := (s.controllers, s.part.patterns)

/-- The claim for one output: its request asserted, its state not DARK, its douser timer running, or a pattern on it. -/
def timedView (c : Controller) (pattern : Bool) : Prop :=
  c.state = .dark → c.douser = false → c.douserTimer.isSome = true ∨ pattern = true

theorem douserTimed_iff (s : State) (o : Out) :
    DouserTimed s o ↔ timedView (s.controllers.get o) (s.part.patterns.get o).isSome := Iff.rfl

theorem DouserTimed.of_view {s s' : State} {o : Out} (hs : DouserTimed s o) (h : s'.douserView = s.douserView) :
    DouserTimed s' o := by
  simp only [State.douserView, Prod.mk.injEq] at h
  obtain ⟨controllers, patterns⟩ := h
  unfold DouserTimed
  rw [controllers, patterns]
  exact hs

theorem douserTimed_reads (o : Out) : ReadsOutward fun s => DouserTimed s o := fun h hs =>
  hs.of_view (by rw [State.douserView, h.controllers, h.patterns]; rfl)

theorem timedView.congr {c c' : Controller} {pattern : Bool} (h : timedView c pattern) (state : c'.state = c.state)
    (douser : c'.douser = c.douser) (timer : c'.douserTimer = c.douserTimer) : timedView c' pattern := by
  unfold timedView
  rw [state, douser, timer]
  exact h

theorem timedView_of_state {c : Controller} (h : c.state ≠ .dark) (pattern : Bool) : timedView c pattern :=
  fun dark => absurd dark h

theorem timedView_in {c : Controller} (x : OutputState) (h : c.state = x) (hx : x ≠ .dark) (pattern : Bool) :
    timedView c pattern :=
  timedView_of_state (h ▸ hx) pattern

theorem timedView_of_asserted {c : Controller} (h : c.douser = true) (pattern : Bool) : timedView c pattern :=
  fun _ released => by rw [h] at released; cases released

/-- A douser timer that starts with a delay of 0 asserts the request at once. -/
theorem timedView_startDouserTimer (c : Controller) (now : Nat) (pattern : Bool) :
    timedView (c.startDouserTimer now) pattern := by
  unfold Controller.startDouserTimer
  split
  · exact timedView_of_asserted rfl pattern
  · exact fun _ _ => .inl rfl

/-! ### Period starts (R131 to R142) -/

theorem timedView_enterDark (v : StartView) (c : Controller) : timedView (c.enterDark v) v.patternOn := by
  unfold Controller.enterDark
  dsimp only
  split
  · next on => exact fun _ _ => .inr on
  · exact timedView_startDouserTimer _ _ _

theorem timedView_fadeDown (v : StartView) (c : Controller) : timedView (c.fadeDown v) v.patternOn := by
  unfold Controller.fadeDown
  dsimp only
  split
  · exact timedView_enterDark v c
  · exact timedView_in .fadingOut rfl nofun _

theorem beginShowing_state (c : Controller) (role : Role) (i : SlotId) : (c.beginShowing role i).state ≠ .dark := by
  unfold Controller.beginShowing
  dsimp only
  split <;> nofun

theorem fadeUp_state (c : Controller) : c.fadeUp.state ≠ .dark := by
  unfold Controller.fadeUp
  dsimp only
  split <;> nofun

/-- A starved step leaves the state of the output, or fades it down. -/
def StarvedEnd.Timed (v : StartView) (c : Controller) : StarvedEnd → Prop
  | .failedOver c' | .hold c' => c'.state = c.state
  | .limit c' => timedView c' v.patternOn

theorem starve_timed (v : StartView) (role : Role) (c : Controller) : (c.starve v role).Timed v c := by
  unfold Controller.starve
  dsimp only
  split
  · split_ifs
    · rfl
    · exact timedView_fadeDown v _
    · rfl
  · split_ifs
    · exact timedView_fadeDown v _
    · rfl

theorem timedView_stateRule (v : StartView) {c : Controller} (h : timedView c v.patternOn) :
    timedView (c.stateRule v).1 v.patternOn := by
  have starve (role : Role) := starve_timed v role c
  unfold Controller.stateRule
  split
  · unfold Controller.darkRule
    split
    · exact h
    · split
      · exact timedView_in .opening rfl nofun _
      · exact timedView_of_state (beginShowing_state _ _ _) _
  · unfold Controller.openingRule
    split
    · split
      · exact timedView_enterDark v c
      · exact timedView_of_state (beginShowing_state _ _ _) _
    all_goals exact h
  · next role live _ =>
    have kept {c' : Controller} (state : c'.state = c.state) : timedView c' v.patternOn :=
      timedView_of_state (by rw [state, live]; nofun) _
    unfold Controller.liveRule
    split
    · exact kept rfl
    · split
      · exact kept rfl
      · split
        · next he => exact kept (by have := starve role; rwa [he] at this)
        · next he => have := starve role; rwa [he] at this
        · exact timedView_in .holding rfl nofun _
  · next role holding _ =>
    unfold Controller.holdingRule
    split
    · exact timedView_in .live rfl nofun _
    · split
      · exact timedView_in .live rfl nofun _
      · next he => have := starve role; rwa [he] at this
      · next c' he =>
        have state : c'.state = c.state := by have := starve role; rwa [he] at this
        exact timedView_of_state (by rw [state, holding]; nofun) _
  · next role _ _ =>
    unfold Controller.fadingInRule
    split
    · exact timedView_of_state (fadeUp_state _) _
    · split
      · exact timedView_of_state (fadeUp_state _) _
      · next he => have := starve role; rwa [he] at this
      · refine timedView_of_state ?_ _
        dsimp only
        split <;> nofun
  · unfold Controller.fadingOutRule
    split
    · exact timedView_of_state (fadeUp_state _) _
    · exact timedView_fadeDown v c
  · exact h

theorem timedView_controllerAtStart {o : Out} {s : State} (h : DouserTimed s o) :
    timedView (controllerAtStart o s).1 (s.part.patterns.get o).isSome := by
  obtain ⟨-, state, douser, timer⟩ := applyRoute_same (s.controllers.get o)
  obtain ⟨-, state', douser', timer', -, -⟩ := applySelect_same (s.controllers.get o).applyRoute
  have applied := ((douserTimed_iff s o).mp h).congr (state'.trans state) (douser'.trans douser) (timer'.trans timer)
  rw [controllerAtStart_eq]
  split
  · exact applied
  · exact timedView_stateRule (startView o _ _ s) applied

theorem DouserTimed.periodStart {before s : State} {o : Out} (hs : DouserTimed before o) (set : ClockSet before s) :
    DouserTimed (periodStart before s) o := by
  obtain ⟨-, -, part, -⟩ := frame_of_startPart (periodStart_part before s)
  have found : DouserTimed s o := hs.of_view (by rw [State.douserView, set.controllers, set.part]; rfl)
  rw [douserTimed_iff, controllers_periodStart, controllerLeft_eq, part]
  exact timedView_controllerAtStart found

/-! ### Controllers and patterns written -/

theorem DouserTimed.setController {s : State} {o : Out} (hs : DouserTimed s o) (q : Out) {c : Controller}
    (h : q = o → timedView c (s.part.patterns.get o).isSome) : DouserTimed (s.setController q c) o := by
  rw [douserTimed_iff]
  by_cases hq : o = q
  · subst hq
    rw [State.setController, PerOut.get_set_same]
    exact h rfl
  · rw [State.setController, PerOut.get_set_other _ _ hq]
    exact hs

theorem DouserTimed.mapWhere {s : State} {o : Out} (hs : DouserTimed s o) (m : Mask) {f : Controller → Controller}
    (same : ∀ c : Controller, (f c).state = c.state ∧ (f c).douser = c.douser ∧ (f c).douserTimer = c.douserTimer) :
    DouserTimed { s with controllers := s.controllers.mapWhere m f } o := by
  rw [douserTimed_iff, PerOut.get_mapWhere]
  split
  · obtain ⟨state, douser, timer⟩ := same (s.controllers.get o)
    exact ((douserTimed_iff s o).mp hs).congr state douser timer
  · exact hs

theorem DouserTimed.startPattern {s : State} {o : Out} (hs : DouserTimed s o) (pat : Pattern) (q : Out) :
    DouserTimed (startPattern pat q s) o := by
  have set : DouserTimed { s with part := { s.part with patterns := s.part.patterns.set q (some pat) } } o := by
    rw [douserTimed_iff]
    dsimp only
    by_cases hq : o = q
    · rw [hq, PerOut.get_set_same]
      exact fun _ _ => .inr rfl
    · rw [PerOut.get_set_other _ _ hq]
      exact hs
  unfold Machine.startPattern
  dsimp only
  split
  · exact set
  · refine set.setController q fun hq => ?_
    rw [hq, PerOut.get_set_same]
    exact fun _ _ => .inr rfl

theorem DouserTimed.endPattern {s : State} {o : Out} (hs : DouserTimed s o) (q : Out) :
    DouserTimed (endPattern q s) o := by
  unfold Machine.endPattern
  split
  · exact hs
  · dsimp only
    by_cases hq : o = q
    · subst hq
      rw [douserTimed_iff]
      split
      · rw [State.setController, PerOut.get_set_same]
        exact timedView_startDouserTimer _ _ _
      · next h =>
        refine fun dark released => absurd ?_ h
        rw [Controller.isDark, dark, released]
        rfl
    · have kept : DouserTimed { s with part := { s.part with patterns := s.part.patterns.set q none } } o := by
        rw [douserTimed_iff]
        dsimp only
        rw [PerOut.get_set_other _ _ hq]
        exact hs
      split
      · exact kept.setController q fun e => absurd e.symm hq
      · exact kept

theorem DouserTimed.forOutputs {f : Out → State → State} {m : Mask} {s : State} {o : Out} (hs : DouserTimed s o)
    (hf : ∀ (q : Out) {u : State}, DouserTimed u o → DouserTimed (f q u) o) : DouserTimed (forOutputs m f s) o := by
  unfold Machine.forOutputs
  split_ifs
  · exact hf _ (hf _ hs)
  · exact hf _ hs
  · exact hf _ hs
  · exact hs

theorem douserTimed_standbyEntry (kind : StandbyKind) (s : State) (o : Out) : DouserTimed (standbyEntry kind s) o := by
  have dark : DouserTimed (s.darkened kind) o := by
    rw [douserTimed_iff, State.darkened, PerOut.get_map]
    exact timedView_of_asserted rfl _
  rw [standbyEntry_eq]
  exact douserTimed_reads o (untouched_raiseIf _ _ _) (douserTimed_reads o (untouched_raiseIf _ _ _) dark)

/-! ### The owners of commands -/

section
variable {s : State} {o : Out}

theorem routeOwner_timed (l : Link) (p : Packet) (hs : DouserTimed s o) :
    (routeOwner l p s).Has fun s => DouserTimed s o := by
  unfold routeOwner
  split
  · trivial
  · split_ifs
    · trivial
    · trivial
    · exact hs.mapWhere p.outputs fun _ => ⟨rfl, rfl, rfl⟩

theorem selectOwner_timed (l : Link) (p : Packet) (hs : DouserTimed s o) :
    (selectOwner l p s).Has fun s => DouserTimed s o := by
  unfold selectOwner
  split
  · trivial
  · split_ifs
    · trivial
    · trivial
    · trivial
    · exact hs.mapWhere p.outputs fun _ => ⟨rfl, rfl, rfl⟩

theorem patternOwner_timed (l : Link) (p : Packet) (hs : DouserTimed s o) :
    (patternOwner l p s).Has fun s => DouserTimed s o := by
  unfold patternOwner
  dsimp only
  split
  · trivial
  · split_ifs
    · trivial
    · trivial
    · trivial
    · trivial
    · exact hs.forOutputs fun q _ hu => hu.startPattern _ q

theorem standbyEnterOwner_timed (l : Link) (p : Packet) (hs : DouserTimed s o) :
    (standbyEnterOwner l p s).Has fun s => DouserTimed s o := by
  unfold standbyEnterOwner
  split_ifs
  · trivial
  · split
    · exact hs
    · exact hs
    · exact douserTimed_standbyEntry _ s o
    · exact douserTimed_standbyEntry _ s o
    · exact hs

theorem wakeFromStandby_view (s : State) : (wakeFromStandby s).douserView = s.douserView := by
  unfold wakeFromStandby
  split <;> rfl

theorem standbyExitOwner_timed (l : Link) (p : Packet) (hs : DouserTimed s o) :
    (standbyExitOwner l p s).Has fun s => DouserTimed s o := by
  unfold standbyExitOwner
  split_ifs
  · trivial
  · exact hs.of_view (wakeFromStandby_view s)

theorem standbyDelayOwner_timed (l : Link) (p : Packet) (hs : DouserTimed s o) :
    (standbyDelayOwner l p s).Has fun s => DouserTimed s o := by
  unfold standbyDelayOwner
  dsimp only
  split_ifs
  · trivial
  · trivial
  · exact hs

/-! ### Timers and resets -/

theorem execDouserTimerExpiry_timed (q : Out) (hs : DouserTimed s o) :
    Answers (fun s => DouserTimed s o) (execDouserTimerExpiry q s) := by
  unfold execDouserTimerExpiry
  dsimp only
  split
  · exact hs
  · next e _ =>
    exact DouserTimed.setController (s := s.advance e) hs q fun _ => timedView_of_asserted rfl _

theorem execOpenTimerExpiry_timed (q : Out) (hs : DouserTimed s o) :
    Answers (fun s => DouserTimed s o) (execOpenTimerExpiry q s) := by
  unfold execOpenTimerExpiry
  dsimp only
  split
  · next e _ =>
    refine DouserTimed.setController (s := s.advance e) hs q fun hq => ?_
    rw [hq]
    exact ((douserTimed_iff s o).mp hs).congr rfl rfl rfl
  all_goals exact hs

theorem execIdleTimerExpiry_timed (hs : DouserTimed s o) :
    Answers (fun s => DouserTimed s o) (execIdleTimerExpiry s) := by
  unfold execIdleTimerExpiry
  split
  · exact hs
  · next e _ =>
    exact douserTimed_reads o (untouched_latchEdges _ _) (douserTimed_standbyEntry _ (s.advance e) o)

theorem execWakingTimerExpiry_timed (hs : DouserTimed s o) :
    Answers (fun s => DouserTimed s o) (execWakingTimerExpiry s) := by
  unfold execWakingTimerExpiry
  split <;> exact hs

theorem execPatternExpiry_timed (q : Out) (hs : DouserTimed s o) :
    Answers (fun s => DouserTimed s o) (execPatternExpiry q s) := by
  unfold execPatternExpiry
  split
  · exact hs
  · next p _ =>
    exact douserTimed_reads o (untouched_latchEdges _ _) (DouserTimed.endPattern (s := s.advance p.expires) hs q)

theorem decodeGroup_view (count : Nat) (s : State) : (decodeGroup count s).douserView = s.douserView := by
  unfold decodeGroup
  split
  · unfold overrideDark
    dsimp only
    split <;> rfl
  · exact wakeFromStandby_view _
  · rfl
  · rfl

theorem execGroupTimerExpiry_timed (hs : DouserTimed s o) :
    Answers (fun s => DouserTimed s o) (execGroupTimerExpiry s) := by
  unfold execGroupTimerExpiry
  split
  · exact hs
  · exact hs.of_view (decodeGroup_view _ _)

theorem execOverrideTimerExpiry_timed (hs : DouserTimed s o) :
    Answers (fun s => DouserTimed s o) (execOverrideTimerExpiry s) := by
  unfold execOverrideTimerExpiry
  split <;> exact hs

theorem enableReceiver_view (l : Link) (s : State) : (enableReceiver l s).douserView = s.douserView := by
  unfold enableReceiver
  split <;> rfl

theorem execInitialisationEnd_timed (t : Nat) (hs : DouserTimed s o) :
    Answers (fun s => DouserTimed s o) (execInitialisationEnd t s) := by
  unfold execInitialisationEnd
  dsimp only
  split
  · exact hs.of_view ((enableReceiver_view .b _).trans (enableReceiver_view .a _))
  · exact hs

theorem douserTimed_powerOnReset (s : State) (o : Out) : DouserTimed (powerOnReset s) o := by
  cases o <;> exact timedView_of_asserted rfl _

theorem douserTimed_pinReset (s : State) (o : Out) : DouserTimed (pinReset s) o := by
  rw [douserTimed_iff]
  refine timedView_of_asserted ?_ _
  rw [show (pinReset s).controllers.get o = (s.controllers.get o).pinReset from PerOut.get_map _ _ o]
  rfl

end

/-! ### Every step -/

theorem exec_douserTimed {c : Instr} (h : passesBy c = false) (soft : ∀ t : Nat, c ≠ .softReset t) {s : State} {o : Out}
    (hs : DouserTimed s o) : Answers (fun s => DouserTimed s o) (exec c s) := by
  have reads : ReadsOutward fun s => DouserTimed s o := douserTimed_reads o
  have moved (u : State) (h : LinkMoves s u) : DouserTimed u o :=
    hs.of_view (by rw [State.douserView, h.moves.controllers, h.moves.patterns]; rfl)
  cases c with
  | route t => exact takeOwned_keeps reads (fun l p _ h _ => routeOwner_timed l p h) hs t
  | select t => exact takeOwned_keeps reads (fun l p _ h _ => selectOwner_timed l p h) hs t
  | pattern t => exact takeOwned_keeps reads (fun l p _ h _ => patternOwner_timed l p h) hs t
  | patternEnd t =>
    exact takeOwned_keeps (owner := patternEndOwner) reads
      (fun _ _ _ h _ => h.forOutputs fun q _ hu => hu.endPattern q) hs t
  | standbyEnter t => exact takeOwned_keeps reads (fun l p _ h _ => standbyEnterOwner_timed l p h) hs t
  | standbyExit t => exact takeOwned_keeps reads (fun l p _ h _ => standbyExitOwner_timed l p h) hs t
  | standbyDelay t => exact takeOwned_keeps reads (fun l p _ h _ => standbyDelayOwner_timed l p h) hs t
  | softReset t => exact absurd rfl (soft t)
  | powerOnReset t => exact douserTimed_powerOnReset _ o
  | resetPin t => exact douserTimed_pinReset _ o
  | initialisationEnd t => exact execInitialisationEnd_timed t hs
  | syncWord t cells => exact execSyncWord_keeps reads DouserTimed.periodStart t cells hs
  | generatorStart => exact execGeneratorStart_keeps reads DouserTimed.periodStart hs
  | trackingWindowClose => exact execTrackingWindowClose_keeps reads DouserTimed.periodStart hs
  | douserTimerExpiry q => exact execDouserTimerExpiry_timed q hs
  | openTimerExpiry q => exact execOpenTimerExpiry_timed q hs
  | idleTimerExpiry => exact execIdleTimerExpiry_timed hs
  | wakingTimerExpiry => exact execWakingTimerExpiry_timed hs
  | patternExpiry q => exact execPatternExpiry_timed q hs
  | groupTimerExpiry => exact execGroupTimerExpiry_timed hs
  | overrideTimerExpiry => exact execOverrideTimerExpiry_timed hs
  | signalPresent _ _ | signalAbsent _ _ | signalLost _ | frameDelimiter _ _ | frameHeader _ _ _ | pixelLine _ _ _
  | managementPacket _ _ _ | linkAcquisitionTimeout _ | lossLimitExpiry _ | quietTimerExpiry _ => exact exec_linkRow rfl moved
  | tableOpen _ | tableData _ | tableClose _ | tableDiscard _ | swap _ | gain _ | cueAdd _ | cueCancel _ | cueFlush _
  | report _ | configLock _ | configUnlock _ | setOutput _ | flagsArm _ | flagsClear _ | status _ | unknownCommand _
  | verificationEnd _ _ _ | resetRelease _ | syncAcquisitionTimeout | serviceTakenFall _ | serviceTakenRise _ => cases h

theorem exec_outputsOk {c : Instr} (h : passesBy c = false) {s : State} (hs : OutputsOk s) :
    Answers OutputsOk (exec c s) := by
  have moved (u : State) (h : LinkMoves s u) : OutputsOk u := hs.of_linkMoves h
  have reads : ReadsOutward OutputsOk := outputsOk_reads
  cases c with
  | route t => exact takeOwned_keeps reads (fun l p _ h _ => routeOwner_outputsOk l p h) hs t
  | select t => exact takeOwned_keeps reads (fun l p _ h _ => selectOwner_outputsOk l p h) hs t
  | pattern t => exact takeOwned_keeps reads (fun l p _ h running => patternOwner_outputsOk l p h running) hs t
  | patternEnd t =>
    exact takeOwned_keeps (owner := patternEndOwner) reads
      (fun _ _ _ h _ => h.forOutputs fun q _ hu => hu.endPattern q) hs t
  | standbyEnter t => exact takeOwned_keeps reads (fun l p _ h _ => standbyEnterOwner_outputsOk l p h) hs t
  | standbyExit t => exact takeOwned_keeps reads (fun l p _ h _ => standbyExitOwner_outputsOk l p h) hs t
  | standbyDelay t => exact takeOwned_keeps reads (fun l p _ h _ => standbyDelayOwner_outputsOk l p h) hs t
  | softReset t => exact execSoftReset_outputsOk t hs
  | powerOnReset t => exact outputsOk_powerOnReset _
  | resetPin t => exact outputsOk_pinReset (hs.advance t)
  | initialisationEnd t => exact execInitialisationEnd_outputsOk t hs
  | syncWord t cells => exact execSyncWord_keeps reads OutputsOk.periodStart t cells hs
  | generatorStart => exact execGeneratorStart_keeps reads OutputsOk.periodStart hs
  | trackingWindowClose => exact execTrackingWindowClose_keeps reads OutputsOk.periodStart hs
  | douserTimerExpiry o => exact execDouserTimerExpiry_outputsOk o hs
  | openTimerExpiry o => exact execOpenTimerExpiry_outputsOk o hs
  | idleTimerExpiry => exact execIdleTimerExpiry_outputsOk hs
  | wakingTimerExpiry => exact execWakingTimerExpiry_outputsOk hs
  | patternExpiry o => exact execPatternExpiry_outputsOk o hs
  | groupTimerExpiry => exact execGroupTimerExpiry_outputsOk hs
  | overrideTimerExpiry => exact execOverrideTimerExpiry_outputsOk hs
  | signalPresent _ _ | signalAbsent _ _ | signalLost _ | frameDelimiter _ _ | frameHeader _ _ _ | pixelLine _ _ _
  | managementPacket _ _ _ | linkAcquisitionTimeout _ | lossLimitExpiry _ | quietTimerExpiry _ => exact exec_linkRow rfl moved
  | tableOpen _ | tableData _ | tableClose _ | tableDiscard _ | swap _ | gain _ | cueAdd _ | cueCancel _ | cueFlush _
  | report _ | configLock _ | configUnlock _ | setOutput _ | flagsArm _ | flagsClear _ | status _ | unknownCommand _
  | verificationEnd _ _ _ | resetRelease _ | syncAcquisitionTimeout | serviceTakenFall _ | serviceTakenRise _ => cases h

/-- Settles O60: link events leave the controllers and the viewers, a period start applies the rule of each output's
state and moves its viewer, and the other rows write the records of one output or of the whole part. -/
theorem stepKeepsOutputs : Obligations.StepKeepsOutputs := by
  unfold Obligations.StepKeepsOutputs
  refine ⟨fun s s' hs h => ?_, fun s s' o hs soft h => ?_⟩
  · exact step_keeps outputsOk_reads hs (fun c _ hc s1 h1 => exec_outputsOk hc h1) h
  · refine step_keeps (douserTimed_reads o) hs (fun c front hc s1 h1 => ?_) h
    exact exec_douserTimed hc (fun t ht => soft t (ht ▸ front)) h1

end Sys2Proof.Machine
end

section
/-!
PROOFS. Good headers that do not lock the link: the port counts them, and every level stays.
-/
namespace Sys2Proof.Machine

open Sys2Proof

/-- The port with a good header counted: its link state is `x`, and the frame of the header is discarded. -/
def Port.headerCounted (p : Port) (h : Header) (x : LinkState) : Port :=
  { p with state := x, previous := some h.target, frame := .body ⟨h, 0, false, 0, [], !p.signal⟩ }

theorem beginBody_setLinkState (l : Link) (h : Header) (x : LinkState) (s : State) :
    (beginBody l h false s).setLinkState l x = s.setPort l ((s.ports.get l).headerCounted h x) := by
  rw [beginBody, State.setLinkState, State.get_setPort, State.setPort_setPort]
  rfl

/-! ### The count in each link state (R110, R111, R115) -/

theorem goodHeader_seeking {s : State} {l : Link} {e : Nat} (hx : (s.ports.get l).state = .seeking e) (h : Header) :
    goodHeader l h s = s.setPort l ((s.ports.get l).headerCounted h (.aligned e 1)) := by
  simp only [goodHeader, hx, beginBody_setLinkState]

theorem goodHeader_aligned_rising {s : State} {l : Link} {h : Header} {e good : Nat}
    (hx : (s.ports.get l).state = .aligned e good) (few : good < 3) (hr : (s.ports.get l).rising h.target = true) :
    goodHeader l h s = s.setPort l ((s.ports.get l).headerCounted h (.aligned e (good + 1))) := by
  have below : good + 1 < 4 := Nat.succ_lt_succ few
  simp only [goodHeader, hx, hr, if_true, if_pos below, beginBody_setLinkState]

theorem goodHeader_aligned_falling {s : State} {l : Link} {h : Header} {e good : Nat}
    (hx : (s.ports.get l).state = .aligned e good) (hr : ¬(s.ports.get l).rising h.target = true) :
    goodHeader l h s = s.setPort l ((s.ports.get l).headerCounted h (.aligned e 1)) := by
  simp only [goodHeader, hx, if_neg hr, beginBody_setLinkState]

theorem goodHeader_holdover_rising {s : State} {l : Link} {h : Header} {e good : Nat}
    (hx : (s.ports.get l).state = .holdover e good) (some_before : good ≠ 0) (few : good < 3)
    (hr : (s.ports.get l).rising h.target = true) :
    goodHeader l h s = s.setPort l ((s.ports.get l).headerCounted h (.holdover e (good + 1))) := by
  have below : good + 1 < 4 := Nat.succ_lt_succ few
  have counts : good ≠ 0 ∧ (s.ports.get l).rising h.target = true := ⟨some_before, hr⟩
  simp only [goodHeader, hx, if_pos counts, if_pos below, beginBody_setLinkState]

theorem goodHeader_holdover_first {s : State} {l : Link} {h : Header} {e good : Nat}
    (hx : (s.ports.get l).state = .holdover e good) (first : good = 0 ∨ ¬(s.ports.get l).rising h.target = true) :
    goodHeader l h s = s.setPort l ((s.ports.get l).headerCounted h (.holdover e 1)) := by
  have restarts : ¬(good ≠ 0 ∧ (s.ports.get l).rising h.target = true) := fun ⟨counted, rises⟩ =>
    first.elim counted (absurd rises)
  simp only [goodHeader, hx, if_neg restarts, beginBody_setLinkState]

/-! ### The event -/

/-- A link that is LOCKED neither before nor after a good header makes no edge. -/
theorem exec_frameHeader_counted {s : State} {l : Link} {t : Nat} {bytes : BitVec 96} {h : Header} {x : LinkState}
    (hb : h.carriedBy bytes) (ha : awaitsHeader (s.ports.get l) (max s.now t))
    (hj : (s.ports.get l).state.judges = true) (before : (s.ports.get l).state.isLocked = false)
    (after : x.isLocked = false)
    (counted : goodHeader l h (s.advance t) = (s.advance t).setPort l ((s.ports.get l).headerCounted h x)) :
    exec (.frameHeader t l bytes) s =
      .next (keepIdleTimer ((s.advance t).setPort l ((s.ports.get l).headerCounted h x))) := by
  have unlocked : levels ((s.advance t).setPort l ((s.ports.get l).headerCounted h x)) = levels s :=
    levels_setPort (s := s.advance t) (after.trans before.symm)
  rw [exec_frameHeader_good hb hj ha, counted,
    latchEdges_of_levels_eq ((levels_keepIdleTimer _).trans unlocked).symm]

/-- Settles O45: the count that a good header leaves in SEEKING, and a rising and a falling one in ALIGNED and in
HOLDOVER. -/
theorem goodHeadersAlignALink : Obligations.GoodHeadersAlignALink := by
  unfold Obligations.GoodHeadersAlignALink
  intro s t l bytes h hb ha p rises counted
  have rising : rises → p.rising h.target = true := (rising_iff p h.target).mpr
  have falling : ¬rises → ¬p.rising h.target = true := mt (rising_iff p h.target).mp
  have counted_of : ∀ x y : LinkState, p.state = x → x.judges = true → x.isLocked = false → y.isLocked = false →
      goodHeader l h (s.advance t) = (s.advance t).setPort l (p.headerCounted h y) → counted y :=
    fun x y hx hj before after left =>
      ⟨_, exec_frameHeader_counted hb ha (hx ▸ hj) (hx ▸ before) after left, rfl, followsIdleRule_keepIdleTimer _⟩
  refine ⟨fun e hx => ?_, fun e good hx few hr => ?_, fun e good hx hr => ?_, fun e good hx some_before few hr => ?_,
    fun e good hx first => ?_⟩
  · exact counted_of _ _ hx rfl rfl rfl (goodHeader_seeking (s := s.advance t) hx h)
  · exact counted_of _ _ hx rfl rfl rfl (goodHeader_aligned_rising (s := s.advance t) hx few (rising hr))
  · exact counted_of _ _ hx rfl rfl rfl (goodHeader_aligned_falling (s := s.advance t) hx (falling hr))
  · exact counted_of _ _ hx rfl rfl rfl
      (goodHeader_holdover_rising (s := s.advance t) hx (Nat.one_le_iff_ne_zero.mp some_before) few (rising hr))
  · exact counted_of _ _ hx rfl rfl rfl (goodHeader_holdover_first (s := s.advance t) hx (first.imp_right falling))

end Sys2Proof.Machine
end

section
/-!
PROOFS. The bytes of a management area: the length field, the packet being received, what becomes of a whole packet, and
the bytes that stand behind it.
-/
namespace Sys2Proof.Machine

open Sys2Proof

/-! ### The bytes of a packet (R119, R194) -/

/-- A field that is not empty stands within its bytes. -/
theorem length_of_fieldAt {bytes field : List Byte} {i : Nat} (h : fieldAt bytes i field) (hf : field ≠ []) :
    i + field.length ≤ bytes.length := by
  have taken := congrArg List.length (show (bytes.drop i).take field.length = field from h)
  have nonempty : 0 < field.length := List.length_pos_iff.mpr hf
  rw [List.length_take, List.length_drop] at taken
  omega

theorem lengthField_of_fieldAt {bytes : List Byte} {n : Nat} (hn : n < 65536) (h : fieldAt bytes 4 (beBytes 2 n)) :
    lengthField bytes = n := by
  have field : (bytes.drop 4).take 2 = beBytes 2 n := h
  rw [lengthField, field, beNat_beBytes_two n hn]

/-- The bytes of a packet closed by `check`, which may be wrong. -/
def Packet.closedBy (p : Packet) (check : Word16) : List Byte := p.head ++ beBytes 2 check.toNat

theorem length_closedBy (p : Packet) (check : Word16) : (p.closedBy check).length = p.payload.length + 8 := by
  simp [Packet.closedBy, Packet.head, beBytes_two]

theorem lengthField_closedBy {p : Packet} (hp : p.payload.length ≤ 240) (check : Word16) (rest : List Byte) :
    lengthField (p.closedBy check ++ rest) = p.payload.length := by
  refine lengthField_of_fieldAt (by omega) ?_
  simp [fieldAt, Packet.closedBy, Packet.head, beBytes_two]

/-- The check of a packet's bytes matches just where it is the one that R119 gives them. -/
theorem packetCheckOk_closedBy (p : Packet) (check : Word16) :
    packetCheckOk (p.closedBy check) = true ↔ p.closedBy check = withCheck p.head := by
  rw [Packet.closedBy, packetCheckOk_append, decide_eq_true_iff, withCheck, List.append_cancel_left_eq]
  refine ⟨fun h => by rw [h], fun h => BitVec.eq_of_toNat_eq ?_⟩
  have spelled := congrArg beNat h
  rw [beNat_beBytes_two _ (BitVec.isLt _), beNat_beBytes_two _ (BitVec.isLt _)] at spelled
  exact spelled.symm

/-! ### One packet of the area (R119 to R121, R151) -/

theorem handOver_now (l : Link) (p : Packet) (s : State) : (handOver l p s).now = s.now := by
  unfold handOver
  dsimp only
  split_ifs
  · rfl
  · exact raise_now _ _

/-- The frame body with one more packet received. -/
def FrameBody.packetCounted (b : FrameBody) : FrameBody := { b with packets := b.packets + 1, buffer := [] }

/-- What a whole packet leaves: counted, and handed over or rejected by its check. -/
def packetReceived (l : Link) (b : FrameBody) (p : Packet) (check : Word16) (s : State) : State :=
  let counted := s.setFrame l (.body b.packetCounted)
  if p.closedBy check = withCheck p.head then handOver l p counted else counted.raise (.mgmtReject l)

theorem packetReceived_ports (l : Link) (b : FrameBody) (p : Packet) (check : Word16) (s : State) :
    (packetReceived l b p check s).ports = (s.setFrame l (.body b.packetCounted)).ports := by
  unfold packetReceived
  dsimp only
  split_ifs
  · exact handOver_ports _ _ _
  · exact raise_ports _ _

theorem packetReceived_now (l : Link) (b : FrameBody) (p : Packet) (check : Word16) (s : State) :
    (packetReceived l b p check s).now = s.now := by
  unfold packetReceived
  dsimp only
  split_ifs
  · exact handOver_now _ _ _
  · exact raise_now _ _

theorem packetReceived_advance (l : Link) (b : FrameBody) (p : Packet) (check : Word16) (s : State) (t : Nat) :
    (packetReceived l b p check (s.advance t)).advance t = packetReceived l b p check (s.advance t) := by
  have passed : t ≤ (packetReceived l b p check (s.advance t)).now := by
    rw [packetReceived_now]
    exact le_max_right s.now t
  rw [State.advance, max_eq_left passed]

/-- A part of a packet that ends within its length field is kept. -/
theorem areaBytes_short {buf : List Byte} (h : buf.length < 6) (l : Link) (due : Nat) (b : FrameBody) (s : State) :
    areaBytes l (due + 1) b buf s = s.setFrame l (.body { b with buffer := buf }) := by
  rw [areaBytes, if_pos h]

/-- A length above 240 rejects the packet and ends the area (R119). -/
theorem areaBytes_overlong {buf : List Byte} (h : 6 ≤ buf.length) (hn : 240 < lengthField buf) (l : Link) (due : Nat)
    (b : FrameBody) (s : State) :
    areaBytes l (due + 1) b buf s = (s.setFrame l .skipping).raise (.mgmtReject l) := by
  rw [areaBytes, if_neg (not_lt.mpr h), if_pos hn]

/-- A part of a packet that ends behind its length field is kept. -/
theorem areaBytes_part {buf : List Byte} (h : 6 ≤ buf.length) (hn : lengthField buf ≤ 240)
    (part : buf.length < lengthField buf + 8) (l : Link) (due : Nat) (b : FrameBody) (s : State) :
    areaBytes l (due + 1) b buf s = s.setFrame l (.body { b with buffer := buf }) := by
  rw [areaBytes, if_neg (not_lt.mpr h), if_neg (not_lt.mpr hn)]
  exact if_pos part

/-- A whole packet is received, and the bytes behind it go on with the next. -/
theorem areaBytes_whole {p : Packet} (hp : p.payload.length ≤ 240) (check : Word16) (rest : List Byte) (l : Link)
    (due : Nat) (b : FrameBody) (s : State) :
    areaBytes l (due + 1) b (p.closedBy check ++ rest) s =
      areaBytes l due b.packetCounted rest (packetReceived l b p check s) := by
  have size := length_closedBy p check
  have total : (p.closedBy check ++ rest).length = p.payload.length + 8 + rest.length := by
    rw [List.length_append, size]
  have field := lengthField_closedBy hp check rest
  have received : (if packetCheckOk (p.closedBy check) = true then
        handOver l (packetOf (p.closedBy check)) (s.setFrame l (.body b.packetCounted))
      else (s.setFrame l (.body b.packetCounted)).raise (.mgmtReject l)) = packetReceived l b p check s := by
    unfold packetReceived
    dsimp only
    by_cases right : p.closedBy check = withCheck p.head
    · rw [if_pos ((packetCheckOk_closedBy p check).mpr right), if_pos right, right, packetOf_withCheck]
    · rw [if_neg (mt (packetCheckOk_closedBy p check).mp right), if_neg right]
  rw [areaBytes, field, if_neg (by omega), if_neg (by omega), ← size]
  dsimp only
  rw [if_neg (by omega), List.take_left, List.drop_left, ← received]
  rfl

/-- No bytes change nothing where no packet has begun. -/
theorem areaBytes_nil {s : State} {l : Link} {b : FrameBody} (frame : (s.ports.get l).frame = .body b)
    (empty : b.buffer = []) (due : Nat) : areaBytes l due b [] s = s := by
  cases due with
  | zero => rfl
  | succ due =>
    have same : ({ s.ports.get l with frame := .body { b with buffer := [] } } : Port) = s.ports.get l := by
      rw [← empty, ← frame]
    rw [areaBytes_short (buf := []) (Nat.succ_pos 5), State.setFrame, same, State.setPort_self]

/-! ### MANAGEMENT_PACKET -/

/-- The port has received the lines of the frame body `b`, whose area is parsed; packets of it may be due or not. -/
def inArea (p : Port) (b : FrameBody) : Prop :=
  p.frame = .body b ∧ p.signal = true ∧ b.parsed = true ∧ b.broken = false ∧ b.lines = b.header.height

theorem packetDue_iff (p : Port) (b : FrameBody) : packetDue p b ↔ inArea p b ∧ b.packets < b.header.packets := by
  simp only [packetDue, inArea, and_assoc]

theorem expectsPacket_iff {p : Port} {b : FrameBody} (frame : p.frame = .body b) :
    (p.signal && b.expectsPacket) = true ↔ packetDue p b := by
  simp only [FrameBody.expectsPacket, packetDue, frame, true_and, Bool.and_eq_true, Bool.not_eq_true',
    beq_iff_eq, decide_eq_true_iff, and_assoc]

/-- Bytes outside a parsed area, or beyond its packets, let their time pass. -/
theorem exec_managementPacket_outside {s : State} {l : Link} (h : ∀ b, ¬packetDue (s.ports.get l) b) (t : Nat)
    (bytes : List Byte) : exec (.managementPacket t l bytes) s = .next (s.advance t) := by
  cases frame : (s.ports.get l).frame with
  | body b =>
    simp only [exec, execManagementPacket, State.advance_ports, frame]
    exact if_neg (mt (expectsPacket_iff frame).mp (h b))
  | none | awaitingHeader | headerLost | skipping =>
    simp only [exec, execManagementPacket, State.advance_ports, frame]

/-- The bytes of a parsed area go behind those of the packet being received. -/
theorem exec_managementPacket_inArea {s : State} {l : Link} {b : FrameBody} (h : inArea (s.ports.get l) b) (t : Nat)
    (bytes : List Byte) :
    exec (.managementPacket t l bytes) s =
      .next (areaBytes l (b.header.packets - b.packets) b (b.buffer ++ bytes) (s.advance t)) := by
  have frame : (s.ports.get l).frame = .body b := h.1
  by_cases hdue : b.packets < b.header.packets
  · have due : packetDue (s.ports.get l) b := (packetDue_iff _ _).mpr ⟨h, hdue⟩
    simp only [exec, execManagementPacket, State.advance_ports, frame]
    exact if_pos ((expectsPacket_iff frame).mpr due)
  · have complete : ∀ c, ¬packetDue (s.ports.get l) c := by
      rintro c ⟨framed, -, -, -, -, more⟩
      cases frame.symm.trans framed
      exact hdue more
    rw [exec_managementPacket_outside complete, Nat.sub_eq_zero_of_le (not_lt.mp hdue), areaBytes]

/-- The area goes on behind a received packet. -/
theorem inArea_packetReceived {s : State} {l : Link} {b : FrameBody} (h : inArea (s.ports.get l) b) (p : Packet)
    (check : Word16) : inArea ((packetReceived l b p check s).ports.get l) b.packetCounted := by
  obtain ⟨-, signal, parsed, unbroken, lines⟩ := h
  rw [packetReceived_ports, State.setFrame, State.get_setPort]
  exact ⟨rfl, signal, parsed, unbroken, lines⟩

/-- Bytes that begin with the rest of a whole packet: the packet is received, and those behind it act as if they had
come after it. -/
theorem exec_managementPacket_whole {s : State} {l : Link} {b : FrameBody} (h : packetDue (s.ports.get l) b)
    {p : Packet} (hp : p.payload.length ≤ 240) {check : Word16} {bytes : List Byte} (come : b.buffer ++ bytes = p.closedBy check)
    (t : Nat) (rest : List Byte) :
    exec (.managementPacket t l (bytes ++ rest)) s =
      exec (.managementPacket t l rest) (packetReceived l b p check (s.advance t)) := by
  obtain ⟨area, more⟩ := (packetDue_iff _ _).mp h
  have behind := inArea_packetReceived (s := s.advance t) area p check
  have promised : b.header.packets - b.packets = b.header.packets - b.packetCounted.packets + 1 := by
    show _ = b.header.packets - (b.packets + 1) + 1
    omega
  rw [exec_managementPacket_inArea area, exec_managementPacket_inArea behind, packetReceived_advance,
    ← List.append_assoc, come, promised, areaBytes_whole hp]
  rfl

/-- Bytes that end with a whole packet leave what it leaves. -/
theorem exec_managementPacket_received {s : State} {l : Link} {b : FrameBody} (h : packetDue (s.ports.get l) b)
    {p : Packet} (hp : p.payload.length ≤ 240) {check : Word16} {bytes : List Byte}
    (come : b.buffer ++ bytes = p.closedBy check) (t : Nat) :
    exec (.managementPacket t l bytes) s = .next (packetReceived l b p check (s.advance t)) := by
  obtain ⟨area, -⟩ := (packetDue_iff _ _).mp h
  have behind := inArea_packetReceived (s := s.advance t) area p check
  have frame : ((packetReceived l b p check (s.advance t)).ports.get l).frame = .body b.packetCounted := behind.1
  have whole := exec_managementPacket_whole h hp come t []
  rw [List.append_nil, exec_managementPacket_inArea behind, packetReceived_advance] at whole
  exact whole.trans (congrArg _ (areaBytes_nil frame rfl _))

/-- Settles O48: parts that end within and behind the length field, a length above 240, a whole packet by its check, the
bytes behind it, and bytes outside a parsed area. -/
theorem managementPacketsReachTheirQueue : Obligations.ManagementPacketsReachTheirQueue := by
  unfold Obligations.ManagementPacketsReachTheirQueue
  refine ⟨fun s t l bytes b due => ?_, fun s t l bytes h => exec_managementPacket_outside h t bytes⟩
  intro come answer after parsed rejected
  obtain ⟨area, more⟩ := (packetDue_iff _ _).mp due
  have one_due : b.header.packets - b.packets = b.header.packets - b.packets - 1 + 1 := by omega
  have taken : answer = .next (areaBytes l (b.header.packets - b.packets - 1 + 1) b come (s.advance t)) :=
    one_due ▸ exec_managementPacket_inArea area t bytes
  refine ⟨fun short => ?_, fun n hn field => ?_, fun p check hp hcome => ?_⟩
  · rw [taken, areaBytes_short short]
    rfl
  · have whole_field : 6 ≤ come.length := length_of_fieldAt field nofun
    have length := lengthField_of_fieldAt hn field
    refine ⟨fun overlong => ?_, fun fits part => ?_⟩
    · rw [taken, areaBytes_overlong whole_field (length ▸ overlong)]
      rfl
    · rw [taken, areaBytes_part whole_field (length ▸ fits) (length ▸ part)]
      rfl
  · have received : answer = .next (packetReceived l b p check (s.advance t)) :=
      exec_managementPacket_received due hp hcome t
    have closed : come = p.closedBy check := hcome
    refine ⟨fun wrong => ?_, fun right => ?_, fun rest s' hs' => ?_⟩
    · rw [received, packetReceived, if_neg (closed ▸ wrong)]
      rfl
    · rw [received, packetReceived, if_pos (closed ▸ right)]
      rfl
    · cases received.symm.trans hs'
      exact exec_managementPacket_whole due hp hcome t rest

end Sys2Proof.Machine
end

section
/-!
PROOFS. The rules of the output states at a start that gives D, as equations of the controller that each leaves; the
douser timer, the open timer and the douser lines (R129 to R137, R142, R143).
-/
namespace Sys2Proof.Machine

open Sys2Proof

/-! ### Candidates (R129) -/

section
variable {v : StartView} {r : Route} {i : SlotId}

theorem candidate_of_primary (h : v.frameOn r.primary = some i) : v.candidate r = some (.primary, i) := by
  simp only [StartView.candidate, h]

theorem candidate_of_backup (hp : v.frameOn r.primary = none) (hb : v.frameOn r.backup = some i) :
    v.candidate r = some (.backup, i) := by
  simp only [StartView.candidate, hp, hb]

theorem candidate_of_none (hp : v.frameOn r.primary = none) (hb : v.frameOn r.backup = none) :
    v.candidate r = none := by
  simp only [StartView.candidate, hp, hb]

end

/-! ### Entry into DARK and the steps of the source weight (R134, R136, R137, R142, R144) -/

theorem startDouserTimer_eq (c : Controller) (now : Nat) :
    c.startDouserTimer now =
      if c.route.douserDelay = 0 then { c with douser := true, douserTimer := none }
      else { c with douserTimer := some (now + 1000 * c.route.douserDelay) } := by
  rw [Controller.startDouserTimer, millis, Nat.mul_comm]

theorem enterDark_eq (v : StartView) (c : Controller) : c.enterDark v = enteredDark v c := by
  unfold Controller.enterDark enteredDark
  simp only [startDouserTimer_eq]
  cases v.patternOn with
  | true => rfl
  | false =>
    by_cases delay : c.route.douserDelay = 0
    · simp [delay]
    · simp [delay]

theorem fadeDown_eq (v : StartView) (c : Controller) :
    c.fadeDown v =
      if weightDown c.route c.ws = 0 then enteredDark v c
      else { c with ws := weightDown c.route c.ws, state := .fadingOut } := by
  rw [← enterDark_eq]
  rfl

/-- What an output shows that leaves black: LIVE at once for a fade-in of 0 or 1, the first step of it otherwise. -/
theorem beginShowing_eq (c : Controller) (role : Role) (i : SlotId) (starved : c.starved = 0) :
    c.beginShowing role i =
      if c.route.fadeIn ≤ 1 then { c with
        state := .live, role := some role, held := some i, ws := 1, douserTimer := none, openTimer := .stopped }
      else { c with
        state := .fadingIn, role := some role, held := some i, ws := 1 / (c.route.fadeIn : Rat), douserTimer := none
        openTimer := .stopped } := by
  simp [Controller.beginShowing, Controller.showFrame, starved]

/-! ### DARK and OPENING (R131, R132) -/

/-- An output in DARK or OPENING has no starved count. -/
theorem Controller.ok.starved_eq_zero {c : Controller} (h : c.ok) (black : c.state = .dark ∨ c.state = .opening) :
    c.starved = 0 := by
  obtain ⟨-, fits⟩ := (controller_ok_iff c).mp h
  obtain state | state := black <;> rw [state] at fits
  · obtain ⟨⟨-, -, -, starved⟩, -⟩ := fits
    exact starved
  · obtain ⟨⟨-, -, -, starved⟩, -⟩ := fits
    exact starved

theorem stateRule_dark {c : Controller} (state : c.state = .dark) (v : StartView) :
    c.stateRule v = (c.darkRule v, false) := by
  simp only [Controller.stateRule, state]

theorem stateRule_opening {c : Controller} (state : c.state = .opening) (v : StartView) :
    c.stateRule v = (c.openingRule v, false) := by
  simp only [Controller.stateRule, state]

theorem openingRule_running {c : Controller} {e : Nat} (h : c.openTimer = .running e) (v : StartView) :
    c.openingRule v = c := by
  simp only [Controller.openingRule, h]

/-- Settles O40: candidates by the frames on the two links, DARK by its candidate and its request, and OPENING by its
timer and its candidate. -/
theorem darkAndOpeningRules : Obligations.DarkAndOpeningRules := by
  unfold Obligations.DarkAndOpeningRules
  refine ⟨fun v => ⟨rfl, fun _ => rfl⟩, fun v r => ⟨fun i => candidate_of_primary, fun i => candidate_of_backup,
    candidate_of_none, rfl, rfl⟩, fun v c ok => ⟨fun state => ?_, fun state => ⟨fun e running => ?_,
    fun expired => ?_⟩⟩⟩
  · rw [stateRule_dark state, Controller.darkRule]
    cases v.candidate c.route with
    | none => rfl
    | some shown =>
      dsimp only
      rw [beginShowing_eq c _ _ (ok.starved_eq_zero (.inl state)), millis, Nat.mul_comm]
  · rw [stateRule_opening state, openingRule_running running]
  · rw [stateRule_opening state, Controller.openingRule, expired]
    cases v.candidate c.route with
    | none => exact congrArg (·, false) (enterDark_eq v c)
    | some shown => exact congrArg (·, false) (beginShowing_eq c _ _ (ok.starved_eq_zero (.inr state)))

/-! ### The starved step (R134) -/

section
variable {v : StartView} {c : Controller} {role : Role} {i : SlotId}

theorem starve_failedOver (frame : v.frameOn (c.route.link role.other) = some i)
    (reached : c.route.threshold ≤ c.starved + 1) :
    c.starve v role = .failedOver { c with role := some role.other, held := some i, starved := 0 } := by
  simp only [Controller.starve, frame, if_pos reached]
  rfl

/-- Without a failover the holdover limit decides between fading out and holding. -/
theorem starve_stays
    (stays : v.frameOn (c.route.link role.other) = none ∨ c.starved + 1 < c.route.threshold) :
    c.starve v role =
      if c.route.holdover ≤ c.starved + 1 then .limit (Controller.fadeDown v { c with starved := c.starved + 1 })
      else .hold { c with starved := c.starved + 1 } := by
  cases frame : v.frameOn (c.route.link role.other) with
  | none => simp only [Controller.starve, frame]
  | some i =>
    obtain none | below := stays
    · cases frame.symm.trans none
    · simp only [Controller.starve, frame, if_neg (Nat.not_le.mpr below)]

theorem starve_hold (stays : v.frameOn (c.route.link role.other) = none ∨ c.starved + 1 < c.route.threshold)
    (below : c.starved + 1 < c.route.holdover) : c.starve v role = .hold { c with starved := c.starved + 1 } := by
  rw [starve_stays stays, if_neg (Nat.not_le.mpr below)]

theorem starve_limit (stays : v.frameOn (c.route.link role.other) = none ∨ c.starved + 1 < c.route.threshold)
    (reached : c.route.holdover ≤ c.starved + 1) :
    c.starve v role = .limit (if weightDown c.route c.ws = 0 then enteredDark v c
      else { c with state := .fadingOut, starved := c.starved + 1, ws := weightDown c.route c.ws }) := by
  rw [starve_stays stays, if_pos reached, fadeDown_eq]
  rfl

/-! ### LIVE and HOLDING (R133, R135) -/

theorem revertFrame_eq_some (auto : v.selected = false ∧ role = .backup ∧ c.route.revert = .auto ∧ v.settled = true)
    (frame : v.frameOn c.route.primary = some i) : c.revertFrame v role = some i := by
  obtain ⟨selected, rfl, revert, settled⟩ := auto
  simp [Controller.revertFrame, selected, revert, settled, frame]

theorem revertFrame_eq_none
    (h : ¬((v.selected = false ∧ role = .backup ∧ c.route.revert = .auto ∧ v.settled = true)
      ∧ (v.frameOn c.route.primary).isSome = true)) : c.revertFrame v role = none := by
  unfold Controller.revertFrame
  split
  · next tested =>
    simp only [Bool.and_eq_true, Bool.not_eq_true', beq_iff_eq] at tested
    obtain ⟨⟨⟨selected, backup⟩, auto⟩, settled⟩ := tested
    exact Option.not_isSome_iff_eq_none.mp fun frame => h ⟨⟨selected, backup, auto, settled⟩, frame⟩
  · rfl

theorem stateRule_live (state : c.state = .live) (hr : c.role = some role) : c.stateRule v = c.liveRule v role := by
  simp only [Controller.stateRule, state, hr]

theorem stateRule_holding (state : c.state = .holding) (hr : c.role = some role) :
    c.stateRule v = c.holdingRule v role := by
  simp only [Controller.stateRule, state, hr]

theorem liveRule_reverts (h : c.revertFrame v role = some i) :
    c.liveRule v role = ({ c with role := some .primary, held := some i, starved := 0 }, false) := by
  simp only [Controller.liveRule, h]
  rfl

theorem holdingRule_frame (frame : v.frameOn (c.route.link role) = some i) :
    c.holdingRule v role =
      ({ c with state := .live, role := some role, held := some i, starved := 0 }, false) := by
  simp only [Controller.holdingRule, frame]
  rfl

theorem holdingRule_failedOver (starves : v.frameOn (c.route.link role) = none)
    (frame : v.frameOn (c.route.link role.other) = some i) (reached : c.route.threshold ≤ c.starved + 1) :
    c.holdingRule v role =
      ({ c with state := .live, role := some role.other, held := some i, starved := 0 }, c.starved == 0) := by
  simp only [Controller.holdingRule, starves, starve_failedOver frame reached]
  rfl

theorem holdingRule_hold (starves : v.frameOn (c.route.link role) = none)
    (stays : v.frameOn (c.route.link role.other) = none ∨ c.starved + 1 < c.route.threshold)
    (below : c.starved + 1 < c.route.holdover) :
    c.holdingRule v role = ({ c with starved := c.starved + 1 }, c.starved == 0) := by
  simp only [Controller.holdingRule, starves, starve_hold stays below]
  rfl

theorem holdingRule_limit (starves : v.frameOn (c.route.link role) = none)
    (stays : v.frameOn (c.route.link role.other) = none ∨ c.starved + 1 < c.route.threshold)
    (reached : c.route.holdover ≤ c.starved + 1) :
    c.holdingRule v role = (if weightDown c.route c.ws = 0 then enteredDark v c
      else { c with state := .fadingOut, starved := c.starved + 1, ws := weightDown c.route c.ws },
      c.starved == 0) := by
  simp only [Controller.holdingRule, starves, starve_limit stays reached]
  rfl

/-- The starved step does not read the output state, and the state that HOLDING would keep is the one that LIVE enters:
without an automatic revert an output in LIVE acts as one in HOLDING. -/
theorem liveRule_eq_holdingRule (state : c.state = .live) (h : c.revertFrame v role = none) :
    c.liveRule v role = Controller.holdingRule v role { c with state := .holding } := by
  cases frame : v.frameOn (c.route.link role) with
  | some i =>
    rw [holdingRule_frame (c := { c with state := .holding }) frame, ← state]
    simp only [Controller.liveRule, h, frame]
    rfl
  | none =>
    by_cases stays : v.frameOn (c.route.link role.other) = none ∨ c.starved + 1 < c.route.threshold
    · by_cases reached : c.route.holdover ≤ c.starved + 1
      · rw [holdingRule_limit (c := { c with state := .holding }) frame stays reached]
        simp only [Controller.liveRule, h, frame, starve_limit stays reached]
        rfl
      · rw [holdingRule_hold (c := { c with state := .holding }) frame stays (not_le.mp reached)]
        simp only [Controller.liveRule, h, frame, starve_hold stays (not_le.mp reached)]
        rfl
    · rw [not_or, not_lt] at stays
      obtain ⟨other, reached⟩ := stays
      obtain ⟨i, hi⟩ := Option.ne_none_iff_exists'.mp other
      rw [holdingRule_failedOver (c := { c with state := .holding }) frame hi reached, ← state]
      simp only [Controller.liveRule, h, frame, starve_failedOver hi reached]
      rfl

/-- LIVE without an automatic revert, and HOLDING, by one rule. -/
theorem stateRule_steady (state : c.state = .live ∨ c.state = .holding) (hr : c.role = some role)
    (h : c.state = .live → c.revertFrame v role = none) :
    c.stateRule v = Controller.holdingRule v role { c with state := .holding } := by
  obtain live | holding := state
  · rw [stateRule_live live hr, liveRule_eq_holdingRule live (h live)]
  · rw [stateRule_holding holding hr, ← holding]

end

/-- An output in LIVE or HOLDING has full weight. -/
theorem Controller.ok.full_weight {c : Controller} (h : c.ok) (state : c.state = .live ∨ c.state = .holding) :
    c.ws = 1 := by
  obtain ⟨-, fits⟩ := (controller_ok_iff c).mp h
  obtain state | state := state <;> rw [state] at fits
  · obtain ⟨-, ws, -⟩ := fits
    exact ws
  · obtain ⟨-, ws, -⟩ := fits
    exact ws

/-- Settles O41: the automatic revert of LIVE; then LIVE and HOLDING by the rule that they share, with the role's
frame, a failover, a hold and the holdover limit. -/
theorem liveAndHoldingRules : Obligations.LiveAndHoldingRules := by
  unfold Obligations.LiveAndHoldingRules
  intro v c role ok hr state down reverts
  have full : c.ws = 1 := ok.full_weight state
  have weight : weightDown c.route c.ws = down := by rw [full]; rfl
  have steady (h : ¬(reverts ∧ (v.frameOn c.route.primary).isSome = true)) :
      c.stateRule v = Controller.holdingRule v role { c with state := .holding } :=
    stateRule_steady state hr fun live => revertFrame_eq_none fun ⟨auto, frame⟩ => h ⟨⟨live, auto⟩, frame⟩
  refine ⟨fun i ⟨live, auto⟩ frame => ?_, fun i h frame => ?_, fun i starves frame reached h => ?_,
    fun starves stays h => ⟨fun below => ?_, fun reached more => ?_, fun reached none => ?_⟩⟩
  · rw [stateRule_live live hr, liveRule_reverts (revertFrame_eq_some auto frame)]
  · rw [steady h, holdingRule_frame (c := { c with state := .holding }) frame, ← hr]
  · rw [steady fun ⟨auto, _⟩ => h auto,
      holdingRule_failedOver (c := { c with state := .holding }) starves frame reached]
  · rw [steady h, holdingRule_hold (c := { c with state := .holding }) starves stays below]
  · rw [steady h, holdingRule_limit (c := { c with state := .holding }) starves stays reached]
    simp only [weight, if_neg more]
  · rw [steady h, holdingRule_limit (c := { c with state := .holding }) starves stays reached]
    simp only [weight, if_pos none]
    rfl

/-! ### FADING_IN and FADING_OUT (R136, R137) -/

section
variable {v : StartView} {c : Controller} {role : Role} {i : SlotId}

theorem stateRule_fadingIn (state : c.state = .fadingIn) (hr : c.role = some role) :
    c.stateRule v = c.fadingInRule v role := by
  simp only [Controller.stateRule, state, hr]

theorem stateRule_fadingOut (state : c.state = .fadingOut) : c.stateRule v = (c.fadingOutRule v, false) := by
  simp only [Controller.stateRule, state]

theorem fadingInRule_frame (frame : v.frameOn (c.route.link role) = some i) :
    c.fadingInRule v role = ({ c with
      role := some role, held := some i, starved := 0, ws := weightUp c.route c.ws
      state := if weightUp c.route c.ws = 1 then .live else .fadingIn }, false) := by
  simp only [Controller.fadingInRule, frame]
  rfl

theorem fadingInRule_failedOver (starves : v.frameOn (c.route.link role) = none)
    (frame : v.frameOn (c.route.link role.other) = some i) (reached : c.route.threshold ≤ c.starved + 1) :
    c.fadingInRule v role = ({ c with
      role := some role.other, held := some i, starved := 0, ws := weightUp c.route c.ws
      state := if weightUp c.route c.ws = 1 then .live else .fadingIn }, c.starved == 0) := by
  simp only [Controller.fadingInRule, starves, starve_failedOver frame reached]
  rfl

theorem fadingInRule_hold (starves : v.frameOn (c.route.link role) = none)
    (stays : v.frameOn (c.route.link role.other) = none ∨ c.starved + 1 < c.route.threshold)
    (below : c.starved + 1 < c.route.holdover) :
    c.fadingInRule v role = ({ c with
      starved := c.starved + 1, ws := weightUp c.route c.ws
      state := if weightUp c.route c.ws = 1 then .holding else .fadingIn }, c.starved == 0) := by
  simp only [Controller.fadingInRule, starves, starve_hold stays below]
  rfl

theorem fadingInRule_limit (starves : v.frameOn (c.route.link role) = none)
    (stays : v.frameOn (c.route.link role.other) = none ∨ c.starved + 1 < c.route.threshold)
    (reached : c.route.holdover ≤ c.starved + 1) :
    c.fadingInRule v role = (if weightDown c.route c.ws = 0 then enteredDark v c
      else { c with state := .fadingOut, starved := c.starved + 1, ws := weightDown c.route c.ws },
      c.starved == 0) := by
  simp only [Controller.fadingInRule, starves, starve_limit stays reached]
  rfl

theorem fadingOutRule_candidate (h : v.candidate c.route = some (role, i)) :
    c.fadingOutRule v = { c with
      role := some role, held := some i, starved := 0, ws := weightUp c.route c.ws
      state := if weightUp c.route c.ws = 1 then .live else .fadingIn } := by
  simp only [Controller.fadingOutRule, h]
  rfl

theorem fadingOutRule_none (h : v.candidate c.route = none) :
    c.fadingOutRule v = if weightDown c.route c.ws = 0 then enteredDark v c
      else { c with ws := weightDown c.route c.ws, state := .fadingOut } := by
  simp only [Controller.fadingOutRule, h, fadeDown_eq]

end

/-- Settles O42: FADING_IN by the role's frame, a hold, a failover and the holdover limit, and FADING_OUT by its
candidate. -/
theorem sourceWeightFades : Obligations.SourceWeightFades := by
  unfold Obligations.SourceWeightFades
  intro v c role ok hr up down
  have risen : weightUp c.route c.ws = up := rfl
  have fallen : weightDown c.route c.ws = down := rfl
  refine ⟨fun i state frame => ?_, fun state starves stays below => ?_, fun i state starves frame reached => ?_,
    fun state starves stays reached => ?_, fun r i state shown => ?_, fun state black more => ?_,
    fun state black none => ?_⟩
  · rw [stateRule_fadingIn state hr, fadingInRule_frame frame, risen, ← hr]
  · rw [stateRule_fadingIn state hr, fadingInRule_hold starves stays below, risen]
  · rw [stateRule_fadingIn state hr, fadingInRule_failedOver starves frame reached, risen]
  · rw [stateRule_fadingIn state hr, fadingInRule_limit starves stays reached, fallen]
  · rw [stateRule_fadingOut state, fadingOutRule_candidate shown, risen]
  · rw [stateRule_fadingOut state, fadingOutRule_none black, fallen, if_neg more, ← state]
  · rw [stateRule_fadingOut state, fadingOutRule_none black, fallen, if_pos none]

/-! ### The timers and the lines (R132, R142, R143) -/

section
variable {s : State} {o : Out}

theorem exec_douserTimerExpiry {e : Nat} (h : (s.controllers.get o).douserTimer = some e) :
    exec (.douserTimerExpiry o) s = .next ((s.advance e).setController o
      { s.controllers.get o with douser := true, douserTimer := none }) := by
  show execDouserTimerExpiry o s = _
  simp only [execDouserTimerExpiry, h]

theorem exec_openTimerExpiry {e : Nat} (h : (s.controllers.get o).openTimer = .running e) :
    exec (.openTimerExpiry o) s = .next ((s.advance e).setController o
      { s.controllers.get o with openTimer := .expired }) := by
  show execOpenTimerExpiry o s = _
  simp only [execOpenTimerExpiry, h]

theorem douserLine_standby (h : s.part.state.inStandby = true) : douserLine s o = true := by
  simp only [douserLine, h, if_true]

theorem douserLine_dark {e : Nat} (h : s.part.service = .dark e) : douserLine s o = true := by
  simp only [douserLine, h, ite_self]

theorem douserLine_grid {e : Nat} (awake : s.part.state.inStandby = false) (h : s.part.service = .grid e) :
    douserLine s o = false := by
  simp only [douserLine, awake, h, Bool.false_eq_true, if_false]

theorem douserLine_none (awake : s.part.state.inStandby = false) (h : s.part.service = .none) :
    douserLine s o = (s.controllers.get o).douser := by
  simp only [douserLine, awake, h, Bool.false_eq_true, if_false]

end

/-- Settles O50: the two timers by what each writes, and the rows of R143. -/
theorem douserTimersAndLines : Obligations.DouserTimersAndLines := by
  unfold Obligations.DouserTimersAndLines
  exact ⟨fun s o e => exec_douserTimerExpiry, fun s o e => exec_openTimerExpiry,
    fun s o => ⟨douserLine_standby, fun e => douserLine_dark, fun e => douserLine_grid, douserLine_none⟩⟩

end Sys2Proof.Machine
end

section
/-!
PROOFS. ROUTE, SELECT, the configuration lock and the patterns: what the owner of each command replies to the state that
the taking leaves, and so the whole next state (R127, R128, R141, R144, R146, R185, R186).
-/
namespace Sys2Proof.Machine

open Sys2Proof

/-! ### ROUTE (R127, R128) -/

/-- A change that leaves the state and the role of every output leaves every level. -/
theorem levels_mapWhere (s : State) (m : Mask) {f : Controller → Controller}
    (same : ∀ c : Controller, (f c).state = c.state ∧ (f c).role = c.role) :
    levels { s with controllers := s.controllers.mapWhere m f } = levels s := by
  have backup (b : Bool) (c : Controller) : Controller.onBackup (if b then f c else c) = c.onBackup := by
    obtain ⟨state, role⟩ := same c
    cases b
    · rfl
    · simp only [Controller.onBackup, if_true, state, role]
  have dark (b : Bool) (c : Controller) : Controller.isDark (if b then f c else c) = c.isDark := by
    obtain ⟨state, -⟩ := same c
    cases b
    · rfl
    · simp only [Controller.isDark, if_true, state]
  exact levels_ext rfl rfl rfl (backup _ _) (backup _ _) (dark _ _) (dark _ _) rfl rfl rfl rfl rfl

/-- A channel command accepted with a change of what is pending on its outputs is answered OK beside that change. -/
theorem takeOwned_pending {names : Packet → Bool} {lengthOk : Nat → Bool}
    {owner : Link → Packet → State → Reply} {t : Nat} {s : State} {l : Link} {p : Packet} {rest : List Packet}
    {f : Controller → Controller} (h : nextPacket s = some (l, p, rest)) (hn : names p = true)
    (hl : lengthOk p.payload.length = true) (hm : p.noOutput = false)
    (ho : owner l p (dequeue l rest (s.advance t)) = .accept
      { dequeue l rest (s.advance t) with controllers := s.controllers.mapWhere p.outputs f } [])
    (same : ∀ c : Controller, (f c).state = c.state ∧ (f c).role = c.role) :
    takeOwned names lengthOk true owner t s = { answered s t l p rest .ok [] with
      controllers := forOuts fun o => if p.outputs.get o then f (s.controllers.get o) else s.controllers.get o } := by
  have levels := (levels_mapWhere (dequeue l rest (s.advance t)) p.outputs same).symm
  rw [takeOwned_accepted_of_levels_eq (channel := true) h hn hl hm ho levels]
  rfl

/-- A record is accepted if every field names a value and the whole lies within the ranges. -/
theorem routeOf_eq_some_iff (p : Packet) (r : Route) :
    routeOf p = some r ↔ r.ok ∧ routeLinkNamed (p.u8 0) = some r.primary ∧ routeLinkNamed (p.u8 1) = some r.backup
      ∧ revertNamed (p.u8 2) = some r.revert ∧ r.settle = (p.u8 3).toNat ∧ r.threshold = (p.u8 4).toNat
      ∧ r.holdover = (p.u8 5).toNat ∧ r.fadeIn = (p.u8 6).toNat ∧ r.fadeOut = (p.u8 7).toNat
      ∧ r.douserDelay = (p.u16 8).toNat ∧ r.douserOpen = (p.u16 10).toNat := by
  constructor
  · intro h
    refine ⟨routeOf_ok h, ?_⟩
    unfold routeOf at h
    rw [routeLinkOf_eq, routeLinkOf_eq, revertOf_eq] at h
    split at h
    · next primary backup revert hp hb hr =>
      dsimp only at h
      split at h
      · cases h
        exact ⟨hp, hb, hr, rfl, rfl, rfl, rfl, rfl, rfl, rfl⟩
      · cases h
    · cases h
  · rintro ⟨ok, hp, hb, hr, settle, threshold, holdover, fadeIn, fadeOut, delay, opens⟩
    rw [← routeLinkOf_eq] at hp hb
    rw [← revertOf_eq] at hr
    obtain ⟨settle', low, high, short, long, fadeIn', fadeOut', delay', opens', limit, named, distinct⟩ := ok
    have apart : (r.backup.isSome && r.backup == r.primary) = false := by
      cases backup : r.backup with
      | none => rfl
      | some l => simpa [backup] using distinct (by rw [backup]; nofun)
    have given : (r.primary.isNone && r.backup.isSome) = false := by
      cases primary : r.primary with
      | none => simp [named primary]
      | some l => rfl
    simp only [routeOf, hp, hb, hr, ← settle, ← threshold, ← holdover, ← fadeIn, ← fadeOut, ← delay, ← opens, apart,
      given, settle', low, high, short, long, fadeIn', fadeOut', delay', opens', limit]
    rfl

/-- The owner's tests in their order, on the state that the taking of the packet leaves (R128). -/
theorem routeOwner_dequeue {p : Packet} {r : Route} (hr : routeOf p = some r) (l : Link) (rest : List Packet)
    (s : State) (t : Nat) :
    routeOwner l p (dequeue l rest (s.advance t)) =
      if s.engine.lock ≠ .none then .refuse .locked []
      else if (p.outputs.out0 && changesShown r s.controllers.out0)
          || (p.outputs.out1 && changesShown r s.controllers.out1) then .refuse .notDark []
      else .accept { dequeue l rest (s.advance t) with
        controllers := s.controllers.mapWhere p.outputs fun c => { c with pendingRoute := some r } } [] := by
  simp only [routeOwner, hr, isSet_iff]
  rfl

/-- Settles O15: the owner's refusals in the order of R128, each followed to its answer, and the records accepted. -/
theorem routeSetsThePendingRoute : Obligations.RouteSetsThePendingRoute := by
  unfold Obligations.RouteSetsThePendingRoute
  refine ⟨fun s t l p rest h hcode hlength hmask => congrArg Host.Outcome.next ?_,
    fun p r h => (routeOf_eq_some_iff p r).mp h, fun p primary backup revert hp hb hr ok => ?_⟩
  · have hn : (p.code == 0x31#8) = true := beq_iff_eq.mpr hcode
    have hl : (p.payload.length == 12) = true := beq_iff_eq.mpr hlength
    cases hr : routeOf p with
    | none => exact takeOwned_answered_of_refuse h hn hl hmask (by simp only [routeOwner, hr])
    | some r =>
      have owner := routeOwner_dequeue hr l rest s t
      dsimp only
      split_ifs with hlock hdark
      · exact takeOwned_answered_of_refuse h hn hl hmask (owner.trans (if_pos hlock))
      all_goals rw [if_neg hlock] at owner
      · exact takeOwned_answered_of_refuse h hn hl hmask (owner.trans (if_pos hdark))
      · exact takeOwned_pending h hn hl hmask (owner.trans (if_neg hdark)) fun _ => ⟨rfl, rfl⟩
  · rw [(routeOf_eq_some_iff p _).mpr ⟨ok, hp, hb, hr, rfl, rfl, rfl, rfl, rfl, rfl, rfl⟩]
    rfl

/-! ### SELECT (R141) -/

theorem showing_eq (x : OutputState) : (!x.showing) = (x == .dark || x == .opening) := by
  cases x <;> rfl

/-- The owner's tests in their order, on the state that the taking of the packet leaves (R141). -/
theorem selectOwner_dequeue {p : Packet} {role : Role} (hr : roleNamed (p.u8 0) = some role) (l : Link)
    (rest : List Packet) (s : State) (t : Nat) :
    selectOwner l p (dequeue l rest (s.advance t)) =
      if s.controllers.anyWhere p.outputs fun c => c.state == .dark || c.state == .opening then .refuse .wrongState []
      else if s.controllers.anyWhere p.outputs fun c => c.route.link role == none then .refuse .badParam []
      else if s.controllers.anyWhere p.outputs fun c => !routeLocked s role c then .refuse .notReady []
      else .accept { dequeue l rest (s.advance t) with
        controllers := s.controllers.mapWhere p.outputs fun c => { c with pendingSelect := some role } } [] := by
  have unnamed (c : Controller) : (c.route.link role).isNone = (c.route.link role == none) := by
    cases c.route.link role <;> rfl
  simp only [selectOwner, roleOf_eq, hr, showing_eq, unnamed]
  rfl

/-- The link of a role is LOCKED only if the route names one. -/
theorem not_routeLocked_eq (s : State) (role : Role) (c : Controller) :
    (!routeLocked s role c) =
      match c.route.link role with
      | none => true
      | some x =>
        match (s.ports.get x).state with
        | .locked _ _ => false
        | _ => true := by
  unfold routeLocked
  cases c.route.link role with
  | none => rfl
  | some x =>
    dsimp only
    cases (s.ports.get x).state <;> rfl

/-- Settles O16: the owner's refusals in the order of R141, each followed to its answer, and the pending selection. -/
theorem selectSetsThePendingSelect : Obligations.SelectSetsThePendingSelect := by
  unfold Obligations.SelectSetsThePendingSelect
  intro s t l p rest h hcode hlength hmask
  have hn : (p.code == 0x32#8) = true := beq_iff_eq.mpr hcode
  have hl : (p.payload.length == 1) = true := beq_iff_eq.mpr hlength
  refine congrArg Host.Outcome.next ?_
  cases hr : roleNamed (p.u8 0) with
  | none => exact takeOwned_answered_of_refuse h hn hl hmask (by simp only [selectOwner, roleOf_eq, hr])
  | some role =>
    have owner := selectOwner_dequeue hr l rest s t
    rw [funext (not_routeLocked_eq s role)] at owner
    dsimp only
    split_ifs with hblack hnone hready
    · exact takeOwned_answered_of_refuse h hn hl hmask (owner.trans (if_pos hblack))
    all_goals rw [if_neg hblack] at owner
    · exact takeOwned_answered_of_refuse h hn hl hmask (owner.trans (if_pos hnone))
    all_goals rw [if_neg hnone] at owner
    · exact takeOwned_answered_of_refuse h hn hl hmask (owner.trans (if_pos hready))
    · exact takeOwned_pending h hn hl hmask (owner.trans (if_neg hready)) fun _ => ⟨rfl, rfl⟩

/-! ### The configuration lock (R146) -/

theorem somethingPending_eq (s : State) :
    somethingPending s = [Out.out0, .out1].any fun o =>
      (s.controllers.get o).pendingRoute.isSome || (s.pipelines.get o).pendingFormat.isSome := by
  simp only [somethingPending, List.any_cons, List.any_nil, Bool.or_false]
  change (_ || _ || _ || _) = ((s.controllers.out0.pendingRoute.isSome || s.pipelines.out0.pendingFormat.isSome)
    || (s.controllers.out1.pendingRoute.isSome || s.pipelines.out1.pendingFormat.isSome))
  ac_rfl

section
variable {names : Packet → Bool} {lengthOk : Nat → Bool} {owner : Link → Packet → State → Reply} {t : Nat} {s : State}
  {l : Link} {p : Packet} {rest : List Packet}

/-- A command that sets the lock: its mode is written, and the edge of CONFIG_LOCKED is latched. -/
theorem takeOwned_setLock {m : Lock} (h : nextPacket s = some (l, p, rest)) (hn : names p = true)
    (hl : lengthOk p.payload.length = true)
    (ho : owner l p (dequeue l rest (s.advance t)) = .accept ((dequeue l rest (s.advance t)).setLock m) []) :
    takeOwned names lengthOk false owner t s = latchEdges s { answered s t l p rest .ok [] with
      engine := { (answered s t l p rest .ok []).engine with lock := m } } :=
  takeOwned_accepted h hn hl rfl ho

/-- A command that is accepted with no change is answered OK. -/
theorem takeOwned_unchanged (h : nextPacket s = some (l, p, rest)) (hn : names p = true)
    (hl : lengthOk p.payload.length = true)
    (ho : owner l p (dequeue l rest (s.advance t)) = .accept (dequeue l rest (s.advance t)) []) :
    takeOwned names lengthOk false owner t s = answered s t l p rest .ok [] :=
  takeOwned_accepted_of_levels_eq h hn hl rfl ho rfl

/-- CONFIG_LOCK by the lock in force. -/
theorem configLockOwner_dequeue {m : Lock} (hm : lockNamed (p.u8 0) = some m) :
    (s.engine.lock = .none → configLockOwner l p (dequeue l rest (s.advance t)) =
      if somethingPending s then .refuse .busy [] else .accept ((dequeue l rest (s.advance t)).setLock m) [])
    ∧ (s.engine.lock = .normal → configLockOwner l p (dequeue l rest (s.advance t)) =
      .accept ((dequeue l rest (s.advance t)).setLock m) [])
    ∧ (s.engine.lock = .oneWay → configLockOwner l p (dequeue l rest (s.advance t)) =
      if m = .oneWay then .accept (dequeue l rest (s.advance t)) [] else .refuse .locked []) := by
  have same : (dequeue l rest (s.advance t)).engine.lock = s.engine.lock := rfl
  refine ⟨fun lock => ?_, fun lock => ?_, fun lock => ?_⟩
  · simp only [configLockOwner, lockOf_eq, hm, same, lock]
    rfl
  · simp only [configLockOwner, lockOf_eq, hm, same, lock]
  · cases m <;> simp [configLockOwner, lockOf_eq, hm, lock]

/-- CONFIG_UNLOCK by the lock in force: from NONE there is nothing to change. -/
theorem configUnlockOwner_dequeue :
    (s.engine.lock = .none → configUnlockOwner l p (dequeue l rest (s.advance t)) =
      .accept (dequeue l rest (s.advance t)) [])
    ∧ (s.engine.lock = .normal → configUnlockOwner l p (dequeue l rest (s.advance t)) =
      .accept ((dequeue l rest (s.advance t)).setLock .none) [])
    ∧ (s.engine.lock = .oneWay → configUnlockOwner l p (dequeue l rest (s.advance t)) = .refuse .locked []) := by
  have same : (dequeue l rest (s.advance t)).engine.lock = s.engine.lock := rfl
  refine ⟨fun lock => ?_, fun lock => ?_, fun lock => ?_⟩
  · have kept : (dequeue l rest (s.advance t)).setLock .none = dequeue l rest (s.advance t) := by rw [← lock]; rfl
    simp only [configUnlockOwner, same, lock, kept]
  · simp only [configUnlockOwner, same, lock]
  · simp only [configUnlockOwner, same, lock]

end

/-- Settles O17: both commands by the lock in force, and CONFIG_LOCK by the mode that it names. -/
theorem configLockFollowsItsTable : Obligations.ConfigLockFollowsItsTable := by
  unfold Obligations.ConfigLockFollowsItsTable
  intro s t l p rest h pending locked
  refine ⟨fun hcode hlength => congrArg Host.Outcome.next ?_, fun hcode hlength => congrArg Host.Outcome.next ?_⟩
  · have hn : (p.code == 0x33#8) = true := beq_iff_eq.mpr hcode
    have hl : (p.payload.length == 1) = true := beq_iff_eq.mpr hlength
    cases hm : lockNamed (p.u8 0) with
    | none => exact takeOwned_answered_of_refuse h hn hl rfl (by simp only [configLockOwner, lockOf_eq, hm])
    | some m =>
      obtain ⟨fromNone, fromNormal, fromOneWay⟩ := configLockOwner_dequeue (s := s) (t := t) (l := l) (rest := rest) hm
      cases lock : s.engine.lock with
      | none =>
        have owner := fromNone lock
        rw [somethingPending_eq] at owner
        dsimp only
        split_ifs with busy
        · exact takeOwned_answered_of_refuse h hn hl rfl (owner.trans (if_pos busy))
        · exact takeOwned_setLock h hn hl (owner.trans (if_neg busy))
      | normal => exact takeOwned_setLock h hn hl (fromNormal lock)
      | oneWay =>
        cases m with
        | oneWay => exact takeOwned_unchanged h hn hl ((fromOneWay lock).trans (if_pos rfl))
        | normal | none => exact takeOwned_answered_of_refuse h hn hl rfl ((fromOneWay lock).trans (if_neg nofun))
  · have hn : (p.code == 0x34#8) = true := beq_iff_eq.mpr hcode
    have hl : (p.payload.length == 0) = true := beq_iff_eq.mpr hlength
    obtain ⟨fromNone, fromNormal, fromOneWay⟩ :=
      configUnlockOwner_dequeue (s := s) (t := t) (l := l) (p := p) (rest := rest)
    cases lock : s.engine.lock with
    | none => exact takeOwned_unchanged h hn hl (fromNone lock)
    | normal => exact takeOwned_setLock h hn hl (fromNormal lock)
    | oneWay => exact takeOwned_answered_of_refuse h hn hl rfl (fromOneWay lock)

/-! ### The pattern and the controller of an output (R144, R185, R186) -/

/-- The pattern and the controller of an output are written, each by what is found there and by the time. -/
def writeOutput (pattern : Option Pattern → Option Pattern)
    (controller : Nat → Option Pattern → Controller → Controller) (o : Out) (s : State) : State :=
  { s with
    part := { s.part with patterns := s.part.patterns.set o (pattern (s.part.patterns.get o)) }
    controllers := s.controllers.set o (controller s.now (s.part.patterns.get o) (s.controllers.get o)) }

/-- The outputs of a mask are written one after the other, and neither reads what the other wrote. -/
theorem forOutputs_writeOutput (m : Mask) (pattern : Option Pattern → Option Pattern)
    (controller : Nat → Option Pattern → Controller → Controller) (s : State) :
    forOutputs m (writeOutput pattern controller) s = { s with
      part := { s.part with patterns := forOuts fun o =>
        (if m.get o then pattern (s.part.patterns.get o) else s.part.patterns.get o) }
      controllers := forOuts fun o =>
        (if m.get o then controller s.now (s.part.patterns.get o) (s.controllers.get o)
        else s.controllers.get o) } := by
  obtain ⟨m0, m1⟩ := m
  cases m0 <;> cases m1 <;> rfl

/-- The controller under a pattern, by the pattern found on the output: one that starts releases the request (R144). -/
def Controller.underPattern (_ : Nat) (found : Option Pattern) (c : Controller) : Controller :=
  if found.isNone then { c with douser := false, douserTimer := none } else c

theorem startPattern_eq (pat : Pattern) :
    startPattern pat = writeOutput (fun _ => some pat) Controller.underPattern := by
  funext o s
  unfold startPattern writeOutput Controller.underPattern
  cases found : s.part.patterns.get o with
  | none => rfl
  | some q =>
    dsimp only [Option.isNone]
    rw [if_neg Bool.false_ne_true, PerOut.set_self]

/-- The controller after the pattern found on its output has ended (R144, R186). -/
def Controller.pastPattern (now : Nat) (found : Option Pattern) (c : Controller) : Controller :=
  if found.isSome && c.isDark && !c.douser then c.startDouserTimer now else c

theorem afterPattern_eq (s : State) (now : Nat) (o : Out) :
    afterPattern s now o = (s.controllers.get o).pastPattern now (s.part.patterns.get o) := by
  simp only [afterPattern, Controller.pastPattern, startDouserTimer_eq]
  rfl

theorem endPattern_eq : endPattern = writeOutput (fun _ => none) Controller.pastPattern := by
  funext o s
  unfold endPattern writeOutput Controller.pastPattern
  cases found : s.part.patterns.get o with
  | none =>
    have unchanged : s.part.patterns.set o none = s.part.patterns := by rw [← found, PerOut.set_self]
    simp only [Option.isSome, Bool.false_and, Bool.false_eq_true, if_false, unchanged, PerOut.set_self]
  | some q =>
    simp only [Option.isSome, Bool.true_and]
    split_ifs
    · rfl
    · rw [PerOut.set_self]

theorem active_iff (x : Override) : x.active = true ↔ x ≠ .none := by
  cases x <;> simp [Override.active]

/-- The owner's tests in their order, on the state that the taking of the packet leaves (R185). -/
theorem patternOwner_dequeue {p : Packet} {kind : PatternKind} (hk : patternKindNamed (p.u8 0) = some kind) (l : Link)
    (rest : List Packet) (s : State) (t : Nat) :
    patternOwner l p (dequeue l rest (s.advance t)) =
      if (p.u16 3).toNat = 0 ∨ 600 < (p.u16 3).toNat then .refuse .badParam []
      else if s.engine.lock ≠ .none then .refuse .locked []
      else if s.part.service ≠ .none then .refuse .overridden []
      else if s.part.state.inStandby then .refuse .standby []
      else .accept { dequeue l rest (s.advance t) with
        part := { s.part with patterns := forOuts fun o =>
          (if p.outputs.get o then some ⟨kind, p.u16 1, max s.now t + 1000000 * (p.u16 3).toNat⟩
          else s.part.patterns.get o) }
        controllers := forOuts fun o =>
          (if p.outputs.get o then (s.controllers.get o).underPattern (max s.now t) (s.part.patterns.get o)
          else s.controllers.get o) } [] := by
  have duration : (decide ((p.u16 3).toNat = 0) || decide (600 < (p.u16 3).toNat)) = true
      ↔ (p.u16 3).toNat = 0 ∨ 600 < (p.u16 3).toNat := by
    rw [Bool.or_eq_true, decide_eq_true_iff, decide_eq_true_iff]
  simp only [patternOwner, patternKindOf_eq, hk, duration, isSet_iff, active_iff, startPattern_eq,
    forOutputs_writeOutput, seconds, Nat.mul_comm (p.u16 3).toNat]
  rfl

/-- Settles O22: the owner's refusals in the order of R185, each followed to its answer, and the pattern and the
controller of every output of the mask. -/
theorem patternStartsOrRenews : Obligations.PatternStartsOrRenews := by
  unfold Obligations.PatternStartsOrRenews
  intro s t l p rest h hcode hlength hmask
  have hn : (p.code == 0x51#8) = true := beq_iff_eq.mpr hcode
  have hl : (p.payload.length == 5) = true := beq_iff_eq.mpr hlength
  refine congrArg Host.Outcome.next ?_
  cases hk : patternKindNamed (p.u8 0) with
  | none => exact takeOwned_answered_of_refuse h hn hl hmask (by simp only [patternOwner, patternKindOf_eq, hk])
  | some kind =>
    have owner := patternOwner_dequeue hk l rest s t
    dsimp only
    split_ifs with hduration hlock hservice hstandby
    · exact takeOwned_answered_of_refuse h hn hl hmask (owner.trans (if_pos hduration))
    all_goals rw [if_neg hduration] at owner
    · exact takeOwned_answered_of_refuse h hn hl hmask (owner.trans (if_pos hlock))
    all_goals rw [if_neg hlock] at owner
    · exact takeOwned_answered_of_refuse h hn hl hmask (owner.trans (if_pos hservice))
    all_goals rw [if_neg hservice] at owner
    · exact takeOwned_answered_of_refuse h hn hl hmask (owner.trans (if_pos hstandby))
    · rw [if_neg hstandby] at owner
      have released (o : Out) :
          (if p.outputs.get o then (s.controllers.get o).underPattern (max s.now t) (s.part.patterns.get o)
            else s.controllers.get o) =
          if p.outputs.get o && (s.part.patterns.get o).isNone then
            { s.controllers.get o with douser := false, douserTimer := none }
          else s.controllers.get o := by
        unfold Controller.underPattern
        cases p.outputs.get o <;> rfl
      rw [funext released] at owner
      exact takeOwned_accepted (channel := true) h hn hl hmask owner

theorem patternEndOwner_dequeue (p : Packet) (l : Link) (rest : List Packet) (s : State) (t : Nat) :
    patternEndOwner l p (dequeue l rest (s.advance t)) = .accept { dequeue l rest (s.advance t) with
      part := { s.part with patterns := forOuts fun o => if p.outputs.get o then none else s.part.patterns.get o }
      controllers := forOuts fun o =>
        if p.outputs.get o then afterPattern s (max s.now t) o else s.controllers.get o } [] := by
  rw [patternEndOwner, endPattern_eq, forOutputs_writeOutput]
  simp only [afterPattern_eq]
  rfl

/-- Settles O23: PATTERN_END output by output of its mask, and the expiry of a pattern's time, both by what the end of a
pattern writes. -/
theorem patternEndsByCommandOrTime : Obligations.PatternEndsByCommandOrTime := by
  unfold Obligations.PatternEndsByCommandOrTime
  refine ⟨fun s t l p rest h hcode hlength hmask => congrArg Host.Outcome.next ?_, fun s o pat on => ?_⟩
  · have hn : (p.code == 0x52#8) = true := beq_iff_eq.mpr hcode
    have hl : (p.payload.length == 0) = true := beq_iff_eq.mpr hlength
    exact takeOwned_accepted (channel := true) h hn hl hmask (patternEndOwner_dequeue p l rest s t)
  · rw [afterPattern_eq]
    have ends : exec (.patternExpiry o) s =
        .next (latchEdges (s.advance pat.expires) (endPattern o (s.advance pat.expires))) := by
      show execPatternExpiry o s = _
      simp only [execPatternExpiry, on]
    rw [ends, endPattern_eq]
    rfl

end Sys2Proof.Machine
end

section
/-!
PROOFS. What the operations of the part leave of the Condition Flag Unit: the enables stay and a set flag stays set
(R168 to R170).
-/
namespace Sys2Proof.Machine

open Sys2Proof

/-- Every set flag stays set. -/
def FlagsStay (s s' : State) : Prop :=
  ∀ n : Nat, s.flagUnit.flags.getLsbD n = true → s'.flagUnit.flags.getLsbD n = true

/-- Every set flag stays set, and the enables stay. -/
structure FlagsKept (s s' : State) : Prop where
  rising : s'.flagUnit.rising = s.flagUnit.rising
  falling : s'.flagUnit.falling = s.flagUnit.falling
  stay : FlagsStay s s'

theorem FlagsKept.of_eq {s s' : State} (h : s'.flagUnit = s.flagUnit) : FlagsKept s s' :=
  ⟨by rw [h], by rw [h], fun n hn => by rwa [h]⟩

theorem FlagsKept.refl (s : State) : FlagsKept s s := .of_eq rfl

theorem FlagsKept.trans {s t u : State} (h : FlagsKept s t) (h' : FlagsKept t u) : FlagsKept s u where
  rising := h'.rising.trans h.rising
  falling := h'.falling.trans h.falling
  stay n hn := h'.stay n (h.stay n hn)

/-- An operation that leaves the unit may follow. -/
theorem FlagsKept.then_same {s t u : State} (h : FlagsKept s t) (same : u.flagUnit = t.flagUnit) : FlagsKept s u :=
  h.trans (.of_eq same)

/-- An operation that leaves the unit may come before. -/
theorem FlagsKept.from_same {s t u : State} (h : FlagsKept t u) (same : t.flagUnit = s.flagUnit) : FlagsKept s u :=
  (FlagsKept.of_eq same).trans h

theorem FlagsKept.of_startFlags {s s' : State} (h : StartFlags s.flagUnit s'.flagUnit) : FlagsKept s s' :=
  ⟨h.rising, h.falling, h.kept⟩

theorem flagsKept_advance (s : State) (t : Nat) : FlagsKept s (s.advance t) := .of_eq rfl

/-! ### Events and edges (R168, R170) -/

theorem flagsKept_raise (s : State) (e : Event) : FlagsKept s (s.raise e) where
  rising := raise_rising s e
  falling := raise_falling s e
  stay n hn := by rw [raise_flag s e (BitVec.lt_of_getLsbD hn), hn, Bool.true_or]

theorem flagsKept_raiseIf (s : State) (b : Bool) (e : Event) : FlagsKept s (s.raiseIf b e) := by
  cases b
  · exact .refl s
  · exact flagsKept_raise s e

theorem flag_latchEdges (s s' : State) {n : Nat} (h : n < 24) :
    (latchEdges s s').flagUnit.flags.getLsbD n =
      (s'.flagUnit.flags.getLsbD n || (decide (n < 12) &&
        ((!(levels s).getLsbD n && (levels s').getLsbD n && s'.flagUnit.rising.getLsbD n)
          || ((levels s).getLsbD n && !(levels s').getLsbD n && s'.flagUnit.falling.getLsbD n)))) := by
  rw [← edgeFlags_getLsbD _ _ _ n h]
  exact BitVec.getLsbD_or

theorem flagsKept_latchEdges (s s' : State) : FlagsKept s' (latchEdges s s') where
  rising := rfl
  falling := rfl
  stay n hn := by rw [flag_latchEdges s s' (BitVec.lt_of_getLsbD hn), hn, Bool.true_or]

/-- A link event keeps the flags that its work keeps. -/
theorem FlagsKept.linkEvent {s0 s u : State} (h : FlagsKept s u) : Answers (FlagsKept s) (linkEvent s0 u) :=
  (h.then_same (keepIdleTimer_flagUnit u)).trans (flagsKept_latchEdges s0 _)

/-! ### The Frame Store (R92 to R95) -/

theorem flagsKept_dropFrame (l : Link) (cause : DropCause) (s : State) : FlagsKept s (dropFrame l cause s) :=
  .of_startFlags (dropFrame_startFlags l cause s)

theorem flagsKept_dropFilling (l : Link) (cause : DropCause) (s : State) : FlagsKept s (dropFilling l cause s) :=
  .of_startFlags (dropFilling_startFlags l cause s)

theorem flagsKept_offerFrame (l : Link) (h : Header) (s : State) : FlagsKept s (offerFrame l h s) := by
  obtain ⟨cause, hx⟩ | hx | ⟨i, -, -, hx⟩ := offerFrame_cases l h s
  · rw [hx]; exact flagsKept_dropFrame l cause s
  · rw [hx]; exact .refl s
  · rw [hx]; exact .of_eq rfl

theorem flagsKept_completeFrame (l : Link) (i : SlotIndex) (f : Frame) (s : State) :
    FlagsKept s (completeFrame l i f s) := by
  have freed : FlagsKept s (dropFrame l .late (s.setSlot ⟨l, i⟩ .free)) :=
    (flagsKept_dropFrame l .late _).from_same rfl
  unfold completeFrame
  split
  · exact freed
  · split
    · exact .of_eq rfl
    · exact freed

theorem flagsKept_storeLine (l : Link) (line : List Pixel) (s : State) : FlagsKept s (storeLine l line s) := by
  unfold storeLine
  split
  · exact .refl s
  · split
    · dsimp only
      split
      · exact .of_eq rfl
      · exact flagsKept_completeFrame l _ _ s
    all_goals exact .refl s

/-! ### The ports (R107 to R121) -/

theorem wakeOnLock_flagUnit (s : State) : (wakeOnLock s).flagUnit = s.flagUnit := by
  unfold wakeOnLock
  split <;> rfl

theorem enableReceiver_flagUnit (l : Link) (s : State) : (enableReceiver l s).flagUnit = s.flagUnit := by
  unfold enableReceiver
  split <;> rfl

theorem flagsKept_endFrame (l : Link) (s : State) : FlagsKept s (endFrame l s) :=
  (flagsKept_raiseIf s _ _).trans (flagsKept_dropFilling l _ _)

theorem flagsKept_enterHoldover (l : Link) (s : State) : FlagsKept s (enterHoldover l s) :=
  (flagsKept_endFrame l s).then_same rfl

theorem flagsKept_enterQuiet (l : Link) (s : State) : FlagsKept s (enterQuiet l s) := by
  have lost (u : State) : FlagsKept u (loseLoads l u) := (flagsKept_raiseIf _ _ _).from_same rfl
  exact ((flagsKept_raise s _).trans (lost _)).then_same rfl

theorem flagsKept_lockAndOffer (l : Link) (fromAligned : Bool) (h : Header) (s : State) :
    FlagsKept s (lockAndOffer l fromAligned h s) :=
  (flagsKept_offerFrame l h _).from_same (wakeOnLock_flagUnit _)

theorem flagsKept_badHeader (l : Link) (s : State) : FlagsKept s (badHeader l s) := by
  unfold badHeader
  split
  · exact .of_eq rfl
  · split
    · exact .of_eq rfl
    · exact flagsKept_enterHoldover l s
  · exact .of_eq rfl
  all_goals exact .refl s

theorem flagsKept_goodHeader (l : Link) (h : Header) (s : State) : FlagsKept s (goodHeader l h s) := by
  unfold goodHeader
  dsimp only
  split
  · exact .of_eq rfl
  · split_ifs
    · exact .of_eq rfl
    · exact flagsKept_lockAndOffer l _ h s
    · exact .of_eq rfl
  · split_ifs
    · exact (flagsKept_offerFrame l h _).from_same rfl
    · exact (flagsKept_dropFrame l _ _).from_same rfl
  · split_ifs
    · exact .of_eq rfl
    · exact flagsKept_lockAndOffer l _ h s
    · exact .of_eq rfl
  all_goals exact .refl s

theorem flagsKept_loseSignal (e : Nat) (l : Link) (s : State) : FlagsKept s (loseSignal e l s) := by
  unfold loseSignal
  split
  · exact .of_eq rfl
  · exact .of_eq rfl
  · split
    · exact (flagsKept_endFrame l s).then_same rfl
    · exact flagsKept_enterHoldover l s
  · exact .of_eq rfl
  all_goals exact .refl s

theorem flagsKept_handOver (l : Link) (p : Packet) (s : State) : FlagsKept s (handOver l p s) := by
  unfold handOver
  dsimp only
  split
  · exact .of_eq rfl
  · exact flagsKept_raise s _

theorem flagsKept_areaBytes (l : Link) (due : Nat) (b : FrameBody) (buf : List Byte) (s : State) :
    FlagsKept s (areaBytes l due b buf s) := by
  induction due generalizing b buf s with
  | zero => exact .refl s
  | succ due ih =>
    have read (x : FrameProgress) : FlagsKept s (s.setFrame l x) := .of_eq rfl
    unfold areaBytes
    dsimp only
    split_ifs
    · exact read _
    · exact (read _).trans (flagsKept_raise _ _)
    · exact read _
    · exact ((read _).trans (flagsKept_handOver l _ _)).trans (ih _ _ _)
    · exact ((read _).trans (flagsKept_raise _ _)).trans (ih _ _ _)

/-! ### Part state, patterns and service control (R180 to R189) -/

theorem wakeFromStandby_flagUnit (s : State) : (wakeFromStandby s).flagUnit = s.flagUnit := by
  unfold wakeFromStandby
  split <;> rfl

theorem flagsKept_standbyEntry (kind : StandbyKind) (s : State) : FlagsKept s (standbyEntry kind s) := by
  have darkened : FlagsKept s (s.darkened kind) := .of_eq rfl
  rw [standbyEntry_eq]
  exact (darkened.trans (flagsKept_raiseIf _ _ _)).trans (flagsKept_raiseIf _ _ _)

theorem decodeGroup_flagUnit (count : Nat) (s : State) : (decodeGroup count s).flagUnit = s.flagUnit := by
  unfold decodeGroup
  split
  · unfold overrideDark
    dsimp only
    split <;> rfl
  · exact wakeFromStandby_flagUnit _
  · rfl
  · rfl

/-! ### Period starts (R60) -/

theorem flagsKept_periodStart (before s : State) : FlagsKept s (periodStart before s) := by
  obtain ⟨rising, falling⟩ := periodStart_enables before s
  refine ⟨rising, falling, fun n hn => ?_⟩
  rw [periodStart_flag before s (BitVec.lt_of_getLsbD hn), (startWork_startFlags s).kept n hn, Bool.true_or]

theorem flagsKept_makeStart {before s : State} (h : FlagsKept before s) : FlagsKept before (makeStart before s) := by
  unfold makeStart
  split
  · exact .refl before
  · exact h.trans (flagsKept_periodStart before s)

theorem flagsKept_startAtWord (d n : Period) (period : Nat) (s : State) : FlagsKept s (startAtWord d n period s) :=
  flagsKept_makeStart ((flagsKept_raiseIf (s.startClock _ _ _ _) _ _).from_same rfl)

theorem flagsKept_acceptWord (n : Period) (s : State) : FlagsKept s (acceptWord n s) := by
  unfold acceptWord
  split
  · exact .of_eq rfl
  · split_ifs
    · exact flagsKept_makeStart (.of_eq rfl)
    · exact .of_eq rfl
  · split_ifs
    · exact flagsKept_startAtWord _ n _ s
    · exact .refl s
  · exact flagsKept_startAtWord _ n _ s

theorem flagsKept_generatorStart (s : State) : FlagsKept s (generatorStart s) := by
  unfold generatorStart
  split
  · exact flagsKept_makeStart (.of_eq rfl)
  · exact flagsKept_makeStart (.of_eq rfl)
  · exact flagsKept_makeStart (.of_eq rfl)
  · exact .refl s

end Sys2Proof.Machine
end

section
/-!
PROOFS. The owners of the commands that leave the Condition Flag Unit, every row of the table, and the levels (R147,
R167, R168, R170).
-/
namespace Sys2Proof.Machine

open Sys2Proof

/-! ### The owners of commands -/

/-- The owner's reply leaves the Condition Flag Unit as the owner found it. -/
def Reply.LeavesFlags (s : State) : Reply → Prop := Reply.Has fun s' => s'.flagUnit = s.flagUnit

theorem stopMixing_flagUnit (o : Out) (k : Kind) (s : State) : (stopMixing o k s).flagUnit = s.flagUnit := by
  cases k <;> rfl

theorem tableOpenOwner_leavesFlags (l : Link) (p : Packet) (s : State) : (tableOpenOwner l p s).LeavesFlags s := by
  unfold tableOpenOwner
  split
  · trivial
  · dsimp only
    split_ifs
    · trivial
    · trivial
    · trivial
    · exact stopMixing_flagUnit _ _ _

theorem tableDataOwner_leavesFlags (l : Link) (p : Packet) (s : State) : (tableDataOwner l p s).LeavesFlags s := by
  unfold tableDataOwner
  split
  · trivial
  · split
    · dsimp only; split_ifs <;> trivial
    all_goals trivial

theorem tableCloseOwner_leavesFlags (l : Link) (p : Packet) (s : State) : (tableCloseOwner l p s).LeavesFlags s := by
  unfold tableCloseOwner
  split
  · trivial
  · split
    · split_ifs <;> trivial
    all_goals trivial

theorem tableDiscardOwner_leavesFlags (l : Link) (p : Packet) (s : State) :
    (tableDiscardOwner l p s).LeavesFlags s := by
  unfold tableDiscardOwner
  split
  · trivial
  · split
    · rfl
    · split_ifs <;> trivial
    · trivial
    · split_ifs
      · trivial
      · exact stopMixing_flagUnit _ _ _

theorem swapOwner_leavesFlags (l : Link) (p : Packet) (s : State) : (swapOwner l p s).LeavesFlags s := by
  unfold swapOwner
  dsimp only
  split
  · trivial
  · split_ifs
    · trivial
    · trivial
    · trivial
    · exact foldl_keeps (view := State.flagUnit) (f := bookSwap _) (fun _ _ => rfl) _ s

theorem gainOwner_leavesFlags (l : Link) (p : Packet) (s : State) : (gainOwner l p s).LeavesFlags s := by
  unfold gainOwner
  dsimp only
  split_ifs <;> trivial

theorem cueAddOwner_leavesFlags (l : Link) (p : Packet) (s : State) : (cueAddOwner l p s).LeavesFlags s := by
  unfold cueAddOwner
  dsimp only
  split
  · trivial
  · split_ifs <;> trivial

theorem cueCancelOwner_leavesFlags (l : Link) (p : Packet) (s : State) : (cueCancelOwner l p s).LeavesFlags s := by
  unfold cueCancelOwner
  split_ifs <;> trivial

theorem routeOwner_leavesFlags (l : Link) (p : Packet) (s : State) : (routeOwner l p s).LeavesFlags s := by
  unfold routeOwner
  split
  · trivial
  · split_ifs <;> trivial

theorem selectOwner_leavesFlags (l : Link) (p : Packet) (s : State) : (selectOwner l p s).LeavesFlags s := by
  unfold selectOwner
  split
  · trivial
  · split_ifs <;> trivial

theorem configLockOwner_leavesFlags (l : Link) (p : Packet) (s : State) : (configLockOwner l p s).LeavesFlags s := by
  unfold configLockOwner
  split
  · trivial
  · split
    · split_ifs <;> trivial
    all_goals trivial

theorem configUnlockOwner_leavesFlags (l : Link) (p : Packet) (s : State) :
    (configUnlockOwner l p s).LeavesFlags s := by
  unfold configUnlockOwner
  split <;> trivial

theorem setOutputOwner_leavesFlags (l : Link) (p : Packet) (s : State) : (setOutputOwner l p s).LeavesFlags s := by
  unfold setOutputOwner
  dsimp only
  split
  · trivial
  · split_ifs <;> trivial

theorem patternOwner_leavesFlags (l : Link) (p : Packet) (s : State) : (patternOwner l p s).LeavesFlags s := by
  unfold patternOwner
  dsimp only
  split
  · trivial
  · split_ifs
    · trivial
    · trivial
    · trivial
    · trivial
    · rw [startPattern_eq, forOutputs_writeOutput]
      rfl

theorem patternEndOwner_leavesFlags (l : Link) (p : Packet) (s : State) : (patternEndOwner l p s).LeavesFlags s := by
  unfold patternEndOwner
  rw [endPattern_eq, forOutputs_writeOutput]
  rfl

theorem standbyExitOwner_leavesFlags (l : Link) (p : Packet) (s : State) :
    (standbyExitOwner l p s).LeavesFlags s := by
  unfold standbyExitOwner
  split_ifs
  · trivial
  · exact wakeFromStandby_flagUnit s

theorem standbyDelayOwner_leavesFlags (l : Link) (p : Packet) (s : State) :
    (standbyDelayOwner l p s).LeavesFlags s := by
  unfold standbyDelayOwner
  dsimp only
  split_ifs <;> trivial

/-- Standby entry may raise FRAME_DROP. -/
theorem standbyEnterOwner_keepsFlags (l : Link) (p : Packet) (s : State) :
    (standbyEnterOwner l p s).Has (FlagsKept s) := by
  unfold standbyEnterOwner
  split_ifs
  · trivial
  · split
    · exact .of_eq rfl
    · exact .refl s
    · exact flagsKept_standbyEntry _ s
    · exact flagsKept_standbyEntry _ s
    · exact .refl s

/-! ### Taking a command (R154 to R158) -/

section
variable {names : Packet → Bool} {lengthOk : Nat → Bool} {channel : Bool} {owner : Link → Packet → State → Reply}

/-- What holds of the Condition Flag Unit in the state that a command finds, in the state that its owner leaves, and
with the edges latched, holds in the state that the taking of it leaves. -/
theorem takeOwned_ofFlags {P : State → Prop} (reads : ∀ {u v : State}, P u → v.flagUnit = u.flagUnit → P v)
    (latches : ∀ {u v : State}, P v → P (latchEdges u v)) {s : State} (hs : P s)
    (ho : ∀ (l : Link) (p : Packet) (u : State), u.flagUnit = s.flagUnit → (owner l p u).Has P) (t : Nat) :
    P (takeOwned names lengthOk channel owner t s) := by
  have timed : P (s.advance t) := reads hs rfl
  unfold takeOwned takeCommand
  split
  · exact timed
  · next l p rest _ =>
    have taken : P (dequeue l rest (s.advance t)) := reads hs rfl
    have reply := generalChecks_has (ok := lengthOk p.payload.length) (channel := channel) (p := p)
      (ho l p (dequeue l rest (s.advance t)) rfl)
    split
    · refine latches ?_
      dsimp only
      cases hr : generalChecks (lengthOk p.payload.length) channel p (owner l p (dequeue l rest (s.advance t))) with
      | refuse st payload => exact reads taken (placeResult_flagUnit l _ _)
      | accept s' payload =>
        rw [hr] at reply
        exact reads reply (placeResult_flagUnit l _ s')
      | defer s' =>
        rw [hr] at reply
        exact reads reply (reservePlace_flagUnit l s')
    · exact timed

theorem takeOwned_keepsFlags (ho : ∀ (l : Link) (p : Packet) (s : State), (owner l p s).Has (FlagsKept s)) (t : Nat)
    (s : State) : FlagsKept s (takeOwned names lengthOk channel owner t s) := by
  refine takeOwned_ofFlags (P := FlagsKept s) FlagsKept.then_same
    (fun h => h.trans (flagsKept_latchEdges _ _)) (.refl s) (fun l p u found => ?_) t
  have reply := ho l p u
  cases hr : owner l p u with
  | refuse _ _ => trivial
  | accept s' _ | defer s' =>
    rw [hr] at reply
    exact FlagsKept.from_same reply found

theorem takeOwned_ofLeavesFlags (ho : ∀ (l : Link) (p : Packet) (s : State), (owner l p s).LeavesFlags s) (t : Nat)
    (s : State) : FlagsKept s (takeOwned names lengthOk channel owner t s) := by
  refine takeOwned_keepsFlags (fun l p u => ?_) t s
  have reply := ho l p u
  cases hr : owner l p u with
  | refuse _ _ => trivial
  | accept s' _ | defer s' =>
    rw [hr] at reply
    exact .of_eq reply

end

/-- FLAGS_ARM writes the enables, and the edges that are then latched set flags at most. -/
theorem execFlagsArm_flagsStay (t : Nat) (s : State) : Answers (FlagsStay s) (execFlagsArm t s) := by
  have owner (l : Link) (p : Packet) (u : State) (found : u.flagUnit = s.flagUnit) :
      (flagsArmOwner l p u).Has (FlagsStay s) := fun n hn => by
    rw [← found] at hn
    exact hn
  exact takeOwned_ofFlags (P := FlagsStay s) (fun h same n hn => same ▸ h n hn)
    (fun h n hn => (flagsKept_latchEdges _ _).stay n (h n hn)) (fun _ => id) owner t

/-! ### The events of the links -/

theorem execSignalPresent_keepsFlags (t : Nat) (l : Link) (s : State) :
    Answers (FlagsKept s) (execSignalPresent t l s) := by
  unfold execSignalPresent
  dsimp only
  split
  · exact flagsKept_advance s t
  · split
    · split
      · exact .of_eq rfl
      · exact FlagsKept.linkEvent (.of_eq rfl)
    all_goals exact .of_eq rfl

theorem execSignalAbsent_keepsFlags (t : Nat) (l : Link) (s : State) :
    Answers (FlagsKept s) (execSignalAbsent t l s) := by
  unfold execSignalAbsent
  dsimp only
  split
  · exact flagsKept_advance s t
  · exact ((flagsKept_advance s t).trans (flagsKept_raiseIf _ _ _)).then_same rfl

theorem execSignalLost_keepsFlags (l : Link) (s : State) : Answers (FlagsKept s) (execSignalLost l s) := by
  unfold execSignalLost
  split
  · exact .refl s
  · exact FlagsKept.linkEvent ((flagsKept_loseSignal _ l _).from_same rfl)

theorem execFrameDelimiter_keepsFlags (t : Nat) (l : Link) (s : State) :
    Answers (FlagsKept s) (execFrameDelimiter t l s) := by
  have ended : FlagsKept s (endFrame l (s.advance t)) := (flagsKept_advance s t).trans (flagsKept_endFrame l _)
  have judged := ended.trans (flagsKept_badHeader l _)
  unfold execFrameDelimiter
  dsimp only
  split
  · refine FlagsKept.linkEvent ?_
    split
    · exact judged.then_same rfl
    · exact judged.then_same rfl
    all_goals exact ended.then_same rfl
  · exact flagsKept_advance s t

theorem execFrameHeader_keepsFlags (t : Nat) (l : Link) (bytes : BitVec 96) (s : State) :
    Answers (FlagsKept s) (execFrameHeader t l bytes s) := by
  unfold execFrameHeader
  dsimp only
  split
  · split
    · exact FlagsKept.linkEvent ((flagsKept_advance s t).trans (flagsKept_goodHeader l _ _))
    · exact FlagsKept.linkEvent ((flagsKept_badHeader l _).from_same rfl)
  · exact flagsKept_advance s t

theorem execPixelLine_keepsFlags (t : Nat) (l : Link) (bytes : List Byte) (s : State) :
    Answers (FlagsKept s) (execPixelLine t l bytes s) := by
  unfold execPixelLine
  dsimp only
  split
  · split
    · exact (flagsKept_storeLine l _ _).from_same rfl
    · exact flagsKept_advance s t
  all_goals exact flagsKept_advance s t

theorem execManagementPacket_keepsFlags (t : Nat) (l : Link) (bytes : List Byte) (s : State) :
    Answers (FlagsKept s) (execManagementPacket t l bytes s) := by
  unfold execManagementPacket
  dsimp only
  split
  · split
    · exact (flagsKept_advance s t).trans (flagsKept_areaBytes l _ _ _ _)
    · exact flagsKept_advance s t
  all_goals exact flagsKept_advance s t

theorem enterQuiet_keepsFlags (l : Link) (e : Nat) (s : State) :
    Answers (FlagsKept s) (linkEvent (s.advance e) (enterQuiet l (s.advance e))) :=
  FlagsKept.linkEvent ((flagsKept_advance s e).trans (flagsKept_enterQuiet l _))

theorem execLinkAcquisitionTimeout_keepsFlags (l : Link) (s : State) :
    Answers (FlagsKept s) (execLinkAcquisitionTimeout l s) := by
  unfold execLinkAcquisitionTimeout
  split
  · exact enterQuiet_keepsFlags l _ s
  · exact enterQuiet_keepsFlags l _ s
  all_goals exact .refl s

theorem execLossLimitExpiry_keepsFlags (l : Link) (s : State) : Answers (FlagsKept s) (execLossLimitExpiry l s) := by
  unfold execLossLimitExpiry
  split
  · exact enterQuiet_keepsFlags l _ s
  all_goals exact .refl s

theorem execQuietTimerExpiry_keepsFlags (l : Link) (s : State) :
    Answers (FlagsKept s) (execQuietTimerExpiry l s) := by
  unfold execQuietTimerExpiry
  split
  · refine FlagsKept.linkEvent ?_
    split <;> exact .of_eq rfl
  all_goals exact .refl s

/-! ### The events of the clock, of the outputs and of the part -/

theorem execSyncWord_keepsFlags (t : Nat) (cells : BitVec 48) (s : State) :
    Answers (FlagsKept s) (execSyncWord t cells s) := by
  have atMark : FlagsKept s (decoderAtMark (s.advance t)) := .of_eq rfl
  unfold execSyncWord
  dsimp only
  split_ifs
  · exact atMark.trans (flagsKept_acceptWord _ _)
  · exact atMark
  · exact flagsKept_advance s t

theorem execGeneratorStart_keepsFlags (s : State) : Answers (FlagsKept s) (execGeneratorStart s) := by
  unfold execGeneratorStart
  split
  · exact .refl s
  · next e _ => exact (flagsKept_advance s e).trans (flagsKept_generatorStart _)

theorem execTrackingWindowClose_keepsFlags (s : State) : Answers (FlagsKept s) (execTrackingWindowClose s) := by
  unfold execTrackingWindowClose
  split
  · next closes _ => exact (flagsKept_advance s closes).trans (flagsKept_makeStart (.of_eq rfl))
  all_goals exact .refl s

theorem execSyncAcquisitionTimeout_keepsFlags (s : State) :
    Answers (FlagsKept s) (execSyncAcquisitionTimeout s) := by
  unfold execSyncAcquisitionTimeout
  split <;> exact .of_eq rfl

theorem execResetRelease_keepsFlags (t : Nat) (s : State) : Answers (FlagsKept s) (execResetRelease t s) := by
  unfold execResetRelease
  dsimp only
  split <;> exact .of_eq rfl

theorem execInitialisationEnd_keepsFlags (t : Nat) (s : State) :
    Answers (FlagsKept s) (execInitialisationEnd t s) := by
  unfold execInitialisationEnd
  dsimp only
  split
  · have ended : FlagsKept s (endInitialisation (s.advance t)) :=
      .of_eq ((enableReceiver_flagUnit .b _).trans (enableReceiver_flagUnit .a _))
    exact ended.trans (flagsKept_latchEdges _ _)
  · exact flagsKept_advance s t

theorem execDouserTimerExpiry_keepsFlags (o : Out) (s : State) :
    Answers (FlagsKept s) (execDouserTimerExpiry o s) := by
  unfold execDouserTimerExpiry
  dsimp only
  split <;> exact .of_eq rfl

theorem execOpenTimerExpiry_keepsFlags (o : Out) (s : State) : Answers (FlagsKept s) (execOpenTimerExpiry o s) := by
  unfold execOpenTimerExpiry
  dsimp only
  split <;> exact .of_eq rfl

theorem execIdleTimerExpiry_keepsFlags (s : State) : Answers (FlagsKept s) (execIdleTimerExpiry s) := by
  unfold execIdleTimerExpiry
  split
  · exact .refl s
  · next e _ =>
    exact ((flagsKept_advance s e).trans (flagsKept_standbyEntry _ _)).trans (flagsKept_latchEdges _ _)

theorem execWakingTimerExpiry_keepsFlags (s : State) : Answers (FlagsKept s) (execWakingTimerExpiry s) := by
  unfold execWakingTimerExpiry
  split
  · exact (flagsKept_latchEdges _ _).from_same rfl
  all_goals exact .refl s

theorem execPatternExpiry_keepsFlags (o : Out) (s : State) : Answers (FlagsKept s) (execPatternExpiry o s) := by
  unfold execPatternExpiry
  rw [endPattern_eq]
  split
  · exact .refl s
  · exact (flagsKept_latchEdges _ _).from_same rfl

theorem execGroupTimerExpiry_keepsFlags (s : State) : Answers (FlagsKept s) (execGroupTimerExpiry s) := by
  unfold execGroupTimerExpiry
  split
  · exact .refl s
  · exact (flagsKept_latchEdges _ _).from_same (decodeGroup_flagUnit _ _)

theorem execOverrideTimerExpiry_keepsFlags (s : State) : Answers (FlagsKept s) (execOverrideTimerExpiry s) := by
  unfold execOverrideTimerExpiry
  split
  · exact .refl s
  all_goals exact (flagsKept_latchEdges _ _).from_same rfl

theorem execServiceTaken_keepsFlags (t : Nat) (s : State) :
    Answers (FlagsKept s) (execServiceTakenFall t s) ∧ Answers (FlagsKept s) (execServiceTakenRise t s) := by
  unfold execServiceTakenFall execServiceTakenRise
  constructor <;> split <;> exact .of_eq rfl

theorem endVerification_flagUnit (o : Out) (k : Kind) (s : State) : (endVerification o k s).flagUnit = s.flagUnit := by
  rw [endVerification_eq]

/-! ### Every row -/

/-- The rows that clear flags or write enables. -/
def writesFlags : Instr → Bool
  | .flagsArm _ | .flagsClear _ | .softReset _ | .powerOnReset _ | .resetPin _ => true
  | _ => false

theorem exec_keepsFlags {c : Instr} (h : writesFlags c = false) (s : State) : Answers (FlagsKept s) (exec c s) := by
  cases c with
  | tableOpen t => exact takeOwned_ofLeavesFlags tableOpenOwner_leavesFlags t s
  | tableData t => exact takeOwned_ofLeavesFlags tableDataOwner_leavesFlags t s
  | tableClose t => exact takeOwned_ofLeavesFlags tableCloseOwner_leavesFlags t s
  | tableDiscard t => exact takeOwned_ofLeavesFlags tableDiscardOwner_leavesFlags t s
  | swap t => exact takeOwned_ofLeavesFlags swapOwner_leavesFlags t s
  | gain t => exact takeOwned_ofLeavesFlags gainOwner_leavesFlags t s
  | cueAdd t => exact takeOwned_ofLeavesFlags cueAddOwner_leavesFlags t s
  | cueCancel t => exact takeOwned_ofLeavesFlags cueCancelOwner_leavesFlags t s
  | cueFlush t => exact takeOwned_ofLeavesFlags (owner := cueFlushOwner) (fun _ _ _ => rfl) t s
  | report t => exact takeOwned_ofLeavesFlags (owner := reportOwner) (fun _ _ _ => rfl) t s
  | route t => exact takeOwned_ofLeavesFlags routeOwner_leavesFlags t s
  | select t => exact takeOwned_ofLeavesFlags selectOwner_leavesFlags t s
  | configLock t => exact takeOwned_ofLeavesFlags configLockOwner_leavesFlags t s
  | configUnlock t => exact takeOwned_ofLeavesFlags configUnlockOwner_leavesFlags t s
  | setOutput t => exact takeOwned_ofLeavesFlags setOutputOwner_leavesFlags t s
  | status t => exact takeOwned_ofLeavesFlags (owner := statusOwner) (fun _ _ _ => rfl) t s
  | pattern t => exact takeOwned_ofLeavesFlags patternOwner_leavesFlags t s
  | patternEnd t => exact takeOwned_ofLeavesFlags patternEndOwner_leavesFlags t s
  | standbyEnter t => exact takeOwned_keepsFlags standbyEnterOwner_keepsFlags t s
  | standbyExit t => exact takeOwned_ofLeavesFlags standbyExitOwner_leavesFlags t s
  | standbyDelay t => exact takeOwned_ofLeavesFlags standbyDelayOwner_leavesFlags t s
  | unknownCommand t => exact takeOwned_ofLeavesFlags (owner := unknownOwner) (fun _ _ _ => trivial) t s
  | resetRelease t => exact execResetRelease_keepsFlags t s
  | initialisationEnd t => exact execInitialisationEnd_keepsFlags t s
  | syncWord t cells => exact execSyncWord_keepsFlags t cells s
  | generatorStart => exact execGeneratorStart_keepsFlags s
  | trackingWindowClose => exact execTrackingWindowClose_keepsFlags s
  | syncAcquisitionTimeout => exact execSyncAcquisitionTimeout_keepsFlags s
  | douserTimerExpiry o => exact execDouserTimerExpiry_keepsFlags o s
  | openTimerExpiry o => exact execOpenTimerExpiry_keepsFlags o s
  | signalPresent t l => exact execSignalPresent_keepsFlags t l s
  | signalAbsent t l => exact execSignalAbsent_keepsFlags t l s
  | signalLost l => exact execSignalLost_keepsFlags l s
  | frameDelimiter t l => exact execFrameDelimiter_keepsFlags t l s
  | frameHeader t l bytes => exact execFrameHeader_keepsFlags t l bytes s
  | pixelLine t l bytes => exact execPixelLine_keepsFlags t l bytes s
  | managementPacket t l bytes => exact execManagementPacket_keepsFlags t l bytes s
  | linkAcquisitionTimeout l => exact execLinkAcquisitionTimeout_keepsFlags l s
  | lossLimitExpiry l => exact execLossLimitExpiry_keepsFlags l s
  | quietTimerExpiry l => exact execQuietTimerExpiry_keepsFlags l s
  | verificationEnd t o k => exact (flagsKept_advance s t).then_same (endVerification_flagUnit o k _)
  | idleTimerExpiry => exact execIdleTimerExpiry_keepsFlags s
  | wakingTimerExpiry => exact execWakingTimerExpiry_keepsFlags s
  | patternExpiry o => exact execPatternExpiry_keepsFlags o s
  | groupTimerExpiry => exact execGroupTimerExpiry_keepsFlags s
  | overrideTimerExpiry => exact execOverrideTimerExpiry_keepsFlags s
  | serviceTakenFall t => exact (execServiceTaken_keepsFlags t s).1
  | serviceTakenRise t => exact (execServiceTaken_keepsFlags t s).2
  | flagsArm _ | flagsClear _ | softReset _ | powerOnReset _ | resetPin _ => cases h

/-- Every row but FLAGS_CLEAR, SOFT_RESET and the two resets keeps the set flags; FLAGS_ARM alone of these writes the
enables. -/
theorem exec_flags (c : Instr) {s s' : State} (h : exec c s = .next s')
    (clears : ∀ t : Nat, c ≠ .flagsClear t ∧ c ≠ .softReset t ∧ c ≠ .powerOnReset t ∧ c ≠ .resetPin t) :
    FlagsStay s s' ∧ ((∀ t : Nat, c ≠ .flagsArm t) → FlagsKept s s') := by
  cases hw : writesFlags c with
  | false =>
    have kept := exec_keepsFlags hw s
    rw [h] at kept
    exact ⟨FlagsKept.stay kept, fun _ => kept⟩
  | true =>
    unfold writesFlags at hw
    split at hw
    · next t =>
      have stay : Answers (FlagsStay s) (exec (.flagsArm t) s) := execFlagsArm_flagsStay t s
      rw [h] at stay
      exact ⟨stay, fun none => absurd rfl (none t)⟩
    · next t =>
      obtain ⟨other, -, -, -⟩ := clears t
      exact absurd rfl other
    · next t =>
      obtain ⟨-, other, -, -⟩ := clears t
      exact absurd rfl other
    · next t =>
      obtain ⟨-, -, other, -⟩ := clears t
      exact absurd rfl other
    · next t =>
      obtain ⟨-, -, -, other⟩ := clears t
      exact absurd rfl other
    · cases hw

/-! ### The levels (R147, R167) -/

/-- The levels in the order of their numbers. -/
theorem levels_getLsbD (s : State) (n : Nat) :
    (levels s).getLsbD n =
      [s.ports.a.state.isLocked, s.ports.b.state.isLocked, s.clock.state.isTracking, s.controllers.out0.onBackup,
        s.controllers.out1.onBackup, s.controllers.out0.isDark, s.controllers.out1.isDark, s.part.state.inStandby,
        s.part.service.active, s.part.patterns.out0.isSome, s.part.patterns.out1.isSome,
        s.engine.lock.isSet].getD n false := by
  rw [levels, levelsOf, BitVec.getLsbD_ofBoolListLE]

theorem isLocked_iff (x : LinkState) : x.isLocked = true ↔ ∃ bad since, x = .locked bad since := by
  cases x <;> simp [LinkState.isLocked]

theorem isTracking_iff (x : ClockState) : x.isTracking = true ↔ ∃ d opens closes, x = .tracking d opens closes := by
  cases x <;> simp [ClockState.isTracking]

theorem onBackup_iff (c : Controller) :
    c.onBackup = true ↔ c.role = some .backup ∧ c.state ≠ .dark ∧ c.state ≠ .opening := by
  have showing : c.state.showing = true ↔ c.state ≠ .dark ∧ c.state ≠ .opening := by
    cases c.state <;> decide
  rw [Controller.onBackup, Bool.and_eq_true, beq_iff_eq, showing, and_comm]

theorem isDark_iff (c : Controller) : c.isDark = true ↔ c.state = .dark := beq_iff_eq

theorem inStandby_iff (x : PartState) : x.inStandby = true ↔ (∃ kind, x = .standby kind) ∨ ∃ e, x = .waking e := by
  cases x <;> simp [PartState.inStandby]

theorem active_iff_dark_or_grid (x : Override) : x.active = true ↔ ∃ e, x = .dark e ∨ x = .grid e := by
  cases x <;> simp [Override.active]

theorem isSet_iff_normal_or_oneWay (m : Lock) : m.isSet = true ↔ m = .normal ∨ m = .oneWay := by
  cases m <;> decide

/-- Settles O20: the levels from the records they are read from, the numbers of the events, the flags that edges and
events set, and every row on the flags and the enables. -/
theorem flagsLatchEnabledEdgesAndStay : Obligations.FlagsLatchEnabledEdgesAndStay := by
  unfold Obligations.FlagsLatchEnabledEdgesAndStay
  refine ⟨fun s => ?_, rfl, fun s s' n => flag_latchEdges s s', fun s e n hn => ?_, fun c s s' h clears => ?_⟩
  · simp only [levels_getLsbD, List.getD_cons_zero, List.getD_cons_succ]
    exact ⟨isLocked_iff _, isLocked_iff _, isTracking_iff _, onBackup_iff _, onBackup_iff _, isDark_iff _, isDark_iff _,
      inStandby_iff _, active_iff_dark_or_grid _, Option.isSome_iff_ne_none, Option.isSome_iff_ne_none,
      isSet_iff_normal_or_oneWay _⟩
  · rw [raise_flag s e hn, Bool.and_comm]
  · obtain ⟨stay, kept⟩ := exec_flags c h clears
    exact ⟨stay, fun none => ⟨(kept none).rising, (kept none).falling⟩⟩

end Sys2Proof.Machine
end

section
/-!
PROOFS. A refused command: the result of another status than OK that a taken command appends tells that its row or its
owner refused it, and so the whole next state, row by row of the command table (R157, R158).
-/
namespace Sys2Proof.Machine

open Sys2Proof

/-! ### What an appended result tells of the reply (R157, R158, R160) -/

/-- A reply that defers its result leaves the result queues as the owner found them. -/
def Reply.DefersInPlace (s : State) : Reply → Prop
  | .refuse _ _ | .accept _ _ => True
  | .defer s' => s'.engine.results = s.engine.results

theorem generalChecks_defersInPlace {s : State} {ok channel : Bool} {p : Packet} {owner : Reply}
    (ho : owner.DefersInPlace s) : (generalChecks ok channel p owner).DefersInPlace s := by
  unfold generalChecks
  split_ifs
  · trivial
  · trivial
  · exact ho

/-- A settled reply that has appended a result of another status than OK is the refusal with that status: an acceptance
appends OK, and a deferral appends nothing. -/
theorem eq_refuse_of_settle {l : Link} {p : Packet} {s : State} {r : Reply} {st : Status} {payload : List Byte}
    (hr : r.DefersInPlace s) (hst : st ≠ .ok)
    (hq : (settle l p s r).engine.results.get l = s.engine.results.get l ++ [resultOf p st payload]) :
    r = .refuse st payload := by
  cases r with
  | refuse st' payload' =>
    rw [settle, placeResult_engine, PerLink.get_set_same, List.append_cancel_left_eq] at hq
    simp only [resultOf, List.cons.injEq, Result.mk.injEq] at hq
    obtain ⟨⟨-, rfl, -, rfl⟩, -⟩ := hq
    rfl
  | accept s' payload' =>
    rw [settle, placeResult_engine, PerLink.get_set_same] at hq
    have last : resultOf p .ok payload' = resultOf p st payload := List.singleton_inj.mp (List.append_inj_right' hq rfl)
    exact absurd (congrArg Result.status last).symm hst
  | defer s' =>
    rw [settle, reservePlace_engine, show s'.engine.results = s.engine.results from hr] at hq
    exact absurd (List.self_eq_append_right.mp hq) (List.cons_ne_nil _ _)

/-! ### A row that changes nothing where it refuses (R157) -/

/-- The row's command, where it appends a result of another status than OK, answers that result and nothing else. -/
def CommandRow.RefusesInPlace (row : CommandRow) : Prop :=
  ∀ (s s' : State) (t : Nat) (l : Link) (p : Packet) (rest : List Packet) (st : Status) (payload : List Byte),
    nextPacket s = some (l, p, rest) → exec (row.command t) s = .next s' →
    s'.engine.results.get l = s.engine.results.get l ++ [⟨p.code, st, p.tag, payload⟩] → st ≠ .ok →
    s' = answered s t l p rest st payload

/-- A command that does not occur appends no result. -/
theorem advance_appends_nothing {s : State} {t : Nat} {l : Link} {r : Result}
    (hq : (s.advance t).engine.results.get l = s.engine.results.get l ++ [r]) : False :=
  List.cons_ne_nil _ _ (List.self_eq_append_right.mp hq)

/-- A row taken by its owner refuses in place if its owner defers in place. -/
theorem refusesInPlace_of_owner {row : CommandRow} {names : Packet → Bool} {lengthOk : Nat → Bool} {channel : Bool}
    {owner : Link → Packet → State → Reply}
    (hexec : ∀ t s, exec (row.command t) s = .next (takeOwned names lengthOk channel owner t s))
    (ho : ∀ (l : Link) (p : Packet) (s : State), (owner l p s).DefersInPlace s) : row.RefusesInPlace := by
  intro s s' t l p rest st payload h hs hq hst
  rw [hexec, Host.Outcome.next.injEq] at hs
  subst hs
  cases hn : names p with
  | false =>
    rw [takeOwned, takeCommand_other h hn] at hq
    exact (advance_appends_nothing hq).elim
  | true =>
    rw [takeOwned, takeCommand_taken h hn, latchEdges_engine] at hq
    exact takeOwned_refused_answered h hn (eq_refuse_of_settle (generalChecks_defersInPlace (ho l p _)) hst hq)

/-! ### Deferrals, owner by owner -/

/-- An owner that leaves the queues defers nothing. -/
theorem Reply.Leaves.defersInPlace {q : Queued} {r : Reply} (h : r.Leaves q) (s : State) : r.DefersInPlace s := by
  cases r with
  | refuse _ _ | accept _ _ => trivial
  | defer s' => exact h.elim

/-- TABLE_CLOSE alone defers, and writes its bank pair alone (R17). -/
theorem tableCloseOwner_defersInPlace (l : Link) (p : Packet) (s : State) :
    (tableCloseOwner l p s).DefersInPlace s := by
  unfold tableCloseOwner
  split
  · trivial
  · split
    · split_ifs
      · trivial
      · trivial
      · rfl
    all_goals trivial

theorem cueAddOwner_defersInPlace (l : Link) (p : Packet) (s : State) : (cueAddOwner l p s).DefersInPlace s := by
  unfold cueAddOwner
  dsimp only
  split
  · trivial
  · split_ifs <;> trivial

theorem cueCancelOwner_defersInPlace (l : Link) (p : Packet) (s : State) :
    (cueCancelOwner l p s).DefersInPlace s := by
  unfold cueCancelOwner
  split_ifs <;> trivial

theorem softResetOwner_defersInPlace (l : Link) (p : Packet) (s : State) :
    (softResetOwner l p s).DefersInPlace s := by
  unfold softResetOwner
  split <;> trivial

/-! ### The rows of the command table -/

/-- SOFT_RESET, which latches no edge of its own, refuses in place. -/
theorem refusesInPlace_softReset : CommandRow.RefusesInPlace ⟨.softReset, 0x7E, (· == 1), false⟩ := by
  intro s s' t l p rest st payload h hs hq hst
  change execSoftReset t s = _ at hs
  simp only [execSoftReset, h] at hs
  split_ifs at hs
  · cases hs
    have refused := eq_refuse_of_settle (generalChecks_defersInPlace (softResetOwner_defersInPlace l p _)) hst hq
    rw [runSoftReset, refused]
    rfl
  · cases hs
    exact (advance_appends_nothing hq).elim

/-- Every row of the command table refuses in place. -/
theorem refusesInPlace_of_mem_commandTable : ∀ row ∈ commandTable, row.RefusesInPlace := by
  simp only [commandTable, List.cons_append, List.nil_append, List.forall_mem_cons]
  exact
    ⟨refusesInPlace_of_owner (fun _ _ => rfl) fun l p s => (tableOpenOwner_leaves l p s).defersInPlace s,
     refusesInPlace_of_owner (fun _ _ => rfl) fun l p s => (tableDataOwner_leaves l p s).defersInPlace s,
     refusesInPlace_of_owner (fun _ _ => rfl) tableCloseOwner_defersInPlace,
     refusesInPlace_of_owner (fun _ _ => rfl) fun l p s => (tableDiscardOwner_leaves l p s).defersInPlace s,
     refusesInPlace_of_owner (fun _ _ => rfl) fun l p s => (swapOwner_leaves l p s).defersInPlace s,
     refusesInPlace_of_owner (fun _ _ => rfl) fun l p s => (gainOwner_leaves l p s).defersInPlace s,
     refusesInPlace_of_owner (fun _ _ => rfl) cueAddOwner_defersInPlace,
     refusesInPlace_of_owner (fun _ _ => rfl) cueCancelOwner_defersInPlace,
     refusesInPlace_of_owner (owner := cueFlushOwner) (fun _ _ => rfl) fun _ _ _ => trivial,
     refusesInPlace_of_owner (owner := reportOwner) (fun _ _ => rfl) fun _ _ _ => trivial,
     refusesInPlace_of_owner (fun _ _ => rfl) fun l p s => (routeOwner_leaves l p s).defersInPlace s,
     refusesInPlace_of_owner (fun _ _ => rfl) fun l p s => (selectOwner_leaves l p s).defersInPlace s,
     refusesInPlace_of_owner (fun _ _ => rfl) fun l p s => (configLockOwner_leaves l p s).defersInPlace s,
     refusesInPlace_of_owner (fun _ _ => rfl) fun l p s => (configUnlockOwner_leaves l p s).defersInPlace s,
     refusesInPlace_of_owner (fun _ _ => rfl) fun l p s => (setOutputOwner_leaves l p s).defersInPlace s,
     refusesInPlace_of_owner (owner := flagsArmOwner) (fun _ _ => rfl) fun _ _ _ => trivial,
     refusesInPlace_of_owner (owner := flagsClearOwner) (fun _ _ => rfl) fun _ _ _ => trivial,
     refusesInPlace_of_owner (owner := statusOwner) (fun _ _ => rfl) fun _ _ _ => trivial,
     refusesInPlace_of_owner (fun _ _ => rfl) fun l p s => (patternOwner_leaves l p s).defersInPlace s,
     refusesInPlace_of_owner (owner := patternEndOwner) (fun _ _ => rfl) fun _ _ _ => trivial,
     refusesInPlace_of_owner (fun _ _ => rfl) fun l p s => (standbyEnterOwner_leaves l p s).defersInPlace s,
     refusesInPlace_of_owner (fun _ _ => rfl) fun l p s => (standbyExitOwner_leaves l p s).defersInPlace s,
     refusesInPlace_of_owner (fun _ _ => rfl) fun l p s => (standbyDelayOwner_leaves l p s).defersInPlace s,
     refusesInPlace_softReset, List.forall_mem_nil _⟩

/-- Settles O4: every row of the command table refuses in place, since a result of another status than OK comes from a
refusal alone. -/
theorem refusalPlacesOnlyItsResult : Obligations.RefusalPlacesOnlyItsResult := by
  unfold Obligations.RefusalPlacesOnlyItsResult
  exact refusesInPlace_of_mem_commandTable

end Sys2Proof.Machine
end

section
/-!
PROOFS. The invariants at power-on reset: the banks are EMPTY with no pin, swap or fade, and every other block is as its
own reset leaves it.
-/
namespace Sys2Proof.Machine

open Sys2Proof

/-- A pair at its reset value, with no swap and no fade in flight, is in order (R25). -/
theorem pairOk_of_reset {s : State} {o : Out} {k : Kind} (pair : s.pair o k = BankPair.reset)
    (swap : s.pendingSwaps.at2 o k = none) (fade : s.fades.get o = none) : PairOk s o k := by
  have still : fadeOn s o k = false := by
    cases k with
    | warp => rfl
    | blend => rw [fadeOn, fade]; rfl
  rw [PairOk, pair, swap, still]
  exact ⟨trivial, trivial, rfl, rfl, rfl, nofun, nofun⟩

theorem banksOk_powerOnReset (s : State) : BanksOk (powerOnReset s) := by
  have swap (o : Out) (k : Kind) : (powerOnReset s).pendingSwaps.at2 o k = none := by cases o <;> cases k <;> rfl
  have fade (o : Out) : (powerOnReset s).fades.get o = none := by cases o <;> rfl
  refine ⟨fun o k => pairOk_of_reset ?_ (swap o k) (fade o), fun o k => ?_, fun o => ?_, nofun⟩
  · cases o <;> cases k <;> rfl
  · rw [swap]; nofun
  · rw [fade]; nofun

/-- A power-on reset right after a power-on reset changes nothing. -/
theorem powerOnReset_reset : powerOnReset State.reset = State.reset := rfl

/-- Settles O55: the state right after power-on reset is one that a power-on reset leaves, and that command establishes
each invariant from any state. -/
theorem invariantsHoldAtReset : Obligations.InvariantsHoldAtReset := by
  unfold Obligations.InvariantsHoldAtReset
  rw [← powerOnReset_reset]
  exact ⟨queuesOk_of_empty (queued_powerOnReset _), banksOk_powerOnReset _, clockOk_of_reset rfl, storeOk_powerOnReset _,
    outputsOk_powerOnReset _, douserTimed_powerOnReset _⟩

end Sys2Proof.Machine
end

section
/-!
PROOFS. FLAGS_ARM and FLAGS_CLEAR: a command that writes the Condition Flag Unit alone leaves every level, so that no
edge is latched over what it writes (R167, R171, R172).
-/
namespace Sys2Proof.Machine

open Sys2Proof

/-- A command accepted with a change of the flag unit alone is answered OK beside that change. -/
theorem takeOwned_flagUnit {names : Packet → Bool} {lengthOk : Nat → Bool} {owner : Link → Packet → State → Reply}
    {t : Nat} {s : State} {l : Link} {p : Packet} {rest : List Packet} {u : FlagUnit}
    (h : nextPacket s = some (l, p, rest)) (hn : names p = true) (hl : lengthOk p.payload.length = true)
    (ho : owner l p (dequeue l rest (s.advance t)) = .accept { dequeue l rest (s.advance t) with flagUnit := u } []) :
    takeOwned names lengthOk false owner t s = { answered s t l p rest .ok [] with flagUnit := u } := by
  have hlevels : levels s = levels { dequeue l rest (s.advance t) with flagUnit := u } :=
    levels_congr rfl rfl rfl rfl rfl
  rw [takeOwned_accepted_of_levels_eq h hn hl rfl ho hlevels]
  rfl

/-- FLAGS_ARM on the state that the taking leaves: both masks are written, and the flags kept (R171). -/
theorem flagsArmOwner_dequeue (l : Link) (p : Packet) (rest : List Packet) (s : State) (t : Nat) :
    flagsArmOwner l p (dequeue l rest (s.advance t)) = .accept { dequeue l rest (s.advance t) with
      flagUnit := ⟨s.flagUnit.flags, p.u24 0, (p.u24 3).setWidth 12⟩ } [] := rfl

/-- FLAGS_CLEAR on the state that the taking leaves: the flags outside the mask and both enables are kept (R172). -/
theorem flagsClearOwner_dequeue (l : Link) (p : Packet) (rest : List Packet) (s : State) (t : Nat) :
    flagsClearOwner l p (dequeue l rest (s.advance t)) = .accept { dequeue l rest (s.advance t) with
      flagUnit := { s.flagUnit with flags := s.flagUnit.flags &&& ~~~p.u24 0 } } [] := rfl

/-- Settles O19: the owner of each command accepts every packet of its length, with a change of the flag unit alone. -/
theorem flagCommandsWriteTheFlagUnit : Obligations.FlagCommandsWriteTheFlagUnit := by
  unfold Obligations.FlagCommandsWriteTheFlagUnit
  intro s t l p rest h
  refine ⟨fun hcode hlength => congrArg Host.Outcome.next ?_, fun hcode hlength => congrArg Host.Outcome.next ?_⟩
  · exact takeOwned_flagUnit h (beq_iff_eq.mpr hcode) (beq_iff_eq.mpr hlength) (flagsArmOwner_dequeue l p rest s t)
  · exact takeOwned_flagUnit h (beq_iff_eq.mpr hcode) (beq_iff_eq.mpr hlength) (flagsClearOwner_dequeue l p rest s t)

end Sys2Proof.Machine
end

section
/-!
PROOFS. STANDBY EXIT, ENTER and DELAY on a part in any state, the end of waking, and the packets that name none of the
three actions: what each leaves of the part, and that no level changes under a command that keeps the part in standby.
-/
namespace Sys2Proof.Machine

open Sys2Proof

/-! ### The part state and the idle timer (R182, R183) -/

theorem isIdle_iff (x : LinkState) : x.isIdle = true ↔ x = .off ∨ (∃ e, x = .seeking e) ∨ ∃ e, x = .quiet e := by
  cases x <;> simp [LinkState.isIdle]

/-- Waking a part at `now`: STANDBY of either kind becomes WAKING for 200 ms, and every other state stays (R183). -/
def PartState.woken (now : Nat) : PartState → PartState
  | .standby _ => .waking (now + 200000)
  | .initializing => .initializing
  | .ready => .ready
  | .waking e => .waking e

theorem withState_of_eq {x : PartControl} {y : PartState} (h : x.state = y) : { x with state := y } = x := by
  rw [← h]

theorem wakeFromStandby_eq (s : State) : wakeFromStandby s = s.setPartState (s.part.state.woken s.now) := by
  unfold wakeFromStandby
  split
  · next h => rw [h]; rfl
  all_goals
    next h =>
      rw [h]
      exact congrArg (fun x => { s with part := x }) (withState_of_eq h).symm

/-- WAKING is a standby state as STANDBY is. -/
theorem inStandby_woken (now : Nat) (x : PartState) : (x.woken now).inStandby = x.inStandby := by
  cases x <;> rfl

/-- The idle timer stopped and left to its rule: it runs the full delay where its condition holds (R182). -/
theorem setStandbyDelay_eq (delay : Nat) (s : State) :
    setStandbyDelay delay s = { s with part := { s.part with
      standbyDelay := delay
      idleTimer :=
        if s.part.state = .ready ∧ s.ports.a.state.isIdle = true ∧ s.ports.b.state.isIdle = true ∧ delay ≠ 0 then
          some (s.now + 1000000 * delay)
        else none } } := by
  have rule := followsIdleRule_keepIdleTimer { s with part := { s.part with standbyDelay := delay, idleTimer := none } }
  exact congrArg (fun timer => { s with part := { s.part with standbyDelay := delay, idleTimer := timer } }) rule

/-- The waking timer makes the part READY, and the idle timer then follows its rule (R182, R183). -/
theorem exec_wakingTimerExpiry {s : State} {e : Nat} (h : s.part.state = .waking e) :
    exec .wakingTimerExpiry s = .next (latchEdges s (keepIdleTimer ((s.advance e).setPartState .ready))) := by
  change execWakingTimerExpiry s = _
  rw [execWakingTimerExpiry, h]
  rfl

/-- A part that is READY runs the idle timer by its links and its delay alone. -/
theorem idleCondition_of_ready {s : State} (h : s.part.state = .ready) :
    idleCondition s = (s.ports.a.state.isIdle && s.ports.b.state.isIdle && s.part.standbyDelay != 0) := by
  rw [idleCondition, h]
  rfl

/-! ### The packets that a row of STANDBY takes (R181, log entry 9) -/

section
variable {s : State} {l : Link} {p : Packet} {rest : List Packet} {action t : Nat}
  {owner : Link → Packet → State → Reply}

/-- A row of STANDBY takes its own action, and what is none of the three actions. -/
theorem namesStandby_iff (hcode : p.code = 0x53#8) (hlength : p.payload.length = 3) :
    namesStandby action p = true ↔ (p.u8 0).toNat = action ∨ ¬(1 ≤ (p.u8 0).toNat ∧ (p.u8 0).toNat ≤ 3) := by
  simp [namesStandby, standbyAction_of_length hlength, hcode, imp_iff_not_or]

/-- A row of STANDBY whose owner refuses a packet that it takes answers with that refusal. -/
theorem takeStandby_refused {st : Status} (h : nextPacket s = some (l, p, rest)) (hlength : p.payload.length = 3)
    (hn : namesStandby action p = true) (ho : owner l p (dequeue l rest (s.advance t)) = .refuse st []) :
    takeOwned (namesStandby action) (fun n => n == 3) false owner t s = answered s t l p rest st [] :=
  takeOwned_answered_of_refuse h hn (beq_iff_eq.mpr hlength) rfl ho

/-- A row of STANDBY accepted with a change of the part that leaves its levels is answered OK beside that change. -/
theorem takeStandby_accepted {x : PartControl} (h : nextPacket s = some (l, p, rest)) (hlength : p.payload.length = 3)
    (hn : namesStandby action p = true)
    (ho : owner l p (dequeue l rest (s.advance t)) = .accept { dequeue l rest (s.advance t) with part := x } [])
    (standby : s.part.state.inStandby = x.state.inStandby) (service : s.part.service = x.service)
    (patterns : s.part.patterns = x.patterns) :
    takeOwned (namesStandby action) (fun n => n == 3) false owner t s =
      { answered s t l p rest .ok [] with part := x } := by
  have same : levels s = levels { dequeue l rest (s.advance t) with part := x } :=
    levels_ext rfl rfl rfl rfl rfl rfl rfl standby (congrArg Override.active service)
      (congrArg (fun y => y.out0.isSome) patterns) (congrArg (fun y => y.out1.isSome) patterns) rfl
  exact takeOwned_accepted_of_levels_eq (lengthOk := fun n => n == 3) h hn (beq_iff_eq.mpr hlength) rfl ho same

/-! ### The three actions (R181) -/

/-- EXIT wakes a part in STANDBY, and leaves any other as it is. -/
theorem exec_standbyExit (t : Nat) (h : nextPacket s = some (l, p, rest)) (hcode : p.code = 0x53#8)
    (hlength : p.payload.length = 3) (haction : (p.u8 0).toNat = 2) :
    exec (.standbyExit t) s = .next { answered s t l p rest .ok [] with
      part := { s.part with state := s.part.state.woken (max s.now t) } } := by
  have owner : standbyExitOwner l p (dequeue l rest (s.advance t)) = .accept { dequeue l rest (s.advance t) with
      part := { s.part with state := s.part.state.woken (max s.now t) } } [] := by
    rw [standbyExitOwner, standbyAction_of_length hlength, haction, if_neg (not_not_intro rfl), wakeFromStandby_eq]
    rfl
  exact congrArg Host.Outcome.next (takeStandby_accepted h hlength ((namesStandby_iff hcode hlength).mpr (.inl haction))
    owner (inStandby_woken _ _).symm rfl rfl)

/-- ENTER on a part in STANDBY makes the kind COMMANDED. -/
theorem exec_standbyEnter_of_standby {kind : StandbyKind} (t : Nat) (h : nextPacket s = some (l, p, rest))
    (hcode : p.code = 0x53#8) (hlength : p.payload.length = 3) (haction : (p.u8 0).toNat = 1)
    (hpart : s.part.state = .standby kind) :
    exec (.standbyEnter t) s = .next { answered s t l p rest .ok [] with
      part := { s.part with state := .standby .commanded } } := by
  have owner : standbyEnterOwner l p (dequeue l rest (s.advance t)) = .accept { dequeue l rest (s.advance t) with
      part := { s.part with state := .standby .commanded } } [] := by
    rw [standbyEnterOwner, standbyAction_of_length hlength, haction, if_neg (not_not_intro rfl), dequeue_part,
      State.advance_part, hpart]
    cases kind with
    | automatic => rfl
    | commanded => rw [withState_of_eq hpart]; rfl
  exact congrArg Host.Outcome.next (takeStandby_accepted h hlength ((namesStandby_iff hcode hlength).mpr (.inl haction))
    owner (by rw [hpart]; rfl) rfl rfl)

/-- DELAY refuses more than 3600 s, and otherwise sets the delay and restarts the idle timer (R182). -/
theorem exec_standbyDelay (t : Nat) (h : nextPacket s = some (l, p, rest)) (hcode : p.code = 0x53#8)
    (hlength : p.payload.length = 3) (haction : (p.u8 0).toNat = 3) :
    exec (.standbyDelay t) s = .next (
      if 3600 < (p.u16 1).toNat then answered s t l p rest .badParam []
      else { answered s t l p rest .ok [] with
        part := (setStandbyDelay (p.u16 1).toNat (dequeue l rest (s.advance t))).part }) := by
  have hn : namesStandby 3 p = true := (namesStandby_iff hcode hlength).mpr (.inl haction)
  have owner : standbyDelayOwner l p (dequeue l rest (s.advance t)) =
      if 3600 < (p.u16 1).toNat then .refuse .badParam []
      else .accept (setStandbyDelay (p.u16 1).toNat (dequeue l rest (s.advance t))) [] := by
    rw [standbyDelayOwner, standbyAction_of_length hlength, haction]
    exact if_neg (not_not_intro rfl)
  refine congrArg Host.Outcome.next ?_
  split_ifs at owner ⊢
  · exact takeStandby_refused h hlength hn owner
  · exact takeStandby_accepted h hlength hn owner rfl rfl rfl

/-- What is none of the three actions is refused by each of the three rows. -/
theorem exec_standby_of_no_action (t : Nat) (h : nextPacket s = some (l, p, rest)) (hcode : p.code = 0x53#8)
    (hlength : p.payload.length = 3) (haction : ¬(1 ≤ (p.u8 0).toNat ∧ (p.u8 0).toNat ≤ 3)) :
    exec (.standbyEnter t) s = .next (answered s t l p rest .badParam [])
    ∧ exec (.standbyExit t) s = .next (answered s t l p rest .badParam [])
    ∧ exec (.standbyDelay t) s = .next (answered s t l p rest .badParam []) := by
  have hn (action : Nat) : namesStandby action p = true := (namesStandby_iff hcode hlength).mpr (.inr haction)
  have other {action : Nat} (valid : 1 ≤ action ∧ action ≤ 3) : standbyAction p ≠ some action := by
    rw [standbyAction_of_length hlength]
    rintro ⟨⟩
    exact haction valid
  exact ⟨congrArg Host.Outcome.next (takeStandby_refused h hlength (hn 1) (if_pos (other (by decide)))),
    congrArg Host.Outcome.next (takeStandby_refused h hlength (hn 2) (if_pos (other (by decide)))),
    congrArg Host.Outcome.next (takeStandby_refused h hlength (hn 3) (if_pos (other (by decide))))⟩

end

/-- Settles O25: each action of STANDBY by what its owner replies, the end of waking by the rule of the idle timer, and
the packets that name no action by the three rows that take them. -/
theorem standbyIsLeftThroughWaking : Obligations.StandbyIsLeftThroughWaking := by
  unfold Obligations.StandbyIsLeftThroughWaking
  refine ⟨fun s t l p rest h hcode hlength haction => ?_, fun s e hwaking => ?_, isIdle_iff, inStandby_iff,
    fun s t l p rest h hcode hlength =>
      ⟨fun haction kind hpart => exec_standbyEnter_of_standby t h hcode hlength haction hpart, fun haction => ?_,
        exec_standby_of_no_action t h hcode hlength⟩⟩
  · rw [exec_standbyExit t h hcode hlength haction]
    cases hpart : s.part.state with
    | standby kind => rfl
    | initializing | ready | waking e =>
      exact congrArg (fun x => Host.Outcome.next { answered s t l p rest .ok [] with part := x })
        (withState_of_eq hpart)
  · rw [exec_wakingTimerExpiry hwaking, keepIdleTimer, idleTimerAfter, idleCondition_of_ready rfl, seconds,
      Nat.mul_comm]
    rfl
  · rw [exec_standbyDelay t h hcode hlength haction, setStandbyDelay_eq]
    rfl

end Sys2Proof.Machine
end

section
/-!
PROOFS. The service line: the pulses of a group, what a decoded group leaves of the override, the part state and the
images in progress, and the end of the override.
-/
namespace Sys2Proof.Machine

open Sys2Proof

/-! ### Pulses (R188) -/

/-- A fall opens a group or keeps its count, and stops the group timer. -/
theorem exec_serviceTakenFall {s : State} (t : Nat) (hpart : s.part.state ≠ .initializing)
    (hlevel : s.part.decoder.level = true) :
    exec (.serviceTakenFall t) s = .next { s with
      now := max s.now t
      part := { s.part with decoder := ⟨false, 0, some (s.part.decoder.group.getD 0), none⟩ } } := by
  have runs : (decoderRuns s && s.part.decoder.level) = true := by
    rw [decoderRuns, hlevel, bne_iff_ne.mpr hpart]
    rfl
  exact if_pos runs

/-- A rise counts a pulse, up to 255, and starts the group timer. -/
theorem exec_serviceTakenRise {s : State} (t : Nat) (hpart : s.part.state ≠ .initializing)
    (hlevel : s.part.decoder.level = false) :
    exec (.serviceTakenRise t) s = .next { s with
      now := max s.now t
      part := { s.part with
        decoder := ⟨true, 0, some (min 255 (s.part.decoder.group.getD 0 + 1)), some (max s.now t + 500000)⟩ } } := by
  have runs : (decoderRuns s && !s.part.decoder.level) = true := by
    rw [decoderRuns, hlevel, bne_iff_ne.mpr hpart]
    rfl
  exact if_pos runs

/-! ### A decoded group (R76, R183, R189) -/

/-- The override that a decoded group of `count` leaves at `now`. -/
def Override.afterGroup (count now : Nat) (v : Override) : Override :=
  if count = 6 then .dark (now + 300000000) else if count = 8 then .grid (now + 300000000)
  else if count = 10 then .none else v

/-- The part state that a decoded group of `count` leaves at `now`. -/
def PartState.afterGroup (count now : Nat) (x : PartState) : PartState := if count = 8 then x.woken now else x

/-- The pipelines that a decoded group of `count` leaves: entry into DARK blackens the images in progress, and a group
of 6 under DARK does not (log entry 22). -/
def pipelinesAfterGroup (count : Nat) (s : State) : PerOut Pipeline :=
  match s.part.service with
  | .dark _ => s.pipelines
  | _ => if count = 6 then
      s.pipelines.map (fun q => { q with raster := q.raster.map (Raster.blacken s.now) }) else s.pipelines

/-- The counts that act are 6, 8 and 10. -/
theorem decodeGroup_of_ne {count : Nat} (s : State) (h6 : count ≠ 6) (h8 : count ≠ 8) (h10 : count ≠ 10) :
    decodeGroup count s = s := by
  unfold decodeGroup
  split <;> trivial

theorem pipelinesAfterGroup_of_ne {count : Nat} (s : State) (h : count ≠ 6) :
    pipelinesAfterGroup count s = s.pipelines := by
  unfold pipelinesAfterGroup
  split
  · rfl
  · exact if_neg h

/-- A group of 6 starts or restarts DARK. -/
theorem overrideDark_eq (s : State) :
    overrideDark s = { s with
      part := { s.part with service := .dark (s.now + 300000000) }, pipelines := pipelinesAfterGroup 6 s } := by
  unfold overrideDark pipelinesAfterGroup
  cases s.part.service <;> rfl

/-- A decoded group writes the override, the part state and the images in progress, each by its count. -/
theorem decodeGroup_eq (count : Nat) (s : State) :
    decodeGroup count s = { s with
      part := { s.part with
        service := s.part.service.afterGroup count s.now, state := s.part.state.afterGroup count s.now }
      pipelines := pipelinesAfterGroup count s } := by
  by_cases h6 : count = 6
  · subst h6
    exact overrideDark_eq s
  rw [pipelinesAfterGroup_of_ne s h6]
  by_cases h8 : count = 8
  · subst h8
    exact wakeFromStandby_eq _
  by_cases h10 : count = 10
  · subst h10
    rfl
  · rw [decodeGroup_of_ne s h6 h8 h10, Override.afterGroup, PartState.afterGroup, if_neg h6, if_neg h8, if_neg h10,
      if_neg h8]

/-- The group timer decodes the group and closes it. -/
theorem exec_groupTimerExpiry {s : State} {e : Nat} (h : s.part.decoder.timer = some e) :
    exec .groupTimerExpiry s = .next (latchEdges s { s with
      now := max s.now e
      part := { s.part with
        decoder := { s.part.decoder with group := none, timer := none }
        service := s.part.service.afterGroup (s.part.decoder.group.getD 0) (max s.now e)
        state := s.part.state.afterGroup (s.part.decoder.group.getD 0) (max s.now e) }
      pipelines := pipelinesAfterGroup (s.part.decoder.group.getD 0) (s.advance e) }) := by
  change execGroupTimerExpiry s = _
  simp only [execGroupTimerExpiry, h, decodeGroup_eq]
  rfl

/-! ### The end of the override (R189) -/

/-- The override timer ends an override of either kind. -/
theorem exec_overrideTimerExpiry {s : State} {e : Nat} (h : s.part.service = .dark e ∨ s.part.service = .grid e) :
    exec .overrideTimerExpiry s = .next (latchEdges s { s with
      now := max s.now e, part := { s.part with service := .none } }) := by
  change execOverrideTimerExpiry s = _
  obtain dark | grid := h
  · rw [execOverrideTimerExpiry, dark]
    rfl
  · rw [execOverrideTimerExpiry, grid]
    rfl

/-- Settles O52: the pulses, the decoded group by the records that it writes, and the end of the override. -/
theorem serviceGroupsSetTheOverride : Obligations.ServiceGroupsSetTheOverride := by
  unfold Obligations.ServiceGroupsSetTheOverride
  refine ⟨fun s t hpart => ⟨exec_serviceTakenFall t hpart, exec_serviceTakenRise t hpart⟩, fun s e htimer => ?_,
    fun s e => exec_overrideTimerExpiry⟩
  refine ⟨_, exec_groupTimerExpiry htimer, ?_, Raises.flagsLatched (.none s.flagUnit)⟩
  have state (count now : Nat) : s.part.state.afterGroup count now = match s.part.state with
      | .standby kind => if count = 8 then .waking (now + 200000) else .standby kind
      | other => other := by
    unfold PartState.afterGroup
    cases s.part.state with
    | standby kind => rfl
    | initializing | ready | waking e => exact ite_self _
  rw [state]
  rfl

end Sys2Proof.Machine
end

section
/-!
PROOFS. The waiting inputs: no operation of the part, no owner of a command and no work of a start writes the command
queue or the line samples.
-/
namespace Sys2Proof.Machine

open Sys2Proof

/-- The inputs that wait: the commands and the line samples. -/
def State.inputs (s : State) : List Instr × List LineSample := (s.pending, s.samples)

/-! ### Events raised, verifications and the Frame Store -/

theorem inputs_raise (s : State) (e : Event) : (s.raise e).inputs = s.inputs := by
  rw [raise_eq]; rfl

theorem inputs_raiseIf (s : State) (b : Bool) (e : Event) : (s.raiseIf b e).inputs = s.inputs := by
  rw [raiseIf_eq]; rfl

theorem inputs_endVerification (o : Out) (k : Kind) (s : State) : (endVerification o k s).inputs = s.inputs := by
  rw [endVerification_eq]; rfl

theorem inputs_dropFrame (l : Link) (cause : DropCause) (s : State) : (dropFrame l cause s).inputs = s.inputs :=
  inputs_raise _ _

theorem inputs_offerFrame (l : Link) (h : Header) (s : State) : (offerFrame l h s).inputs = s.inputs := by
  obtain ⟨cause, dropped⟩ | unchanged | ⟨i, -, -, filled⟩ := offerFrame_cases l h s
  · rw [dropped, inputs_dropFrame]
  · rw [unchanged]
  · rw [filled]; rfl

theorem inputs_completeFrame (l : Link) (i : SlotIndex) (f : Frame) (s : State) :
    (completeFrame l i f s).inputs = s.inputs := by
  unfold completeFrame
  cases s.dome with
  | none => exact inputs_dropFrame _ _ _
  | some d =>
    dsimp only
    split
    · rfl
    · exact inputs_dropFrame _ _ _

theorem inputs_storeLine (l : Link) (line : List Pixel) (s : State) : (storeLine l line s).inputs = s.inputs := by
  unfold storeLine
  cases fillingIndex s l with
  | none => rfl
  | some i =>
    dsimp only
    cases s.slot ⟨l, i⟩ with
    | free | complete _ _ => rfl
    | filling f =>
      dsimp only
      split
      · rfl
      · exact inputs_completeFrame _ _ _ _

/-! ### The Stream Link Ports -/

theorem inputs_cutPacket (l : Link) (s : State) : (cutPacket l s).inputs = s.inputs := inputs_raiseIf _ _ _

theorem inputs_endFrame (l : Link) (s : State) : (endFrame l s).inputs = s.inputs := by
  rw [endFrame_written]; rfl

theorem inputs_enterHoldover (l : Link) (s : State) : (enterHoldover l s).inputs = s.inputs := inputs_endFrame l s

theorem inputs_enterQuiet (l : Link) (s : State) : (enterQuiet l s).inputs = s.inputs :=
  (inputs_raiseIf _ _ _).trans (inputs_raise s _)

theorem inputs_lockAndOffer (l : Link) (fromAligned : Bool) (h : Header) (s : State) :
    (lockAndOffer l fromAligned h s).inputs = s.inputs := by
  rw [lockAndOffer, inputs_offerFrame, enterLocked, wakeOnLock_eq]; rfl

theorem inputs_badHeader (l : Link) (s : State) : (badHeader l s).inputs = s.inputs := by
  unfold badHeader
  cases (s.ports.get l).state with
  | locked bad since =>
    dsimp only
    split
    · rfl
    · exact inputs_enterHoldover l s
  | off | seeking _ | aligned _ _ | holdover _ _ | quiet _ => rfl

theorem inputs_goodHeader (l : Link) (h : Header) (s : State) : (goodHeader l h s).inputs = s.inputs := by
  unfold goodHeader
  dsimp only
  cases (s.ports.get l).state with
  | off | seeking _ | quiet _ => rfl
  | locked _ _ =>
    dsimp only
    split
    · exact inputs_offerFrame l h _
    · exact inputs_dropFrame l _ _
  | aligned _ _ | holdover _ _ =>
    dsimp only
    split_ifs
    · rfl
    · exact inputs_lockAndOffer l _ h s
    · rfl

theorem inputs_loseSignal (e : Nat) (l : Link) (s : State) : (loseSignal e l s).inputs = s.inputs := by
  unfold loseSignal
  cases (s.ports.get l).state with
  | locked _ _ =>
    dsimp only
    split
    · exact inputs_endFrame l s
    · exact inputs_enterHoldover l s
  | off | seeking _ | aligned _ _ | holdover _ _ | quiet _ => rfl

theorem inputs_handOver (l : Link) (p : Packet) (s : State) : (handOver l p s).inputs = s.inputs := by
  unfold handOver
  dsimp only
  split
  · rfl
  · exact inputs_raise s _

theorem inputs_areaBytes (l : Link) (due : Nat) (b : FrameBody) (buf : List Byte) (s : State) :
    (areaBytes l due b buf s).inputs = s.inputs := by
  induction due generalizing b buf s with
  | zero => rfl
  | succ due ih =>
    unfold areaBytes
    dsimp only
    split_ifs
    · rfl
    · exact inputs_raise _ _
    · rfl
    · exact (ih _ _ _).trans (inputs_handOver _ _ _)
    · exact (ih _ _ _).trans (inputs_raise _ _)

/-! ### Part state, patterns and service control -/

theorem inputs_standbyEntry (kind : StandbyKind) (s : State) : (standbyEntry kind s).inputs = s.inputs := by
  rw [standbyEntry_eq, inputs_raiseIf, inputs_raiseIf]
  rfl

theorem inputs_wakeFromStandby (s : State) : (wakeFromStandby s).inputs = s.inputs := by
  rw [wakeFromStandby_eq]; rfl

theorem inputs_endPattern (o : Out) (s : State) : (endPattern o s).inputs = s.inputs := by
  rw [endPattern_eq]
  rfl

theorem inputs_decodeGroup (count : Nat) (s : State) : (decodeGroup count s).inputs = s.inputs := by
  rw [decodeGroup_eq]; rfl

theorem inputs_softResetPart (keep : Bool) (s : State) : (softResetPart keep s).inputs = s.inputs := by
  cases keep <;> exact inputs_wakeFromStandby (endPatternsAtSoftReset s)

/-! ### Period starts -/

/-- What stands outside the part: the time and the inputs that wait (log entry 7). -/
def State.outside (s : State) : Nat × List Instr × List LineSample := (s.now, s.inputs)

theorem outside_periodStart (before s : State) : (periodStart before s).outside = s.outside := by
  rw [periodStart_part]; rfl

theorem outside_makeStart {before s : State} (h : s.outside = before.outside) :
    (makeStart before s).outside = before.outside := by
  unfold makeStart
  split
  · rfl
  · exact (outside_periodStart before s).trans h

theorem outside_startAtWord (d n : Period) (period : Nat) (s : State) :
    (startAtWord d n period s).outside = s.outside :=
  outside_makeStart (by rw [raiseIf_eq]; rfl)

theorem outside_acceptWord (n : Period) (s : State) : (acceptWord n s).outside = s.outside := by
  unfold acceptWord
  cases s.clock.state with
  | unsynced => rfl
  | acquiring reference mark expires =>
    dsimp only
    split
    · exact outside_makeStart rfl
    · rfl
  | tracking d opens closes =>
    dsimp only
    split
    · exact outside_startAtWord _ _ _ s
    · rfl
  | freerun d => exact outside_startAtWord _ _ _ s

theorem outside_generatorStart (s : State) : (generatorStart s).outside = s.outside := by
  unfold generatorStart
  cases s.clock.state with
  | unsynced | acquiring _ _ _ | freerun _ => exact outside_makeStart rfl
  | tracking _ _ _ => rfl

theorem outside_missedStart (d : Period) (s : State) : (missedStart d s).outside = s.outside := outside_makeStart rfl

/-! ### The owners of commands -/

/-- The owner's reply leaves the waiting inputs as the owner found them. -/
def Reply.LeavesInputs (s : State) : Reply → Prop := Reply.Has fun s' => s'.inputs = s.inputs

theorem inputs_settle {l : Link} {p : Packet} {s : State} {r : Reply} (hr : r.LeavesInputs s) :
    (settle l p s r).inputs = s.inputs := by
  cases r with
  | refuse _ _ => rfl
  | accept _ _ | defer _ => exact hr

theorem inputs_takeOwned {names : Packet → Bool} {lengthOk : Nat → Bool} {channel : Bool}
    {owner : Link → Packet → State → Reply} (ho : ∀ (l : Link) (p : Packet) (s : State), (owner l p s).LeavesInputs s)
    (t : Nat) (s : State) : (takeOwned names lengthOk channel owner t s).inputs = s.inputs := by
  unfold takeOwned takeCommand
  split
  · rfl
  · next l p rest _ =>
    split
    · exact inputs_settle (generalChecks_has (ho l p (dequeue l rest (s.advance t))))
    · rfl

theorem inputs_stopMixing (o : Out) (k : Kind) (s : State) : (stopMixing o k s).inputs = s.inputs := by
  cases k <;> rfl

theorem tableOpenOwner_leavesInputs (l : Link) (p : Packet) (s : State) : (tableOpenOwner l p s).LeavesInputs s := by
  unfold tableOpenOwner
  split
  · trivial
  · dsimp only
    split_ifs
    · trivial
    · trivial
    · trivial
    · exact inputs_stopMixing _ _ _

theorem tableDataOwner_leavesInputs (l : Link) (p : Packet) (s : State) : (tableDataOwner l p s).LeavesInputs s := by
  unfold tableDataOwner
  split
  · trivial
  · split
    · dsimp only; split_ifs <;> trivial
    all_goals trivial

theorem tableCloseOwner_leavesInputs (l : Link) (p : Packet) (s : State) : (tableCloseOwner l p s).LeavesInputs s := by
  unfold tableCloseOwner
  split
  · trivial
  · split
    · split_ifs <;> trivial
    all_goals trivial

theorem tableDiscardOwner_leavesInputs (l : Link) (p : Packet) (s : State) :
    (tableDiscardOwner l p s).LeavesInputs s := by
  unfold tableDiscardOwner
  split
  · trivial
  · split
    · rfl
    · split_ifs <;> trivial
    · trivial
    · split_ifs
      · trivial
      · exact inputs_stopMixing _ _ _

theorem swapOwner_leavesInputs (l : Link) (p : Packet) (s : State) : (swapOwner l p s).LeavesInputs s := by
  unfold swapOwner
  dsimp only
  split
  · trivial
  · split_ifs
    · trivial
    · trivial
    · trivial
    · exact foldl_keeps (view := State.inputs) (f := bookSwap _) (fun _ _ => rfl) _ s

theorem gainOwner_leavesInputs (l : Link) (p : Packet) (s : State) : (gainOwner l p s).LeavesInputs s := by
  unfold gainOwner
  dsimp only
  split_ifs <;> trivial

theorem cueAddOwner_leavesInputs (l : Link) (p : Packet) (s : State) : (cueAddOwner l p s).LeavesInputs s := by
  unfold cueAddOwner
  dsimp only
  split
  · trivial
  · split_ifs <;> trivial

theorem cueCancelOwner_leavesInputs (l : Link) (p : Packet) (s : State) : (cueCancelOwner l p s).LeavesInputs s := by
  unfold cueCancelOwner
  split_ifs <;> trivial

theorem routeOwner_leavesInputs (l : Link) (p : Packet) (s : State) : (routeOwner l p s).LeavesInputs s := by
  unfold routeOwner
  split
  · trivial
  · split_ifs <;> trivial

theorem selectOwner_leavesInputs (l : Link) (p : Packet) (s : State) : (selectOwner l p s).LeavesInputs s := by
  unfold selectOwner
  split
  · trivial
  · split_ifs <;> trivial

theorem configLockOwner_leavesInputs (l : Link) (p : Packet) (s : State) : (configLockOwner l p s).LeavesInputs s := by
  unfold configLockOwner
  split
  · trivial
  · split
    · split_ifs <;> trivial
    all_goals trivial

theorem configUnlockOwner_leavesInputs (l : Link) (p : Packet) (s : State) :
    (configUnlockOwner l p s).LeavesInputs s := by
  unfold configUnlockOwner
  split <;> trivial

theorem setOutputOwner_leavesInputs (l : Link) (p : Packet) (s : State) : (setOutputOwner l p s).LeavesInputs s := by
  unfold setOutputOwner
  dsimp only
  split
  · trivial
  · split_ifs <;> trivial

theorem patternOwner_leavesInputs (l : Link) (p : Packet) (s : State) : (patternOwner l p s).LeavesInputs s := by
  unfold patternOwner
  dsimp only
  split
  · trivial
  · split_ifs
    · trivial
    · trivial
    · trivial
    · trivial
    · rw [startPattern_eq, forOutputs_writeOutput]
      rfl

theorem patternEndOwner_leavesInputs (l : Link) (p : Packet) (s : State) : (patternEndOwner l p s).LeavesInputs s := by
  unfold patternEndOwner
  rw [endPattern_eq, forOutputs_writeOutput]
  rfl

theorem standbyEnterOwner_leavesInputs (l : Link) (p : Packet) (s : State) :
    (standbyEnterOwner l p s).LeavesInputs s := by
  unfold standbyEnterOwner
  split_ifs
  · trivial
  · cases s.part.state with
    | ready | waking _ => exact inputs_standbyEntry _ s
    | initializing => rfl
    | standby kind => cases kind <;> rfl

theorem standbyExitOwner_leavesInputs (l : Link) (p : Packet) (s : State) :
    (standbyExitOwner l p s).LeavesInputs s := by
  unfold standbyExitOwner
  split_ifs
  · trivial
  · exact inputs_wakeFromStandby s

theorem standbyDelayOwner_leavesInputs (l : Link) (p : Packet) (s : State) :
    (standbyDelayOwner l p s).LeavesInputs s := by
  unfold standbyDelayOwner
  dsimp only
  split_ifs <;> trivial

theorem softResetOwner_leavesInputs (l : Link) (p : Packet) (s : State) : (softResetOwner l p s).LeavesInputs s := by
  unfold softResetOwner
  split
  · trivial
  · exact inputs_softResetPart _ (softResetScheduler (resetTables s))

end Sys2Proof.Machine
end

section
/-!
PROOFS. Every command answers a next state, leaves the waiting inputs and takes no time back; a step takes the command
at the front of the queue.
-/
namespace Sys2Proof.Machine

open Sys2Proof

/-! ### What a command answers -/

/-- The answer is a next state, with the waiting inputs of `s`. -/
def AnswersSameInputs (s : State) : Host.Outcome State Fault Refusal → Prop
  | .next s' => s'.inputs = s.inputs
  | .fault _ | .refused _ => False

/-- The answer is a next state, with the waiting inputs of `s`, at the time of `s` or later. -/
theorem exists_next_of_answers {s : State} {x : Host.Outcome State Fault Refusal} (inputs : AnswersSameInputs s x)
    (now : Answers (fun s' => s.now ≤ s'.now) x) :
    ∃ s', x = .next s' ∧ s'.pending = s.pending ∧ s'.samples = s.samples ∧ s.now ≤ s'.now := by
  cases x with
  | next s' => exact ⟨s', rfl, congrArg Prod.fst inputs, congrArg Prod.snd inputs, now⟩
  | fault _ | refused _ => exact inputs.elim

theorem linkEvent_sameInputs {s s0 s' : State} (h : s'.inputs = s.inputs) : AnswersSameInputs s (linkEvent s0 s') := h

/-! ### The rows of the ports -/

theorem execSignalPresent_sameInputs (t : Nat) (l : Link) (s : State) :
    AnswersSameInputs s (execSignalPresent t l s) := by
  unfold execSignalPresent
  dsimp only
  split
  · rfl
  · cases ((s.advance t).ports.get l).state with
    | off => dsimp only; split <;> rfl
    | seeking _ | aligned _ _ | locked _ _ | holdover _ _ | quiet _ => rfl

theorem execSignalAbsent_sameInputs (t : Nat) (l : Link) (s : State) :
    AnswersSameInputs s (execSignalAbsent t l s) := by
  unfold execSignalAbsent
  dsimp only
  split
  · rfl
  · exact inputs_cutPacket l (s.advance t)

theorem execSignalLost_sameInputs (l : Link) (s : State) : AnswersSameInputs s (execSignalLost l s) := by
  unfold execSignalLost
  cases (s.ports.get l).signalLoss with
  | none => rfl
  | some e => exact inputs_loseSignal e l _

theorem execFrameDelimiter_sameInputs (t : Nat) (l : Link) (s : State) :
    AnswersSameInputs s (execFrameDelimiter t l s) := by
  have ended : (endFrame l (s.advance t)).inputs = s.inputs := inputs_endFrame l _
  unfold execFrameDelimiter
  dsimp only
  split
  · cases ((s.advance t).ports.get l).frame with
    | awaitingHeader | headerLost => exact linkEvent_sameInputs ((inputs_badHeader l _).trans ended)
    | none | skipping | body _ => exact linkEvent_sameInputs ended
  · rfl

theorem execFrameHeader_sameInputs (t : Nat) (l : Link) (bytes : BitVec 96) (s : State) :
    AnswersSameInputs s (execFrameHeader t l bytes s) := by
  unfold execFrameHeader
  dsimp only
  split
  · cases headerOf bytes with
    | some h => exact inputs_goodHeader l h (s.advance t)
    | none => exact inputs_badHeader l _
  · rfl

theorem execPixelLine_sameInputs (t : Nat) (l : Link) (bytes : List Byte) (s : State) :
    AnswersSameInputs s (execPixelLine t l bytes s) := by
  unfold execPixelLine
  dsimp only
  cases ((s.advance t).ports.get l).frame with
  | body b =>
    dsimp only
    split
    · exact inputs_storeLine l _ _
    · rfl
  | none | awaitingHeader | headerLost | skipping => rfl

theorem execManagementPacket_sameInputs (t : Nat) (l : Link) (bytes : List Byte) (s : State) :
    AnswersSameInputs s (execManagementPacket t l bytes s) := by
  unfold execManagementPacket
  dsimp only
  cases ((s.advance t).ports.get l).frame with
  | body b =>
    dsimp only
    split
    · exact inputs_areaBytes l _ _ _ (s.advance t)
    · rfl
  | none | awaitingHeader | headerLost | skipping => rfl

theorem execLinkAcquisitionTimeout_sameInputs (l : Link) (s : State) :
    AnswersSameInputs s (execLinkAcquisitionTimeout l s) := by
  unfold execLinkAcquisitionTimeout
  cases (s.ports.get l).state with
  | seeking _ | aligned _ _ => exact inputs_enterQuiet l _
  | off | locked _ _ | holdover _ _ | quiet _ => rfl

theorem execLossLimitExpiry_sameInputs (l : Link) (s : State) : AnswersSameInputs s (execLossLimitExpiry l s) := by
  unfold execLossLimitExpiry
  cases (s.ports.get l).state with
  | holdover _ _ => exact inputs_enterQuiet l _
  | off | seeking _ | aligned _ _ | locked _ _ | quiet _ => rfl

theorem execQuietTimerExpiry_sameInputs (l : Link) (s : State) : AnswersSameInputs s (execQuietTimerExpiry l s) := by
  unfold execQuietTimerExpiry
  cases (s.ports.get l).state with
  | quiet e => dsimp only; split <;> rfl
  | off | seeking _ | aligned _ _ | locked _ _ | holdover _ _ => rfl

/-! ### The rows of the clock and of the resets -/

theorem execSyncWord_sameInputs (t : Nat) (cells : BitVec 48) (s : State) :
    AnswersSameInputs s (execSyncWord t cells s) := by
  unfold execSyncWord
  dsimp only
  split_ifs
  · exact congrArg Prod.snd (outside_acceptWord _ (decoderAtMark (s.advance t)))
  · rfl
  · rfl

theorem execGeneratorStart_sameInputs (s : State) : AnswersSameInputs s (execGeneratorStart s) := by
  unfold execGeneratorStart
  cases generatorDue s.clock with
  | none => rfl
  | some e => exact congrArg Prod.snd (outside_generatorStart (s.advance e))

theorem execTrackingWindowClose_sameInputs (s : State) : AnswersSameInputs s (execTrackingWindowClose s) := by
  unfold execTrackingWindowClose
  cases s.clock.state with
  | tracking d opens closes => exact congrArg Prod.snd (outside_missedStart d (s.advance closes))
  | unsynced | acquiring _ _ _ | freerun _ => rfl

theorem execSyncAcquisitionTimeout_sameInputs (s : State) : AnswersSameInputs s (execSyncAcquisitionTimeout s) := by
  unfold execSyncAcquisitionTimeout
  cases s.clock.state <;> rfl

theorem execResetRelease_sameInputs (t : Nat) (s : State) : AnswersSameInputs s (execResetRelease t s) := by
  unfold execResetRelease
  dsimp only
  split <;> rfl

theorem execInitialisationEnd_sameInputs (t : Nat) (s : State) : AnswersSameInputs s (execInitialisationEnd t s) := by
  unfold execInitialisationEnd
  dsimp only
  rw [endInitialisation, enableReceivers_eq]
  split <;> rfl

theorem execSoftReset_sameInputs (t : Nat) (s : State) : AnswersSameInputs s (execSoftReset t s) := by
  unfold execSoftReset
  split
  · rfl
  · next l p rest _ =>
    split
    · exact inputs_settle (generalChecks_has (softResetOwner_leavesInputs l p (dequeue l rest (s.advance t))))
    · rfl

/-! ### The rows of the outputs and of the part -/

theorem execDouserTimerExpiry_sameInputs (o : Out) (s : State) : AnswersSameInputs s (execDouserTimerExpiry o s) := by
  unfold execDouserTimerExpiry
  dsimp only
  cases (s.controllers.get o).douserTimer <;> rfl

theorem execOpenTimerExpiry_sameInputs (o : Out) (s : State) : AnswersSameInputs s (execOpenTimerExpiry o s) := by
  unfold execOpenTimerExpiry
  dsimp only
  cases (s.controllers.get o).openTimer <;> rfl

theorem execIdleTimerExpiry_sameInputs (s : State) : AnswersSameInputs s (execIdleTimerExpiry s) := by
  unfold execIdleTimerExpiry
  cases s.part.idleTimer with
  | none => rfl
  | some e => exact inputs_standbyEntry _ (s.advance e)

theorem execWakingTimerExpiry_sameInputs (s : State) : AnswersSameInputs s (execWakingTimerExpiry s) := by
  unfold execWakingTimerExpiry
  cases s.part.state <;> rfl

theorem execPatternExpiry_sameInputs (o : Out) (s : State) : AnswersSameInputs s (execPatternExpiry o s) := by
  unfold execPatternExpiry
  cases s.part.patterns.get o with
  | none => rfl
  | some p => exact inputs_endPattern o (s.advance p.expires)

theorem execGroupTimerExpiry_sameInputs (s : State) : AnswersSameInputs s (execGroupTimerExpiry s) := by
  unfold execGroupTimerExpiry
  cases s.part.decoder.timer with
  | none => rfl
  | some e => exact inputs_decodeGroup _ (s.advance e)

theorem execOverrideTimerExpiry_sameInputs (s : State) : AnswersSameInputs s (execOverrideTimerExpiry s) := by
  unfold execOverrideTimerExpiry
  cases s.part.service <;> rfl

theorem execServiceTakenFall_sameInputs (t : Nat) (s : State) : AnswersSameInputs s (execServiceTakenFall t s) := by
  unfold execServiceTakenFall
  split <;> rfl

theorem execServiceTakenRise_sameInputs (t : Nat) (s : State) : AnswersSameInputs s (execServiceTakenRise t s) := by
  unfold execServiceTakenRise
  split <;> rfl

/-! ### Every row -/

/-- Every command answers a next state, and no command writes the waiting inputs. -/
theorem exec_sameInputs (c : Instr) (s : State) : AnswersSameInputs s (exec c s) := by
  cases c with
  | tableOpen t => exact inputs_takeOwned tableOpenOwner_leavesInputs t s
  | tableData t => exact inputs_takeOwned tableDataOwner_leavesInputs t s
  | tableClose t => exact inputs_takeOwned tableCloseOwner_leavesInputs t s
  | tableDiscard t => exact inputs_takeOwned tableDiscardOwner_leavesInputs t s
  | swap t => exact inputs_takeOwned swapOwner_leavesInputs t s
  | gain t => exact inputs_takeOwned gainOwner_leavesInputs t s
  | cueAdd t => exact inputs_takeOwned cueAddOwner_leavesInputs t s
  | cueCancel t => exact inputs_takeOwned cueCancelOwner_leavesInputs t s
  | cueFlush t => exact inputs_takeOwned (owner := cueFlushOwner) (fun _ _ _ => rfl) t s
  | report t => exact inputs_takeOwned (owner := reportOwner) (fun _ _ _ => rfl) t s
  | route t => exact inputs_takeOwned routeOwner_leavesInputs t s
  | select t => exact inputs_takeOwned selectOwner_leavesInputs t s
  | configLock t => exact inputs_takeOwned configLockOwner_leavesInputs t s
  | configUnlock t => exact inputs_takeOwned configUnlockOwner_leavesInputs t s
  | setOutput t => exact inputs_takeOwned setOutputOwner_leavesInputs t s
  | flagsArm t => exact inputs_takeOwned (owner := flagsArmOwner) (fun _ _ _ => rfl) t s
  | flagsClear t => exact inputs_takeOwned (owner := flagsClearOwner) (fun _ _ _ => rfl) t s
  | status t => exact inputs_takeOwned (owner := statusOwner) (fun _ _ _ => rfl) t s
  | pattern t => exact inputs_takeOwned patternOwner_leavesInputs t s
  | patternEnd t => exact inputs_takeOwned patternEndOwner_leavesInputs t s
  | standbyEnter t => exact inputs_takeOwned standbyEnterOwner_leavesInputs t s
  | standbyExit t => exact inputs_takeOwned standbyExitOwner_leavesInputs t s
  | standbyDelay t => exact inputs_takeOwned standbyDelayOwner_leavesInputs t s
  | softReset t => exact execSoftReset_sameInputs t s
  | unknownCommand t => exact inputs_takeOwned (owner := unknownOwner) (fun _ _ _ => trivial) t s
  | powerOnReset t => rfl
  | resetPin t => rfl
  | resetRelease t => exact execResetRelease_sameInputs t s
  | initialisationEnd t => exact execInitialisationEnd_sameInputs t s
  | syncWord t cells => exact execSyncWord_sameInputs t cells s
  | generatorStart => exact execGeneratorStart_sameInputs s
  | trackingWindowClose => exact execTrackingWindowClose_sameInputs s
  | syncAcquisitionTimeout => exact execSyncAcquisitionTimeout_sameInputs s
  | douserTimerExpiry o => exact execDouserTimerExpiry_sameInputs o s
  | openTimerExpiry o => exact execOpenTimerExpiry_sameInputs o s
  | signalPresent t l => exact execSignalPresent_sameInputs t l s
  | signalAbsent t l => exact execSignalAbsent_sameInputs t l s
  | signalLost l => exact execSignalLost_sameInputs l s
  | frameDelimiter t l => exact execFrameDelimiter_sameInputs t l s
  | frameHeader t l bytes => exact execFrameHeader_sameInputs t l bytes s
  | pixelLine t l bytes => exact execPixelLine_sameInputs t l bytes s
  | managementPacket t l bytes => exact execManagementPacket_sameInputs t l bytes s
  | linkAcquisitionTimeout l => exact execLinkAcquisitionTimeout_sameInputs l s
  | lossLimitExpiry l => exact execLossLimitExpiry_sameInputs l s
  | quietTimerExpiry l => exact execQuietTimerExpiry_sameInputs l s
  | verificationEnd t o k => exact inputs_endVerification o k (s.advance t)
  | idleTimerExpiry => exact execIdleTimerExpiry_sameInputs s
  | wakingTimerExpiry => exact execWakingTimerExpiry_sameInputs s
  | patternExpiry o => exact execPatternExpiry_sameInputs o s
  | groupTimerExpiry => exact execGroupTimerExpiry_sameInputs s
  | overrideTimerExpiry => exact execOverrideTimerExpiry_sameInputs s
  | serviceTakenFall t => exact execServiceTakenFall_sameInputs t s
  | serviceTakenRise t => exact execServiceTakenRise_sameInputs t s

/-! ### The time -/

/-- What an event leaves at the time to which it has moved the part is not before the time that it found. -/
theorem now_le_of_outside {s s' : State} {t : Nat} (h : s'.outside = (s.advance t).outside) : s.now ≤ s'.now :=
  (le_max_left s.now t).trans_eq (congrArg Prod.fst h).symm

theorem execResetRelease_now (t : Nat) (s : State) : Answers (fun s' => s.now ≤ s'.now) (execResetRelease t s) := by
  unfold execResetRelease
  dsimp only
  split <;> exact le_max_left s.now t

theorem execSyncWord_now (t : Nat) (cells : BitVec 48) (s : State) :
    Answers (fun s' => s.now ≤ s'.now) (execSyncWord t cells s) := by
  unfold execSyncWord
  dsimp only
  split_ifs
  · exact now_le_of_outside (t := t) (outside_acceptWord _ (decoderAtMark (s.advance t)))
  · exact le_max_left s.now t
  · exact le_max_left s.now t

theorem execGeneratorStart_now (s : State) : Answers (fun s' => s.now ≤ s'.now) (execGeneratorStart s) := by
  unfold execGeneratorStart
  cases generatorDue s.clock with
  | none => exact le_rfl
  | some e => exact now_le_of_outside (outside_generatorStart (s.advance e))

theorem execTrackingWindowClose_now (s : State) : Answers (fun s' => s.now ≤ s'.now) (execTrackingWindowClose s) := by
  unfold execTrackingWindowClose
  cases s.clock.state with
  | tracking d opens closes => exact now_le_of_outside (outside_missedStart d (s.advance closes))
  | unsynced | acquiring _ _ _ | freerun _ => exact le_rfl

theorem execSyncAcquisitionTimeout_now (s : State) :
    Answers (fun s' => s.now ≤ s'.now) (execSyncAcquisitionTimeout s) := by
  unfold execSyncAcquisitionTimeout
  cases s.clock.state with
  | acquiring _ _ e => exact le_max_left s.now e
  | unsynced | tracking _ _ _ | freerun _ => exact le_rfl

/-- No command takes time back: the rows that leave the clock by `exec_keepsClock`, the others one by one. -/
theorem exec_now (c : Instr) (s : State) : Answers (fun s' => s.now ≤ s'.now) (exec c s) := by
  cases hw : writesClock c with
  | false => exact answers_mono (exec_keepsClock hw s) fun _ kept => kept.now
  | true =>
    unfold writesClock at hw
    split at hw
    · next t => exact le_max_left s.now t
    · next t => exact le_max_left s.now t
    · exact execResetRelease_now _ s
    · exact execSyncWord_now _ _ s
    · exact execGeneratorStart_now s
    · exact execTrackingWindowClose_now s
    · exact execSyncAcquisitionTimeout_now s
    · cases hw

/-- Settles O2: every row answers a next state with the inputs that waited, and none takes time back. -/
theorem everyCommandAnswersANextState : Obligations.EveryCommandAnswersANextState := by
  unfold Obligations.EveryCommandAnswersANextState
  exact fun c s => exists_next_of_answers (exec_sameInputs c s) (exec_now c s)

/-! ### What a step takes -/

theorem step_of_pending {s : State} {c : Instr} {rest : List Instr} (h : s.pending = c :: rest) :
    step s = exec c { s with pending := rest } := by
  unfold step
  rw [h]

theorem step_of_no_pending {s : State} (h : s.pending = []) : step s = .next (sampleTick s) := by
  unfold step
  rw [h]

theorem sampleTick_of_no_sample {s : State} (h : s.samples = []) : sampleTick s = s := by
  unfold sampleTick
  rw [h]

/-- Settles O1, by what stands at the front of the queue and of the samples. -/
theorem stepTakesTheFrontCommand : Obligations.StepTakesTheFrontCommand := by
  unfold Obligations.StepTakesTheFrontCommand
  refine ⟨fun _ _ _ => step_of_pending, fun s idle unsampled => ?_, fun _ _ _ idle _ => step_of_no_pending idle⟩
  rw [step_of_no_pending idle, sampleTick_of_no_sample unsampled]

end Sys2Proof.Machine
end

section
/-!
PROOFS. What the bank invariant reads, and the operations and rows that leave it: everything but the table commands, the
Cue Scheduler's commands, the verifications, the period starts, the entry into QUIET and the resets.
-/
namespace Sys2Proof.Machine

open Sys2Proof

/-! ### The operations of the state -/

/-- What the bank invariant reads. -/
def State.banked (s : State) :
    PerOut (PerKind BankPair) × PerOut (PerKind (Option Nat)) × PerOut (Option Fade) × List Cue :=
  (s.pairs, s.pendingSwaps, s.fades, s.cues)

@[simp] theorem banked_advance (s : State) (t : Nat) : (s.advance t).banked = s.banked := rfl
@[simp] theorem banked_setPort (s : State) (l : Link) (p : Port) : (s.setPort l p).banked = s.banked := rfl
@[simp] theorem banked_setLinkState (s : State) (l : Link) (x : LinkState) : (s.setLinkState l x).banked = s.banked := rfl
@[simp] theorem banked_setFrame (s : State) (l : Link) (x : FrameProgress) : (s.setFrame l x).banked = s.banked := rfl
@[simp] theorem banked_setLinkStore (s : State) (l : Link) (x : LinkStore) : (s.setLinkStore l x).banked = s.banked := rfl
@[simp] theorem banked_setSlot (s : State) (i : SlotId) (x : Slot) : (s.setSlot i x).banked = s.banked := rfl
@[simp] theorem banked_setPartState (s : State) (p : PartState) : (s.setPartState p).banked = s.banked := rfl
@[simp] theorem banked_setDecoder (s : State) (d : ServiceDecoder) : (s.setDecoder d).banked = s.banked := rfl
@[simp] theorem banked_setService (s : State) (v : Override) : (s.setService v).banked = s.banked := rfl
@[simp] theorem banked_keepIdleTimer (s : State) : (keepIdleTimer s).banked = s.banked := rfl
@[simp] theorem banked_latchEdges (s s' : State) : (latchEdges s s').banked = s'.banked := rfl

@[simp] theorem banked_raise (s : State) (e : Event) : (s.raise e).banked = s.banked := by
  rw [raise_eq]; rfl

@[simp] theorem banked_raiseIf (s : State) (b : Bool) (e : Event) : (s.raiseIf b e).banked = s.banked := by
  rw [raiseIf_eq]; rfl

/-! ### The Frame Store and the Stream Link Ports -/

@[simp] theorem banked_dropFrame (l : Link) (cause : DropCause) (s : State) :
    (dropFrame l cause s).banked = s.banked := by
  simp [dropFrame]

@[simp] theorem banked_dropFilling (l : Link) (cause : DropCause) (s : State) :
    (dropFilling l cause s).banked = s.banked := by
  rw [dropFilling_eq]; rfl

@[simp] theorem banked_offerFrame (l : Link) (h : Header) (s : State) : (offerFrame l h s).banked = s.banked := by
  unfold offerFrame
  cases admissionFailure l h s with
  | some cause => exact banked_dropFrame l cause s
  | none => cases (s.store.get l).slots.find Slot.isFree <;> rfl

@[simp] theorem banked_completeFrame (l : Link) (i : SlotIndex) (f : Frame) (s : State) :
    (completeFrame l i f s).banked = s.banked := by
  unfold completeFrame
  cases s.dome with
  | none => simp
  | some d => dsimp only; split_ifs <;> simp

@[simp] theorem banked_storeLine (l : Link) (line : List Pixel) (s : State) :
    (storeLine l line s).banked = s.banked := by
  unfold storeLine
  cases fillingIndex s l with
  | none => rfl
  | some i =>
    dsimp only
    cases s.slot ⟨l, i⟩ with
    | filling f => dsimp only; split_ifs <;> simp
    | free | complete _ _ => rfl

@[simp] theorem banked_wakeOnLock (s : State) : (wakeOnLock s).banked = s.banked := by
  unfold wakeOnLock
  split <;> rfl

@[simp] theorem banked_wakeFromStandby (s : State) : (wakeFromStandby s).banked = s.banked := by
  unfold wakeFromStandby
  split <;> rfl

@[simp] theorem banked_endFrame (l : Link) (s : State) : (endFrame l s).banked = s.banked := by
  simp [endFrame, cutPacket]

@[simp] theorem banked_enterHoldover (l : Link) (s : State) : (enterHoldover l s).banked = s.banked := by
  simp [enterHoldover]

@[simp] theorem banked_enterOff (l : Link) (s : State) : (enterOff l s).banked = s.banked := rfl
@[simp] theorem banked_enterSeeking (l : Link) (s : State) : (enterSeeking l s).banked = s.banked := rfl
@[simp] theorem banked_beginBody (l : Link) (h : Header) (parsed : Bool) (s : State) :
    (beginBody l h parsed s).banked = s.banked := rfl

@[simp] theorem banked_badHeader (l : Link) (s : State) : (badHeader l s).banked = s.banked := by
  unfold badHeader
  cases (s.ports.get l).state with
  | locked bad since => dsimp only; split_ifs <;> simp
  | off | seeking _ | aligned _ _ | holdover _ _ | quiet _ => rfl

@[simp] theorem banked_lockAndOffer (l : Link) (b : Bool) (h : Header) (s : State) :
    (lockAndOffer l b h s).banked = s.banked := by
  simp [lockAndOffer, enterLocked]

@[simp] theorem banked_goodHeader (l : Link) (h : Header) (s : State) : (goodHeader l h s).banked = s.banked := by
  unfold goodHeader
  dsimp only
  cases (s.ports.get l).state with
  | aligned _ _ | locked _ _ | holdover _ _ => dsimp only; split_ifs <;> simp
  | off | seeking _ | quiet _ => rfl

@[simp] theorem banked_loseSignal (e : Nat) (l : Link) (s : State) : (loseSignal e l s).banked = s.banked := by
  unfold loseSignal
  cases (s.ports.get l).state with
  | locked _ _ => dsimp only; split_ifs <;> simp
  | off | seeking _ | aligned _ _ | holdover _ _ | quiet _ => rfl

@[simp] theorem banked_handOver (l : Link) (p : Packet) (s : State) : (handOver l p s).banked = s.banked := by
  unfold handOver
  dsimp only
  split_ifs
  · rfl
  · exact banked_raise _ _

theorem banked_areaBytes (l : Link) (due : Nat) (b : FrameBody) (buf : List Byte) (s : State) :
    (areaBytes l due b buf s).banked = s.banked := by
  induction due generalizing b buf s with
  | zero => rfl
  | succ due ih =>
    unfold areaBytes
    dsimp only
    split_ifs <;> simp [ih]

@[simp] theorem banked_enableReceiver (l : Link) (s : State) : (enableReceiver l s).banked = s.banked := by
  unfold enableReceiver
  split_ifs <;> rfl

/-! ### Part state, patterns and service control -/

@[simp] theorem banked_standbyEntry (kind : StandbyKind) (s : State) : (standbyEntry kind s).banked = s.banked := by
  rw [standbyEntry, blackenAll, freeStoreForStandby]
  exact (banked_dropFilling .b _ _).trans (banked_dropFilling .a _ _)

theorem banked_startPattern (pat : Pattern) (o : Out) (s : State) : (startPattern pat o s).banked = s.banked := by
  unfold startPattern
  dsimp only
  split <;> rfl

@[simp] theorem banked_endPattern (o : Out) (s : State) : (endPattern o s).banked = s.banked := by
  unfold endPattern
  cases s.part.patterns.get o with
  | none => rfl
  | some p => dsimp only; split_ifs <;> rfl

/-- An operation on one output that leaves the records leaves them on the outputs of a mask. -/
theorem banked_forOutputs {f : Out → State → State} (hf : ∀ (o : Out) (s : State), (f o s).banked = s.banked)
    (m : Mask) (s : State) : (forOutputs m f s).banked = s.banked := by
  unfold forOutputs
  split_ifs <;> simp only [hf]

@[simp] theorem banked_decodeGroup (count : Nat) (s : State) : (decodeGroup count s).banked = s.banked := by
  rw [decodeGroup_eq]; rfl

/-! ### The owners of commands -/

/-- The state that the owner of a command leaves, if it does not refuse, has the records it found. -/
def Reply.LeavesBanks (s : State) : Reply → Prop := Reply.Has fun s' => s'.banked = s.banked

theorem gainOwner_leavesBanks (l : Link) (p : Packet) (s : State) : (gainOwner l p s).LeavesBanks s := by
  unfold gainOwner
  dsimp only
  split_ifs <;> trivial

theorem routeOwner_leavesBanks (l : Link) (p : Packet) (s : State) : (routeOwner l p s).LeavesBanks s := by
  unfold routeOwner
  split
  · trivial
  · split_ifs <;> trivial

theorem selectOwner_leavesBanks (l : Link) (p : Packet) (s : State) : (selectOwner l p s).LeavesBanks s := by
  unfold selectOwner
  split
  · trivial
  · split_ifs <;> trivial

theorem configLockOwner_leavesBanks (l : Link) (p : Packet) (s : State) : (configLockOwner l p s).LeavesBanks s := by
  unfold configLockOwner
  split
  · trivial
  · split
    · split_ifs <;> trivial
    all_goals trivial

theorem configUnlockOwner_leavesBanks (l : Link) (p : Packet) (s : State) :
    (configUnlockOwner l p s).LeavesBanks s := by
  unfold configUnlockOwner
  split <;> trivial

theorem setOutputOwner_leavesBanks (l : Link) (p : Packet) (s : State) : (setOutputOwner l p s).LeavesBanks s := by
  unfold setOutputOwner
  dsimp only
  split
  · trivial
  · split_ifs <;> trivial

theorem patternOwner_leavesBanks (l : Link) (p : Packet) (s : State) : (patternOwner l p s).LeavesBanks s := by
  unfold patternOwner
  dsimp only
  split
  · trivial
  · split_ifs
    · trivial
    · trivial
    · trivial
    · trivial
    · exact banked_forOutputs (banked_startPattern _) _ _

theorem standbyEnterOwner_leavesBanks (l : Link) (p : Packet) (s : State) :
    (standbyEnterOwner l p s).LeavesBanks s := by
  unfold standbyEnterOwner
  split
  · trivial
  · split
    · rfl
    · rfl
    · exact banked_standbyEntry _ s
    · exact banked_standbyEntry _ s
    · rfl

theorem standbyExitOwner_leavesBanks (l : Link) (p : Packet) (s : State) :
    (standbyExitOwner l p s).LeavesBanks s := by
  unfold standbyExitOwner
  split
  · trivial
  · exact banked_wakeFromStandby s

theorem standbyDelayOwner_leavesBanks (l : Link) (p : Packet) (s : State) :
    (standbyDelayOwner l p s).LeavesBanks s := by
  unfold standbyDelayOwner
  dsimp only
  split_ifs <;> trivial

end Sys2Proof.Machine
end

section
/-!
PROOFS. The bank invariant of one pair, as a property of the pair, of its pending swap and of its fade; what each
operation on a pair keeps of it.
-/
namespace Sys2Proof.Machine

open Sys2Proof

/-! ### One pair -/

/-- `PairOk` clause by clause, by the active bank and the shadow: `swap` and `fade` say what is in flight on the
pair. -/
structure BankPair.Fits (k : Kind) (swap fade : Bool) (p : BankPair) : Prop where
  activeOk : p.activeBank.ok k
  shadowOk : p.shadow.ok k
  activeIdle : p.activeBank.inLoad = false
  pinExact : p.pin = (swap || fade)
  oneAtMost : (swap && fade) = false
  swapReady : swap = true → p.shadow.table.isSome = true
  pinnedIdle : p.pin = true → p.shadow.inLoad = false

theorem BankPair.banks_ok_iff (k : Kind) (p : BankPair) :
    p.bank0.ok k ∧ p.bank1.ok k ↔ p.activeBank.ok k ∧ p.shadow.ok k := by
  rcases p with ⟨b0, b1, a, pin⟩
  cases a
  · exact Iff.rfl
  · exact and_comm

theorem pairOk_iff (s : State) (o : Out) (k : Kind) :
    PairOk s o k ↔ (s.pair o k).Fits k (s.pendingSwaps.at2 o k).isSome (fadeOn s o k) := by
  have banks := BankPair.banks_ok_iff k (s.pair o k)
  constructor
  · rintro ⟨ok0, ok1, idle, pin, one, ready, pinned⟩
    obtain ⟨activeOk, shadowOk⟩ := banks.mp ⟨ok0, ok1⟩
    exact ⟨activeOk, shadowOk, idle, pin, one, ready, pinned⟩
  · intro h
    obtain ⟨ok0, ok1⟩ := banks.mpr ⟨h.activeOk, h.shadowOk⟩
    exact ⟨ok0, ok1, h.activeIdle, h.pinExact, h.oneAtMost, h.swapReady, h.pinnedIdle⟩

theorem not_inLoad_of_table {b : Bank} (h : b.table.isSome = true) : b.inLoad = false := by
  cases b with
  | empty | ready _ => rfl
  | loading _ | verifying _ _ _ => cases h

section
variable {k : Kind} {swap fade : Bool} {p : BankPair}

/-- A shadow that is in a load is not pinned. -/
theorem BankPair.Fits.unpinned (h : p.Fits k swap fade) (load : p.shadow.inLoad = true) : p.pin = false :=
  Bool.eq_false_iff.mpr fun pin => by
    have idle := h.pinnedIdle pin
    rw [load] at idle
    cases idle

/-- The shadow of a pair that is not pinned may be written. -/
theorem BankPair.Fits.setShadow (h : p.Fits k swap fade) (free : p.pin = false) {b : Bank} (ok : b.ok k) :
    (p.setShadow b).Fits k swap fade where
  activeOk := by rw [BankPair.activeBank_setShadow]; exact h.activeOk
  shadowOk := by rw [BankPair.shadow_setShadow]; exact ok
  activeIdle := by rw [BankPair.activeBank_setShadow]; exact h.activeIdle
  pinExact := by rw [BankPair.pin_setShadow]; exact h.pinExact
  oneAtMost := h.oneAtMost
  swapReady on := by
    have pin := h.pinExact
    rw [on, free] at pin
    cases pin
  pinnedIdle pin := by
    rw [BankPair.pin_setShadow, free] at pin
    cases pin

/-- The pin, and what is in flight, may be written together. -/
theorem BankPair.Fits.repin (h : p.Fits k swap fade) {swap' fade' : Bool} (one : (swap' && fade') = false)
    (ready : swap' = true → p.shadow.table.isSome = true)
    (idle : (swap' || fade') = true → p.shadow.inLoad = false) :
    BankPair.Fits k swap' fade' { p with pin := swap' || fade' } :=
  ⟨h.activeOk, h.shadowOk, h.activeIdle, rfl, one, ready, idle⟩

/-- The exchange of a pair with a READY shadow; the pin is that of the fade that starts. -/
theorem BankPair.Fits.exchanged (h : p.Fits k swap fade) (ready : p.shadow.table.isSome = true) (starts : Bool) :
    BankPair.Fits k false starts { p with active := p.active.other, pin := starts } := by
  have active : BankPair.activeBank { p with active := p.active.other, pin := starts } = p.shadow := rfl
  have shadow : BankPair.shadow { p with active := p.active.other, pin := starts } = p.activeBank := by
    rcases p with ⟨b0, b1, a, pin⟩
    cases a <;> rfl
  exact ⟨active ▸ h.shadowOk, shadow ▸ h.activeOk, active ▸ not_inLoad_of_table ready, rfl, rfl, nofun,
    fun _ => shadow ▸ h.activeIdle⟩

/-! ### Verifications (R18, R19) -/

theorem verifiedBank_ok {b : Bank} (h : b.ok k) : (verifiedBank b).ok k := by
  cases b with
  | empty | loading _ | ready _ => exact h
  | verifying ld tag n =>
    cases n with
    | zero => exact h
    | succ n =>
      obtain ⟨size, whole⟩ := h
      dsimp only [verifiedBank]
      split_ifs
      · exact ⟨size, whole, rfl⟩
      · trivial

/-- The end of a verification, and a start that it meets, write a shadow that is in a load and so not pinned. -/
theorem BankPair.Fits.verified (h : p.Fits k swap fade) : p.verified.Fits k swap fade := by
  rw [BankPair.verified]
  cases load : p.shadow.inLoad with
  | true => exact h.setShadow (h.unpinned load) (verifiedBank_ok h.shadowOk)
  | false => rw [verifiedBank_of_not_inLoad load, BankPair.setShadow_self]; exact h

/-! ### Fades and swaps at a start (R30, R33) -/

/-- A fade on a pair of the kind. -/
def fadeOf (k : Kind) (f : Option Fade) : Bool := k == .blend && f.isSome

theorem fadeOn_eq (s : State) (o : Out) (k : Kind) : fadeOn s o k = fadeOf k (s.fades.get o) := by
  cases k <;> rfl

/-- The step of a fade: where the fade ends, its pin is released. -/
theorem BankPair.Fits.fadeStep {f : Option Fade} (h : p.Fits k swap (fadeOf k f)) :
    (p.fadeStep k f).Fits k swap (fadeOf k (fadeStepped f)) := by
  cases k with
  | warp => exact h
  | blend =>
    have pin := h.pinExact
    cases f with
    | none =>
      rw [BankPair.fadeStep, show (p.pin && !((none : Option Fade).isSome && (fadeStepped none).isNone)) = p.pin from
        Bool.and_true _]
      exact h
    | some f =>
      have alone : swap = false := by simpa [fadeOf] using h.oneAtMost
      subst alone
      have stepped : BankPair.fadeStep .blend (some f) p = { p with pin := (fadeStepped (some f)).isSome } := by
        rw [BankPair.fadeStep, pin]
        cases fadeStepped (some f) <;> rfl
      exact stepped ▸ h.repin rfl nofun fun _ => h.pinnedIdle pin

/-- A pending swap carried out: the shadow is READY, so the exchange is made. -/
theorem BankPair.Fits.carried {pending : Option Nat} {f : Option Fade} (h : p.Fits k pending.isSome (fadeOf k f)) :
    (p.carried k pending).Fits k false (fadeOf k (fadeCarried pending p f)) := by
  cases pending with
  | none => exact h
  | some n =>
    have ready := h.swapReady rfl
    have none : fadeOf k f = false := by simpa using h.oneAtMost
    rw [BankPair.carried, if_pos ready]
    have starts : fadeOf k (fadeCarried (some n) p f) = (k == .blend && n != 0) := by
      rw [fadeCarried, ready]
      cases k with
      | warp => rfl
      | blend =>
        cases n with
        | zero => exact none
        | succ n => rfl
    rw [starts]
    exact h.exchanged ready _

/-! ### A SWAP cue that fires on the pair (R45) -/

/-- A fired SWAP cue on a pair without a pending swap: its fade has ended, and with a READY shadow it is exchanged. -/
theorem BankPair.Fits.fired {f : Option Fade} (h : p.Fits k false (fadeOf k f)) (fade : Nat) :
    (p.fired k fade f).Fits k false (fadeOf k (fadeFired fade p)) := by
  unfold BankPair.fired fadeFired
  cases ready : p.shadow.table.isSome with
  | true =>
    have starts : fadeOf k (if (true && fade != 0) = true then some ⟨fade, 1⟩ else none) = (k == .blend && fade != 0) := by
      cases fade <;> rfl
    rw [starts]
    exact h.exchanged ready _
  | false =>
    have released : p.fadeEnded k f = { p with pin := false } := by
      rw [BankPair.fadeEnded, h.pinExact]
      cases hf : fadeOf k f <;> simp_all [fadeOf]
    have none : fadeOf k none = false := Bool.and_false _
    rw [if_neg Bool.false_ne_true, Bool.false_and, if_neg Bool.false_ne_true, released, none]
    exact h.repin rfl nofun nofun

/-! ### Loads lost and cut off (R22, R26, R27) -/

theorem loseLoad_ok (l : Link) {b : Bank} (h : b.ok k) : (b.loseLoad l).ok k := by
  unfold Bank.loseLoad
  split_ifs
  · trivial
  · exact h

theorem loseLoad_of_not_inLoad (l : Link) {b : Bank} (h : b.inLoad = false) : b.loseLoad l = b := by
  cases b with
  | empty | ready _ => rfl
  | loading _ | verifying _ _ _ => cases h

/-- A link that enters QUIET empties a shadow that it loads, which is not pinned; the active bank is in no load. -/
theorem BankPair.Fits.loseLoads (h : p.Fits k swap fade) (l : Link) :
    BankPair.Fits k swap fade { p with bank0 := p.bank0.loseLoad l, bank1 := p.bank1.loseLoad l } := by
  have lost : { p with bank0 := p.bank0.loseLoad l, bank1 := p.bank1.loseLoad l } =
      p.setShadow (p.shadow.loseLoad l) := by
    have active := loseLoad_of_not_inLoad l h.activeIdle
    rcases p with ⟨b0, b1, a, pin⟩
    cases a
    · exact congrArg (BankPair.mk · _ _ _) active
    · exact congrArg (BankPair.mk _ · _ _) active
  rw [lost]
  cases load : p.shadow.inLoad with
  | true => exact h.setShadow (h.unpinned load) (loseLoad_ok l h.shadowOk)
  | false => rw [loseLoad_of_not_inLoad l load, BankPair.setShadow_self]; exact h

theorem cutOff_ok {b : Bank} (h : b.ok k) : b.cutOff.ok k ∧ b.cutOff.inLoad = false := by
  cases b with
  | empty | loading _ | verifying _ _ _ => exact ⟨trivial, rfl⟩
  | ready _ => exact ⟨h, rfl⟩

/-- Loads abandoned, swaps and fades ended, the pin released. -/
theorem BankPair.Fits.cutOff (h : p.Fits k swap fade) :
    BankPair.Fits k false false { p with bank0 := p.bank0.cutOff, bank1 := p.bank1.cutOff, pin := false } := by
  have active : BankPair.activeBank { p with bank0 := p.bank0.cutOff, bank1 := p.bank1.cutOff, pin := false }
      = p.activeBank.cutOff := by
    rcases p with ⟨b0, b1, a, pin⟩
    cases a <;> rfl
  have shadow : BankPair.shadow { p with bank0 := p.bank0.cutOff, bank1 := p.bank1.cutOff, pin := false }
      = p.shadow.cutOff := by
    rcases p with ⟨b0, b1, a, pin⟩
    cases a <;> rfl
  obtain ⟨activeOk, activeIdle⟩ := cutOff_ok h.activeOk
  exact ⟨active ▸ activeOk, shadow ▸ (cutOff_ok h.shadowOk).1, active ▸ activeIdle, rfl, rfl, nofun, nofun⟩

end

theorem fits_reset (k : Kind) : BankPair.reset.Fits k false false := ⟨trivial, trivial, rfl, rfl, rfl, nofun, nofun⟩

end Sys2Proof.Machine
end

section
/-!
PROOFS. The bank invariant of the part: what writes one pair or all of them, the Cue Scheduler at a period start, and the
clock rows that make one.
-/
namespace Sys2Proof.Machine

open Sys2Proof

/-! ### The invariant, clause by clause -/

/-- `BanksOk` clause by clause, each pair by `BankPair.Fits`. -/
structure BanksFit (s : State) : Prop where
  fits : ∀ (o : Out) (k : Kind), (s.pair o k).Fits k (s.pendingSwaps.at2 o k).isSome (fadeOf k (s.fades.get o))
  swapsFit : ∀ (o : Out) (k : Kind), ∀ n ∈ s.pendingSwaps.at2 o k, n ≤ 250
  fadesFit : ∀ o : Out, ∀ f ∈ s.fades.get o, f.ok
  cuesFit : ∀ c ∈ s.cues, ∀ ks fade, c.action = .swap ks fade → fade ≤ 250

theorem banksOk_iff (s : State) : BanksOk s ↔ BanksFit s := by
  have cue (c : Cue) : (match c.action with
      | .swap _ fade => fade ≤ 250
      | .gain _ _ => True) ↔ ∀ ks fade, c.action = .swap ks fade → fade ≤ 250 := by
    cases c.action <;> simp
  have fits (o : Out) (k : Kind) := pairOk_iff s o k
  simp only [fadeOn_eq] at fits
  constructor
  · rintro ⟨pairs, swaps, fades, cues⟩
    exact ⟨fun o k => (fits o k).mp (pairs o k), swaps, fades, fun c hc => (cue c).mp (cues c hc)⟩
  · intro h
    exact ⟨fun o k => (fits o k).mpr (h.fits o k), h.swapsFit, h.fadesFit, fun c hc => (cue c).mpr (h.cuesFit c hc)⟩

/-- An operation that leaves these records keeps their invariant. -/
theorem BanksFit.of_banked_eq {s s' : State} (hs : BanksFit s) (h : s'.banked = s.banked) : BanksFit s' := by
  simp only [State.banked, Prod.mk.injEq] at h
  obtain ⟨pairs, swaps, fades, cues⟩ := h
  have pair (o : Out) (k : Kind) : s'.pair o k = s.pair o k := by rw [State.pair, pairs]; rfl
  exact ⟨fun o k => by rw [pair, swaps, fades]; exact hs.fits o k, by rw [swaps]; exact hs.swapsFit,
    by rw [fades]; exact hs.fadesFit, by rw [cues]; exact hs.cuesFit⟩

/-! ### Writing pairs -/

theorem PerOut.forall_at2_set2 {α : Type} {P : Out → Kind → α → Prop} {p : PerOut (PerKind α)} {o : Out} {k : Kind} {x : α}
    (hx : P o k x) (hp : ∀ (q : Out) (j : Kind), q ≠ o ∨ j ≠ k → P q j (p.at2 q j)) (q : Out) (j : Kind) :
    P q j ((p.set2 o k x).at2 q j) := by
  by_cases h : q ≠ o ∨ j ≠ k
  · rw [PerOut.at2_set2_other p x h]
    exact hp q j h
  · rw [not_or, not_not, not_not] at h
    obtain ⟨rfl, rfl⟩ := h
    rw [PerOut.at2_set2_same]
    exact hx

theorem BanksFit.setPair {s : State} (hs : BanksFit s) (o : Out) (k : Kind) {p : BankPair}
    (fit : p.Fits k (s.pendingSwaps.at2 o k).isSome (fadeOf k (s.fades.get o))) : BanksFit (s.setPair o k p) :=
  { hs with
    fits := PerOut.forall_at2_set2 (P := fun q j (p : BankPair) => p.Fits j (s.pendingSwaps.at2 q j).isSome (fadeOf j (s.fades.get q)))
      fit fun q j _ => hs.fits q j }

/-- The shadow of a pair that is not pinned may be written. -/
theorem BanksFit.setShadow {s : State} (hs : BanksFit s) {o : Out} {k : Kind} (free : (s.pair o k).pin = false)
    {b : Bank} (ok : b.ok k) : BanksFit (s.setPair o k ((s.pair o k).setShadow b)) :=
  hs.setPair o k ((hs.fits o k).setShadow free ok)

theorem BanksFit.unpinned {s : State} (hs : BanksFit s) {o : Out} {k : Kind} (load : (s.pair o k).shadow.inLoad = true) :
    (s.pair o k).pin = false :=
  (hs.fits o k).unpinned load

/-- Every pair changed by one function. -/
theorem pair_mapPairs (s : State) (f : BankPair → BankPair) (o : Out) (k : Kind) :
    State.pair { s with pairs := s.pairs.map fun pk => pk.map f } o k = f (s.pair o k) := by
  cases o <;> cases k <;> rfl

theorem BanksFit.loseLoads {s : State} (hs : BanksFit s) (l : Link) : BanksFit (loseLoads l s) := by
  refine BanksFit.of_banked_eq ?_ (banked_raiseIf _ _ _)
  exact { hs with fits := fun o k => pair_mapPairs s _ o k ▸ (hs.fits o k).loseLoads l }

theorem BanksFit.enterQuiet {s : State} (hs : BanksFit s) (l : Link) : BanksFit (enterQuiet l s) :=
  ((hs.of_banked_eq (banked_raise s (.linkFail l))).loseLoads l).of_banked_eq rfl

/-- A part whose tables are reset with the pins, and whose schedule is empty. -/
theorem BanksFit.of_emptied {s s' : State} (hs : BanksFit s) (pairs : s'.pairs = (resetTables s).pairs)
    (swaps : s'.pendingSwaps = ⟨⟨none, none⟩, ⟨none, none⟩⟩) (fades : s'.fades = ⟨none, none⟩) (cues : s'.cues = []) :
    BanksFit s' := by
  have pair (o : Out) (k : Kind) : s'.pair o k = (resetTables s).pair o k := congrArg (PerOut.at2 · o k) pairs
  have swap (o : Out) (k : Kind) : s'.pendingSwaps.at2 o k = none := by rw [swaps]; cases o <;> cases k <;> rfl
  have fade (o : Out) : s'.fades.get o = none := by rw [fades]; cases o <;> rfl
  have off (k : Kind) : fadeOf k none = false := Bool.and_false _
  refine ⟨fun o k => ?_, fun o k n hn => ?_, fun o f hf => ?_, fun c hc => ?_⟩
  · rw [pair, swap, fade, off]
    exact pair_mapPairs s _ o k ▸ (hs.fits o k).cutOff
  · rw [swap] at hn; cases hn
  · rw [fade] at hf; cases hf
  · rw [cues] at hc; cases hc

theorem banksFit_powerOnReset (s : State) : BanksFit (powerOnReset s) := by
  refine ⟨fun o k => ?_, fun o k n hn => ?_, fun o f hf => ?_, nofun⟩
  · cases o <;> cases k <;> exact fits_reset _
  · cases o <;> cases k <;> cases hn
  · cases o <;> cases hf

theorem BanksFit.softReset {s : State} (hs : BanksFit s) (keep : Bool) : BanksFit (softReset keep s) := by
  have part : (softResetPart keep (softResetScheduler (resetTables s))).banked =
      (softResetScheduler (resetTables s)).banked := by
    unfold softResetPart
    cases keep <;> exact banked_wakeFromStandby _
  exact (hs.of_emptied (s' := softResetScheduler (resetTables s)) rfl rfl rfl rfl).of_banked_eq part

/-! ### Verifications (R18, R19) -/

theorem verified_of_verifying {p : BankPair} {ld : Load} {tag : Word16} {n : Nat}
    (h : p.shadow = .verifying ld tag n) : p.shadow.inLoad = true := by rw [h]; rfl

theorem BanksFit.endVerification {s : State} (hs : BanksFit s) (o : Out) (k : Kind) :
    BanksFit (endVerification o k s) := by
  cases hb : (s.pair o k).shadow with
  | empty | loading _ | ready _ => simpa only [Machine.endVerification, hb] using hs
  | verifying ld tag n =>
    have ok := (hs.fits o k).shadowOk
    rw [hb] at ok
    have set := hs.setShadow (hs.unpinned (verified_of_verifying hb))
      (verifiedBank_ok (b := .verifying ld tag 1) ok)
    refine set.of_banked_eq ?_
    have pairs := endVerification_pairs hb
    rw [endVerification_eq]
    exact congrArg (·, _, _, _) pairs

theorem BanksFit.verificationsAtStart {s : State} (hs : BanksFit s) : BanksFit (verificationsAtStart s) := by
  have pair := pair_of_forPairs (verificationsAtStart_pairs s)
  have swaps : (Machine.verificationsAtStart s).pendingSwaps = s.pendingSwaps := by rw [verificationsAtStart_eq]
  have fades : (Machine.verificationsAtStart s).fades = s.fades := by rw [verificationsAtStart_eq]
  have cues : (Machine.verificationsAtStart s).cues = s.cues := by rw [verificationsAtStart_eq]
  exact ⟨fun o k => by rw [pair, swaps, fades]; exact (hs.fits o k).verified, by rw [swaps]; exact hs.swapsFit,
    by rw [fades]; exact hs.fadesFit, by rw [cues]; exact hs.cuesFit⟩

/-! ### Fades and pending swaps (R30, R33) -/

theorem fadeStepped_ok {x f : Option Fade} (h : ∀ g ∈ x, g.ok) (hf : f = fadeStepped x) : ∀ g ∈ f, g.ok := by
  subst hf
  cases x with
  | none => exact nofun
  | some f =>
    obtain ⟨-, -, length⟩ := h f rfl
    intro g hg
    unfold fadeStepped at hg
    dsimp only at hg
    split_ifs at hg with more
    · cases hg
      exact ⟨Nat.le_add_left 1 _, more, length⟩
    · cases hg

/-- A fade that starts has a length within its range and begins at step 1 (R32). -/
theorem fadeBegun_ok {n : Nat} (h0 : n ≠ 0) (h : n ≤ 250) : Fade.ok ⟨n, 1⟩ := ⟨le_rfl, Nat.pos_of_ne_zero h0, h⟩

theorem fadeCarried_ok {pending : Option Nat} {p : BankPair} {f : Option Fade} (hp : ∀ n ∈ pending, n ≤ 250)
    (hf : ∀ g ∈ f, g.ok) : ∀ g ∈ fadeCarried pending p f, g.ok := by
  cases pending with
  | none => exact hf
  | some n =>
    intro g hg
    unfold fadeCarried at hg
    dsimp only at hg
    split_ifs at hg with starts
    · cases hg
      rw [Bool.and_eq_true, bne_iff_ne] at starts
      exact fadeBegun_ok starts.2 (hp n rfl)
    · exact hf g hg

theorem BanksFit.fadesAndSwaps {s : State} (hs : BanksFit s) :
    BanksFit (allPairs.foldl carryOutSwap (stepFade .out1 (stepFade .out0 s))) := by
  rw [fadesAndSwaps_eq]
  refine ⟨fun o k => ?_, fun o k n hn => ?_, fun o => ?_, hs.cuesFit⟩
  · have fit := (hs.fits o k).fadeStep.carried
    rw [State.pair, at2_forPairs, at2_forPairs, get_forOuts]
    cases k with
    | warp => exact fit
    | blend => exact fit
  · rw [at2_forPairs] at hn; cases hn
  · rw [get_forOuts]
    exact fadeCarried_ok (hs.swapsFit o .blend) (fadeStepped_ok (hs.fadesFit o) rfl)

/-! ### Fired cues (R44, R45) -/

/-- The banks as they stand when cues fire: no swap is pending. -/
structure BanksFire (s : State) : Prop extends BanksFit s where
  noSwap : ∀ (o : Out) (k : Kind), s.pendingSwaps.at2 o k = none

theorem banked_appendOutcome (r : CueRecord) (s : State) : (appendOutcome r s).banked = s.banked := by
  rw [appendOutcome_eq]; rfl

theorem BanksFire.of_banked_eq {s s' : State} (hs : BanksFire s) (h : s'.banked = s.banked) : BanksFire s' where
  toBanksFit := hs.toBanksFit.of_banked_eq h
  noSwap o k := by
    have swaps : s'.pendingSwaps = s.pendingSwaps := congrArg (·.2.1) h
    rw [swaps]
    exact hs.noSwap o k

theorem fadeFired_ok {fade : Nat} (h : fade ≤ 250) (p : BankPair) : ∀ g ∈ fadeFired fade p, g.ok := by
  intro g hg
  rw [fadeFired_eq] at hg
  split_ifs at hg with starts
  · cases hg
    exact fadeBegun_ok starts.2 h
  · cases hg

/-- A SWAP cue on the pairs that it names. -/
theorem BanksFire.swapFired {s : State} (hs : BanksFire s) (m : Mask) (ks : Kinds) {fade : Nat} (h : fade ≤ 250) :
    BanksFire { s with
      pairs := forPairs fun o k =>
        if namesPair m ks o k then (s.pair o k).fired k fade (s.fades.get o) else s.pair o k
      fades := forOuts fun o =>
        if namesPair m ks o .blend then fadeFired fade (s.pair o .blend) else s.fades.get o } := by
  refine ⟨⟨fun o k => ?_, hs.swapsFit, fun o => ?_, hs.cuesFit⟩, hs.noSwap⟩
  · have fit := hs.fits o k
    rw [hs.noSwap o k] at fit
    rw [State.pair, at2_forPairs, get_forOuts, hs.noSwap o k]
    by_cases named : namesPair m ks o k = true
    · rw [if_pos named]
      have fired := fit.fired fade
      cases k with
      | warp => exact fired
      | blend => rw [if_pos named]; exact fired
    · rw [if_neg named]
      cases k with
      | warp => exact fit
      | blend => rw [if_neg named]; exact fit
  · rw [get_forOuts]
    split_ifs
    · exact fadeFired_ok h _
    · exact hs.fadesFit o

theorem BanksFire.fireCue {s : State} (hs : BanksFire s) (d : Period) {c : Cue}
    (hc : ∀ ks fade, c.action = .swap ks fade → fade ≤ 250) : BanksFire (fireCue d s c) := by
  cases ha : c.action with
  | gain target ramp =>
    rw [fireCue_gain ha]
    exact hs.of_banked_eq (banked_appendOutcome _ _)
  | swap ks fade =>
    rw [fireCue_swap ha]
    exact (hs.swapFired c.mask ks (hc ks fade ha)).of_banked_eq (banked_appendOutcome _ _)

theorem BanksFire.fireCues {s : State} (hs : BanksFire s) (d : Period) : BanksFire (fireCues d s) := by
  have fold : ∀ (cues : List Cue) (t : State), (∀ c ∈ cues, ∀ ks fade, c.action = .swap ks fade → fade ≤ 250) →
      BanksFire t → BanksFire (cues.foldl (Machine.fireCue d) t) := by
    intro cues
    induction cues with
    | nil => exact fun t _ ht => ht
    | cons c cues ih =>
      exact fun t hcues ht => ih _ (fun x hx => hcues x (.tail _ hx)) (ht.fireCue d (hcues c (.head _)))
  exact fold _ _ (fun c hc => hs.cuesFit c (List.mem_of_mem_filter hc))
    ⟨⟨hs.fits, hs.swapsFit, hs.fadesFit, fun c hc => hs.cuesFit c (List.mem_of_mem_filter hc)⟩, hs.noSwap⟩

/-! ### Period starts -/

theorem BanksFit.schedulerWork {s : State} (hs : BanksFit s) : BanksFit (schedulerWork s) := by
  unfold Machine.schedulerWork
  cases s.dome with
  | none => exact hs
  | some d =>
    have fire : BanksFire (allPairs.foldl carryOutSwap (stepFade .out1 (stepFade .out0 s))) :=
      ⟨hs.fadesAndSwaps, fun o k => by rw [fadesAndSwaps_eq]; exact at2_forPairs _ o k⟩
    exact (fire.fireCues d).toBanksFit.of_banked_eq rfl

theorem BanksFit.periodStart {s : State} (hs : BanksFit s) (before : State) : BanksFit (periodStart before s) := by
  obtain ⟨pairs, cues, -, swaps, fades, -⟩ := periodStart_scheduler before s
  refine hs.verificationsAtStart.schedulerWork.of_banked_eq ?_
  rw [State.banked, pairs, swaps, fades, cues]
  rfl

/-- A start reads the banks as the state before it has them. -/
theorem BanksFit.makeStart {before s : State} (hb : BanksFit before) (h : s.banked = before.banked) :
    BanksFit (makeStart before s) := by
  unfold Machine.makeStart
  split_ifs
  · exact hb
  · exact (hb.of_banked_eq h).periodStart before

theorem BanksFit.acceptWord {s : State} (hs : BanksFit s) (n : Period) : BanksFit (acceptWord n s) := by
  have start (d : Period) (period : Nat) : BanksFit (startAtWord d n period s) := hs.makeStart (banked_raiseIf _ _ _)
  unfold Machine.acceptWord
  cases s.clock.state with
  | unsynced => exact hs.of_banked_eq rfl
  | acquiring reference mark expires =>
    dsimp only
    split_ifs
    · exact hs.makeStart rfl
    · exact hs.of_banked_eq rfl
  | tracking d opens closes =>
    dsimp only
    split_ifs
    · exact start _ _
    · exact hs
  | freerun d => exact start _ _

theorem execSyncWord_banksFit (t : Nat) (cells : BitVec 48) {s : State} (hs : BanksFit s) :
    Answers BanksFit (execSyncWord t cells s) := by
  have hs0 : BanksFit (decoderAtMark (s.advance t)) := hs.of_banked_eq rfl
  unfold execSyncWord
  dsimp only
  split_ifs
  · exact hs0.acceptWord _
  · exact hs0
  · exact hs.of_banked_eq rfl

theorem execGeneratorStart_banksFit {s : State} (hs : BanksFit s) : Answers BanksFit (execGeneratorStart s) := by
  unfold execGeneratorStart
  cases generatorDue s.clock with
  | none => exact hs
  | some e =>
    have hs0 : BanksFit (s.advance e) := hs.of_banked_eq rfl
    change BanksFit (generatorStart (s.advance e))
    unfold generatorStart
    cases (s.advance e).clock.state with
    | freerun _ | unsynced | acquiring _ _ _ => exact hs0.makeStart rfl
    | tracking _ _ _ => exact hs0

theorem execTrackingWindowClose_banksFit {s : State} (hs : BanksFit s) :
    Answers BanksFit (execTrackingWindowClose s) := by
  unfold execTrackingWindowClose
  cases s.clock.state with
  | tracking d opens closes => exact (hs.of_banked_eq (banked_advance s closes)).makeStart rfl
  | unsynced | acquiring _ _ _ | freerun _ => exact hs

end Sys2Proof.Machine
end

section
/-!
PROOFS. The bank invariant under the table commands, SWAP, the cue list's commands and SOFT_RESET, under every other row,
and under a step.
-/
namespace Sys2Proof.Machine

open Sys2Proof

/-! ### Taking a command -/

theorem banksFit_settle {l : Link} {p : Packet} {s : State} {r : Reply} (hs : BanksFit s) (hr : r.Has BanksFit) :
    BanksFit (settle l p s r) := by
  cases r with
  | refuse st payload => exact hs.of_banked_eq rfl
  | accept s' payload => exact hr.of_banked_eq rfl
  | defer s' => exact hr.of_banked_eq rfl

/-- A command keeps the banks if its owner does. -/
theorem banksFit_takeOwned {names : Packet → Bool} {lengthOk : Nat → Bool} {channel : Bool}
    {owner : Link → Packet → State → Reply}
    (ho : ∀ (l : Link) (p : Packet) (s : State), BanksFit s → (owner l p s).Has BanksFit)
    {s : State} (hs : BanksFit s) (t : Nat) : BanksFit (takeOwned names lengthOk channel owner t s) := by
  unfold takeOwned takeCommand
  cases nextPacket s with
  | none => exact hs.of_banked_eq rfl
  | some next =>
    obtain ⟨l, p, rest⟩ := next
    have taken : BanksFit (dequeue l rest (s.advance t)) := hs.of_banked_eq rfl
    dsimp only
    split_ifs
    · exact (banksFit_settle taken (generalChecks_has (ho l p _ taken))).of_banked_eq (banked_latchEdges _ _)
    · exact hs.of_banked_eq rfl

/-- A command whose owner leaves the records keeps the banks. -/
theorem banksFit_takeOwned_of_leaves {names : Packet → Bool} {lengthOk : Nat → Bool} {channel : Bool}
    {owner : Link → Packet → State → Reply} (ho : ∀ (l : Link) (p : Packet) (s : State), (owner l p s).LeavesBanks s)
    {s : State} (hs : BanksFit s) (t : Nat) : BanksFit (takeOwned names lengthOk channel owner t s) :=
  banksFit_takeOwned (fun l p s1 h1 => by
    have leaves := ho l p s1
    cases hr : owner l p s1 with
    | refuse _ _ => trivial
    | accept s' _ | defer s' => rw [hr] at leaves; exact h1.of_banked_eq leaves) hs t

/-! ### The table commands (R15 to R17, R21) -/

theorem banked_stopMixing (o : Out) (k : Kind) (s : State) : (stopMixing o k s).banked = s.banked := by
  cases k <;> rfl

theorem tableOpenOwner_banksFit (l : Link) (p : Packet) {s : State} (hs : BanksFit s) :
    (tableOpenOwner l p s).Has BanksFit := by
  unfold tableOpenOwner
  split
  · trivial
  · next o k _ =>
    dsimp only
    split_ifs with range load pin
    · trivial
    · trivial
    · trivial
    · have size := (gridInRange_iff k _).mp (by simpa using range)
      have opened : (Bank.loading ⟨⟨(p.u8 1).toNat, (p.u8 2).toNat⟩, p.u32 3, p.u32 7, l, []⟩).ok k :=
        ⟨size, Nat.zero_le _⟩
      exact (hs.setShadow (Bool.eq_false_iff.mpr pin) opened).of_banked_eq (banked_stopMixing _ _ _)

theorem tableDataOwner_banksFit (l : Link) (p : Packet) {s : State} (hs : BanksFit s) :
    (tableDataOwner l p s).Has BanksFit := by
  unfold tableDataOwner
  split
  · trivial
  · next o k _ =>
    cases hb : (s.pair o k).shadow with
    | empty | verifying _ _ _ | ready _ => trivial
    | loading ld =>
      dsimp only
      split_ifs with owner order fits
      · trivial
      · trivial
      · trivial
      · have ok := (hs.fits o k).shadowOk
        rw [hb] at ok
        obtain ⟨size, -⟩ := ok
        refine hs.setShadow (hs.unpinned (by rw [hb]; rfl)) ⟨size, ?_⟩
        rw [← imageLength_eq, List.length_append, ← not_not.mp order]
        exact not_lt.mp fits

theorem tableCloseOwner_banksFit (l : Link) (p : Packet) {s : State} (hs : BanksFit s) :
    (tableCloseOwner l p s).Has BanksFit := by
  unfold tableCloseOwner
  split
  · trivial
  · next o k _ =>
    cases hb : (s.pair o k).shadow with
    | empty | verifying _ _ _ | ready _ => trivial
    | loading ld =>
      dsimp only
      split_ifs with owner short
      · trivial
      · trivial
      · have ok := (hs.fits o k).shadowOk
        rw [hb] at ok
        obtain ⟨size, most⟩ := ok
        rw [imageLength_eq, not_lt] at short
        exact hs.setShadow (hs.unpinned (by rw [hb]; rfl)) ⟨size, le_antisymm most short⟩

theorem tableDiscardOwner_banksFit (l : Link) (p : Packet) {s : State} (hs : BanksFit s) :
    (tableDiscardOwner l p s).Has BanksFit := by
  unfold tableDiscardOwner
  split
  · trivial
  · next o k _ =>
    cases hb : (s.pair o k).shadow with
    | empty => exact hs
    | verifying _ _ _ => trivial
    | loading ld =>
      dsimp only
      split_ifs
      · trivial
      · exact hs.setShadow (hs.unpinned (by rw [hb]; rfl)) trivial
    | ready _ =>
      dsimp only
      split_ifs with pin
      · trivial
      · have emptied := hs.setShadow (b := .empty) (Bool.eq_false_iff.mpr pin) trivial
        exact emptied.of_banked_eq (banked_stopMixing _ _ _)

/-! ### SWAP and the cue list (R29, R39 to R43) -/

/-- A pair without a swap or a fade in flight and with a READY shadow may be booked. -/
theorem BanksFit.book {s : State} (hs : BanksFit s) (m : Mask) (ks : Kinds) {fade : Nat} (h : fade ≤ 250)
    (free : ∀ o k, namesPair m ks o k = true → fadeOf k (s.fades.get o) = false)
    (ready : ∀ o k, namesPair m ks o k = true → (s.pair o k).shadow.table.isSome = true) :
    BanksFit ((namedPairs m ks).foldl (bookSwap fade) s) := by
  rw [bookSwap_namedPairs]
  refine ⟨fun o k => ?_, fun o k n hn => ?_, hs.fadesFit, hs.cuesFit⟩
  · rw [State.pair, at2_forPairs, at2_forPairs]
    by_cases named : namesPair m ks o k = true
    · have table := ready o k named
      have pinned := (hs.fits o k).repin (swap' := true) (fade' := false) rfl (fun _ => table)
        fun _ => not_inLoad_of_table table
      rw [Bool.or_false] at pinned
      rw [if_pos named, if_pos named, free o k named]
      exact pinned
    · rw [if_neg named, if_neg named]
      exact hs.fits o k
  · rw [at2_forPairs] at hn
    split_ifs at hn
    · cases hn; exact h
    · cases hn; exact Nat.zero_le _
    · exact hs.swapsFit o k n hn

theorem somePair_eq_false {f : Out → Kind → Bool} (h : ¬somePair f = true) (o : Out) (k : Kind) : f o k = false := by
  simp only [somePair, Bool.or_eq_true, not_or, Bool.not_eq_true] at h
  obtain ⟨⟨⟨h0, h1⟩, h2⟩, h3⟩ := h
  cases o <;> cases k <;> assumption

theorem swapOwner_banksFit (l : Link) (p : Packet) {s : State} (hs : BanksFit s) :
    (swapOwner l p s).Has BanksFit := by
  unfold swapOwner
  dsimp only
  split
  · trivial
  · next ks _ =>
    rw [namedPairs_any _ _ (swapInFlight s), namedPairs_any _ _ fun o k => (s.pair o k).shadow.table.isNone]
    split_ifs with fields flight unready
    · trivial
    · trivial
    · trivial
    · rw [badSwapFields_iff, not_or, not_lt] at fields
      refine hs.book _ _ fields.1 (fun o k named => ?_) fun o k named => ?_
      · have := somePair_eq_false flight o k
        rw [named, Bool.true_and, swapInFlight_eq, Bool.or_eq_false_iff, fadeOn_eq] at this
        exact this.2
      · have := somePair_eq_false unready o k
        rw [named, Bool.true_and] at this
        exact Option.isNone_eq_false_iff.mp this

/-- The fade length of a SWAP cue that is taken lies within its range (R39). -/
theorem cueActionOf_fade {p : Packet} {ks : Kinds} {fade : Nat} (h : cueActionOf p = some (.swap ks fade)) :
    fade ≤ 250 := by
  unfold cueActionOf at h
  dsimp only at h
  split at h
  · split at h
    · cases h
    · split_ifs at h with fields
      cases h
      rw [badSwapFields_iff, not_or, not_lt] at fields
      exact fields.1
  · split_ifs at h
    cases h
  · cases h

theorem BanksFit.setCues {s : State} (hs : BanksFit s) {cues : List Cue}
    (h : ∀ c ∈ cues, ∀ ks fade, c.action = .swap ks fade → fade ≤ 250) : BanksFit { s with cues := cues } :=
  { hs with cuesFit := h }

theorem cueAddOwner_banksFit (l : Link) (p : Packet) {s : State} (hs : BanksFit s) :
    (cueAddOwner l p s).Has BanksFit := by
  unfold cueAddOwner
  dsimp only
  split
  · trivial
  · next action haction =>
    split_ifs
    · trivial
    · trivial
    · trivial
    · trivial
    · trivial
    · refine hs.setCues fun c hc ks fade hswap => ?_
      rcases List.mem_cons.mp ((insertCue_perm _ _).mem_iff.mp hc) with rfl | old
      · exact cueActionOf_fade (haction.trans (congrArg some hswap))
      · exact hs.cuesFit c old ks fade hswap

theorem cueCancelOwner_banksFit (l : Link) (p : Packet) {s : State} (hs : BanksFit s) :
    (cueCancelOwner l p s).Has BanksFit := by
  unfold cueCancelOwner
  split_ifs
  · exact hs.setCues fun c hc => hs.cuesFit c (List.mem_of_mem_filter hc)
  · trivial

/-! ### SOFT_RESET (R27, R54) -/

theorem execSoftReset_banksFit (t : Nat) {s : State} (hs : BanksFit s) : Answers BanksFit (execSoftReset t s) := by
  unfold execSoftReset
  cases nextPacket s with
  | none => exact hs.of_banked_eq rfl
  | some next =>
    obtain ⟨l, p, rest⟩ := next
    have taken : BanksFit (dequeue l rest (s.advance t)) := hs.of_banked_eq rfl
    dsimp only
    split_ifs
    · refine banksFit_settle taken (generalChecks_has ?_)
      unfold softResetOwner
      split
      · trivial
      · next keep _ => exact taken.softReset keep
    · exact hs.of_banked_eq rfl

/-! ### The rows that leave the banks -/

/-- What a row answers has the records it found. -/
def SameBanks (s : State) : Host.Outcome State Fault Refusal → Prop := Answers fun s' => s'.banked = s.banked

theorem BanksFit.of_sameBanks {s : State} (hs : BanksFit s) {x : Host.Outcome State Fault Refusal}
    (h : SameBanks s x) : Answers BanksFit x :=
  answers_mono h fun _ same => hs.of_banked_eq same

theorem execSignalPresent_sameBanks (t : Nat) (l : Link) (s : State) : SameBanks s (execSignalPresent t l s) := by
  unfold execSignalPresent
  dsimp only
  split
  · rfl
  · cases ((s.advance t).ports.get l).state with
    | off => dsimp only; split <;> rfl
    | seeking _ | aligned _ _ | locked _ _ | holdover _ _ | quiet _ => rfl

theorem execSignalAbsent_sameBanks (t : Nat) (l : Link) (s : State) : SameBanks s (execSignalAbsent t l s) := by
  unfold execSignalAbsent
  dsimp only
  split
  · rfl
  · exact banked_raiseIf _ _ _

theorem execSignalLost_sameBanks (l : Link) (s : State) : SameBanks s (execSignalLost l s) := by
  unfold execSignalLost
  cases (s.ports.get l).signalLoss with
  | none => rfl
  | some e => exact banked_loseSignal _ _ _

theorem execFrameDelimiter_sameBanks (t : Nat) (l : Link) (s : State) : SameBanks s (execFrameDelimiter t l s) := by
  have ended : (endFrame l (s.advance t)).banked = s.banked := banked_endFrame _ _
  unfold execFrameDelimiter
  dsimp only
  split
  · cases ((s.advance t).ports.get l).frame with
    | awaitingHeader | headerLost => exact (banked_badHeader _ _).trans ended
    | none | skipping | body _ => exact ended
  · rfl

theorem execFrameHeader_sameBanks (t : Nat) (l : Link) (bytes : BitVec 96) (s : State) :
    SameBanks s (execFrameHeader t l bytes s) := by
  unfold execFrameHeader
  dsimp only
  split
  · cases headerOf bytes with
    | some h => exact banked_goodHeader _ _ _
    | none => exact banked_badHeader _ _
  · rfl

theorem execPixelLine_sameBanks (t : Nat) (l : Link) (bytes : List Byte) (s : State) :
    SameBanks s (execPixelLine t l bytes s) := by
  unfold execPixelLine
  dsimp only
  split
  · split
    · exact banked_storeLine _ _ _
    · rfl
  all_goals rfl

theorem execManagementPacket_sameBanks (t : Nat) (l : Link) (bytes : List Byte) (s : State) :
    SameBanks s (execManagementPacket t l bytes s) := by
  unfold execManagementPacket
  dsimp only
  split
  · split
    · exact banked_areaBytes _ _ _ _ _
    · rfl
  all_goals rfl

theorem execQuietTimerExpiry_sameBanks (l : Link) (s : State) : SameBanks s (execQuietTimerExpiry l s) := by
  unfold execQuietTimerExpiry
  cases (s.ports.get l).state with
  | quiet _ => dsimp only; split <;> rfl
  | off | seeking _ | aligned _ _ | locked _ _ | holdover _ _ => rfl

theorem execSyncAcquisitionTimeout_sameBanks (s : State) : SameBanks s (execSyncAcquisitionTimeout s) := by
  unfold execSyncAcquisitionTimeout
  split <;> rfl

theorem execResetRelease_sameBanks (t : Nat) (s : State) : SameBanks s (execResetRelease t s) := by
  unfold execResetRelease
  dsimp only
  split <;> rfl

theorem execInitialisationEnd_sameBanks (t : Nat) (s : State) : SameBanks s (execInitialisationEnd t s) := by
  unfold execInitialisationEnd
  dsimp only
  split
  · exact (banked_enableReceiver .b _).trans (banked_enableReceiver .a _)
  · rfl

theorem execDouserTimerExpiry_sameBanks (o : Out) (s : State) : SameBanks s (execDouserTimerExpiry o s) := by
  unfold execDouserTimerExpiry
  dsimp only
  split <;> rfl

theorem execOpenTimerExpiry_sameBanks (o : Out) (s : State) : SameBanks s (execOpenTimerExpiry o s) := by
  unfold execOpenTimerExpiry
  dsimp only
  split <;> rfl

theorem execIdleTimerExpiry_sameBanks (s : State) : SameBanks s (execIdleTimerExpiry s) := by
  unfold execIdleTimerExpiry
  split
  · rfl
  · exact banked_standbyEntry _ _

theorem execWakingTimerExpiry_sameBanks (s : State) : SameBanks s (execWakingTimerExpiry s) := by
  unfold execWakingTimerExpiry
  split <;> rfl

theorem execPatternExpiry_sameBanks (o : Out) (s : State) : SameBanks s (execPatternExpiry o s) := by
  unfold execPatternExpiry
  split
  · rfl
  · exact banked_endPattern _ _

theorem execGroupTimerExpiry_sameBanks (s : State) : SameBanks s (execGroupTimerExpiry s) := by
  unfold execGroupTimerExpiry
  split
  · rfl
  · exact banked_decodeGroup _ _

theorem execOverrideTimerExpiry_sameBanks (s : State) : SameBanks s (execOverrideTimerExpiry s) := by
  unfold execOverrideTimerExpiry
  split <;> rfl

theorem execServiceTaken_sameBanks (t : Nat) (s : State) :
    SameBanks s (execServiceTakenFall t s) ∧ SameBanks s (execServiceTakenRise t s) := by
  unfold execServiceTakenFall execServiceTakenRise
  constructor <;> split <;> rfl

/-! ### The timers that lead to QUIET (R116) -/

theorem execLinkAcquisitionTimeout_banksFit (l : Link) {s : State} (hs : BanksFit s) :
    Answers BanksFit (execLinkAcquisitionTimeout l s) := by
  unfold execLinkAcquisitionTimeout
  cases (s.ports.get l).state with
  | seeking e | aligned e _ => exact ((hs.of_banked_eq (banked_advance s e)).enterQuiet l).of_banked_eq rfl
  | off | locked _ _ | holdover _ _ | quiet _ => exact hs

theorem execLossLimitExpiry_banksFit (l : Link) {s : State} (hs : BanksFit s) :
    Answers BanksFit (execLossLimitExpiry l s) := by
  unfold execLossLimitExpiry
  cases (s.ports.get l).state with
  | holdover e _ => exact ((hs.of_banked_eq (banked_advance s e)).enterQuiet l).of_banked_eq rfl
  | off | seeking _ | aligned _ _ | locked _ _ | quiet _ => exact hs

/-! ### Every step -/

theorem exec_banksFit (c : Instr) {s : State} (hs : BanksFit s) : Answers BanksFit (exec c s) := by
  cases c with
  | tableOpen t => exact banksFit_takeOwned (fun l p _ => tableOpenOwner_banksFit l p) hs t
  | tableData t => exact banksFit_takeOwned (fun l p _ => tableDataOwner_banksFit l p) hs t
  | tableClose t => exact banksFit_takeOwned (fun l p _ => tableCloseOwner_banksFit l p) hs t
  | tableDiscard t => exact banksFit_takeOwned (fun l p _ => tableDiscardOwner_banksFit l p) hs t
  | swap t => exact banksFit_takeOwned (fun l p _ => swapOwner_banksFit l p) hs t
  | cueAdd t => exact banksFit_takeOwned (fun l p _ => cueAddOwner_banksFit l p) hs t
  | cueCancel t => exact banksFit_takeOwned (fun l p _ => cueCancelOwner_banksFit l p) hs t
  | cueFlush t => exact banksFit_takeOwned (owner := cueFlushOwner) (fun _ _ _ h => h.setCues nofun) hs t
  | softReset t => exact execSoftReset_banksFit t hs
  | powerOnReset t => exact banksFit_powerOnReset _
  | resetPin t => exact hs.of_emptied rfl rfl rfl rfl
  | syncWord t cells => exact execSyncWord_banksFit t cells hs
  | generatorStart => exact execGeneratorStart_banksFit hs
  | trackingWindowClose => exact execTrackingWindowClose_banksFit hs
  | linkAcquisitionTimeout l => exact execLinkAcquisitionTimeout_banksFit l hs
  | lossLimitExpiry l => exact execLossLimitExpiry_banksFit l hs
  | verificationEnd t o k => exact (hs.of_banked_eq (banked_advance s t)).endVerification o k
  | gain t => exact banksFit_takeOwned_of_leaves gainOwner_leavesBanks hs t
  | report t => exact banksFit_takeOwned_of_leaves (owner := reportOwner) (fun _ _ _ => rfl) hs t
  | route t => exact banksFit_takeOwned_of_leaves routeOwner_leavesBanks hs t
  | select t => exact banksFit_takeOwned_of_leaves selectOwner_leavesBanks hs t
  | configLock t => exact banksFit_takeOwned_of_leaves configLockOwner_leavesBanks hs t
  | configUnlock t => exact banksFit_takeOwned_of_leaves configUnlockOwner_leavesBanks hs t
  | setOutput t => exact banksFit_takeOwned_of_leaves setOutputOwner_leavesBanks hs t
  | flagsArm t => exact banksFit_takeOwned_of_leaves (owner := flagsArmOwner) (fun _ _ _ => rfl) hs t
  | flagsClear t => exact banksFit_takeOwned_of_leaves (owner := flagsClearOwner) (fun _ _ _ => rfl) hs t
  | status t => exact banksFit_takeOwned_of_leaves (owner := statusOwner) (fun _ _ _ => rfl) hs t
  | unknownCommand t => exact banksFit_takeOwned_of_leaves (owner := unknownOwner) (fun _ _ _ => trivial) hs t
  | pattern t => exact banksFit_takeOwned_of_leaves patternOwner_leavesBanks hs t
  | patternEnd t =>
    exact banksFit_takeOwned_of_leaves (owner := patternEndOwner)
      (fun _ p s => banked_forOutputs banked_endPattern p.outputs s) hs t
  | standbyEnter t => exact banksFit_takeOwned_of_leaves standbyEnterOwner_leavesBanks hs t
  | standbyExit t => exact banksFit_takeOwned_of_leaves standbyExitOwner_leavesBanks hs t
  | standbyDelay t => exact banksFit_takeOwned_of_leaves standbyDelayOwner_leavesBanks hs t
  | resetRelease t => exact hs.of_sameBanks (execResetRelease_sameBanks t s)
  | initialisationEnd t => exact hs.of_sameBanks (execInitialisationEnd_sameBanks t s)
  | syncAcquisitionTimeout => exact hs.of_sameBanks (execSyncAcquisitionTimeout_sameBanks s)
  | douserTimerExpiry o => exact hs.of_sameBanks (execDouserTimerExpiry_sameBanks o s)
  | openTimerExpiry o => exact hs.of_sameBanks (execOpenTimerExpiry_sameBanks o s)
  | signalPresent t l => exact hs.of_sameBanks (execSignalPresent_sameBanks t l s)
  | signalAbsent t l => exact hs.of_sameBanks (execSignalAbsent_sameBanks t l s)
  | signalLost l => exact hs.of_sameBanks (execSignalLost_sameBanks l s)
  | frameDelimiter t l => exact hs.of_sameBanks (execFrameDelimiter_sameBanks t l s)
  | frameHeader t l bytes => exact hs.of_sameBanks (execFrameHeader_sameBanks t l bytes s)
  | pixelLine t l bytes => exact hs.of_sameBanks (execPixelLine_sameBanks t l bytes s)
  | managementPacket t l bytes => exact hs.of_sameBanks (execManagementPacket_sameBanks t l bytes s)
  | quietTimerExpiry l => exact hs.of_sameBanks (execQuietTimerExpiry_sameBanks l s)
  | idleTimerExpiry => exact hs.of_sameBanks (execIdleTimerExpiry_sameBanks s)
  | wakingTimerExpiry => exact hs.of_sameBanks (execWakingTimerExpiry_sameBanks s)
  | patternExpiry o => exact hs.of_sameBanks (execPatternExpiry_sameBanks o s)
  | groupTimerExpiry => exact hs.of_sameBanks (execGroupTimerExpiry_sameBanks s)
  | overrideTimerExpiry => exact hs.of_sameBanks (execOverrideTimerExpiry_sameBanks s)
  | serviceTakenFall t => exact hs.of_sameBanks (execServiceTaken_sameBanks t s).1
  | serviceTakenRise t => exact hs.of_sameBanks (execServiceTaken_sameBanks t s).2

theorem banked_sampleSync (sample : Bool) (s : State) : (sampleSync sample s).banked = s.banked := by
  unfold sampleSync
  dsimp only
  split_ifs
  · split <;> rfl
  · rfl

theorem banked_sampleService (sample : Bool) (s : State) : (sampleService sample s).banked = s.banked := by
  unfold sampleService
  dsimp only
  split_ifs
  · split <;> rfl
  · rfl

theorem banked_sampleTick (s : State) : (sampleTick s).banked = s.banked := by
  unfold sampleTick
  cases s.samples with
  | nil => rfl
  | cons x rest =>
    dsimp only
    cases x.line with
    | sync => exact banked_sampleSync _ _
    | service => exact banked_sampleService _ _

/-- Settles O57: every command keeps each pair with what is in flight on it, row by row, and a sample leaves them. -/
theorem stepKeepsBanks : Obligations.StepKeepsBanks := by
  unfold Obligations.StepKeepsBanks
  intro s s' hs h
  have fit := (banksOk_iff s).mp hs
  have answers : Answers BanksFit (step s) := by
    unfold step
    cases s.pending with
    | nil => exact fit.of_banked_eq (banked_sampleTick s)
    | cons c rest => exact exec_banksFit c (fit.of_banked_eq rfl)
  rw [h] at answers
  exact (banksOk_iff s').mpr answers

end Sys2Proof.Machine
end

section
/-!
PROOFS. The four table commands and the end of a verification: the owner's tests in their order, and the answer.
-/
namespace Sys2Proof.Machine

open Sys2Proof

section
variable {s : State} {t : Nat} {l : Link} {p : Packet} {rest : List Packet} {o : Out} {k : Kind}

/-! ### The pair that a packet addresses (R14) -/

theorem tableTarget_some (ho : p.oneOutput = some o) (hk : tableKindOf (p.u8 0) = some k) :
    tableTarget p = some (o, k) := by
  rw [tableTarget, kindOf_eq, ho, hk]

theorem tableTarget_of_no_output (h : p.oneOutput = none) : tableTarget p = none := by
  rw [tableTarget, h]

theorem tableTarget_of_no_kind (h : tableKindOf (p.u8 0) = none) : tableTarget p = none := by
  rw [tableTarget, kindOf_eq, h]
  cases p.oneOutput <;> rfl

/-! ### The answers of a table command (R157, R160) -/

/-- A refusal changes no level. -/
theorem refusal_answered (st : Status) (payload : List Byte) :
    latchEdges s (settle l p (dequeue l rest (s.advance t)) (.refuse st payload)) = answered s t l p rest st payload :=
  latchEdges_of_levels_eq (levels_congr rfl rfl rfl rfl rfl)

/-- An acceptance that writes the pairs changes no level. -/
theorem acceptance_answered (pairs : PerOut (PerKind BankPair)) :
    latchEdges s (settle l p (dequeue l rest (s.advance t)) (.accept { dequeue l rest (s.advance t) with pairs := pairs } []))
      = { answered s t l p rest .ok [] with pairs := pairs } :=
  latchEdges_of_levels_eq (levels_congr rfl rfl rfl rfl rfl)

/-- The same where a raster stops mixing from the shadow. -/
theorem acceptance_answered_unmixed (o : Out) (k : Kind) (pairs : PerOut (PerKind BankPair)) :
    latchEdges s (settle l p (dequeue l rest (s.advance t))
        (.accept (stopMixing o k { dequeue l rest (s.advance t) with pairs := pairs }) []))
      = stopMixing o k { answered s t l p rest .ok [] with pairs := pairs } := by
  cases k <;> exact latchEdges_of_levels_eq (levels_congr rfl rfl rfl rfl rfl)

theorem deferral_answered (pairs : PerOut (PerKind BankPair)) :
    latchEdges s (settle l p (dequeue l rest (s.advance t)) (.defer { dequeue l rest (s.advance t) with pairs := pairs }))
      = { deferred s t l rest with pairs := pairs } :=
  latchEdges_of_levels_eq (levels_congr rfl rfl rfl rfl rfl)

/-- A table command answers a packet that addresses a pair by the owner's tests, and any other with a BAD_PARAM (R14). -/
theorem tableCommand_answered {owner : Link → Packet → State → Reply} {answer : Out → Kind → State}
    (untargeted : tableTarget p = none → owner l p (dequeue l rest (s.advance t)) = .refuse .badParam [])
    (targeted : ∀ o k, tableTarget p = some (o, k) →
      latchEdges s (settle l p (dequeue l rest (s.advance t)) (owner l p (dequeue l rest (s.advance t)))) = answer o k) :
    latchEdges s (settle l p (dequeue l rest (s.advance t)) (owner l p (dequeue l rest (s.advance t)))) =
      match p.oneOutput, tableKindOf (p.u8 0) with
      | some o, some k => answer o k
      | _, _ => answered s t l p rest .badParam [] := by
  cases ho : p.oneOutput with
  | none => rw [untargeted (tableTarget_of_no_output ho)]; exact refusal_answered _ _
  | some o =>
    cases hk : tableKindOf (p.u8 0) with
    | none => rw [untargeted (tableTarget_of_no_kind hk)]; exact refusal_answered _ _
    | some k => exact targeted o k (tableTarget_some ho hk)

/-! ### The owners' tests in their order, on the state that the taking of the packet leaves -/

theorem tableOpenOwner_dequeue (target : tableTarget p = some (o, k)) :
    tableOpenOwner l p (dequeue l rest (s.advance t)) =
      if ¬gridSizeOk k ⟨(p.u8 1).toNat, (p.u8 2).toNat⟩ then .refuse .badParam []
      else if (s.pair o k).shadow.inLoad then .refuse .busy []
      else if (s.pair o k).pin then .refuse .busy []
      else .accept (stopMixing o k { dequeue l rest (s.advance t) with
        pairs := s.pairs.set2 o k ((s.pair o k).setShadow
          (.loading ⟨⟨(p.u8 1).toNat, (p.u8 2).toNat⟩, p.u32 3, p.u32 7, l, []⟩)) }) [] := by
  have grid : ((!gridInRange k ⟨(p.u8 1).toNat, (p.u8 2).toNat⟩) = true)
      = ¬gridSizeOk k ⟨(p.u8 1).toNat, (p.u8 2).toNat⟩ := by
    rw [← gridInRange_iff, Bool.not_eq_true', Bool.not_eq_true]
  simp only [tableOpenOwner, target, grid]
  rfl

theorem tableDataOwner_loading (target : tableTarget p = some (o, k)) {ld : Load}
    (hb : (s.pair o k).shadow = .loading ld) :
    tableDataOwner l p (dequeue l rest (s.advance t)) =
      if ld.loader ≠ l then .refuse .notOwner []
      else if (p.u32 1).toNat ≠ ld.bytes.length then .refuse .outOfOrder (beBytes 4 ld.bytes.length)
      else if imageSize k ld.grid < (p.u32 1).toNat + (p.payload.length - 5) then .refuse .badLength []
      else .accept { dequeue l rest (s.advance t) with
        pairs := s.pairs.set2 o k ((s.pair o k).setShadow
          (.loading { ld with bytes := ld.bytes ++ p.payload.drop 5 })) } [] := by
  have shadow : ((dequeue l rest (s.advance t)).pair o k).shadow = .loading ld := hb
  simp only [tableDataOwner, target, shadow, imageLength_eq, List.length_drop]
  rfl

theorem tableCloseOwner_loading (target : tableTarget p = some (o, k)) {ld : Load}
    (hb : (s.pair o k).shadow = .loading ld) :
    tableCloseOwner l p (dequeue l rest (s.advance t)) =
      if ld.loader ≠ l then .refuse .notOwner []
      else if ld.bytes.length < imageSize k ld.grid then .refuse .lengthMismatch (beBytes 4 ld.bytes.length)
      else .defer { dequeue l rest (s.advance t) with
        pairs := s.pairs.set2 o k ((s.pair o k).setShadow (.verifying ld p.tag 0)) } := by
  have shadow : ((dequeue l rest (s.advance t)).pair o k).shadow = .loading ld := hb
  simp only [tableCloseOwner, target, shadow, imageLength_eq]
  rfl

/-- The row of R21 that a TABLE_DISCARD meets. -/
theorem tableDiscardOwner_dequeue (target : tableTarget p = some (o, k)) :
    tableDiscardOwner l p (dequeue l rest (s.advance t)) =
      match (s.pair o k).shadow with
      | .empty => .accept (dequeue l rest (s.advance t)) []
      | .loading ld =>
        if ld.loader ≠ l then .refuse .notOwner []
        else .accept { dequeue l rest (s.advance t) with
          pairs := s.pairs.set2 o k ((s.pair o k).setShadow .empty) } []
      | .verifying _ _ _ => .refuse .busy []
      | .ready _ =>
        if (s.pair o k).pin then .refuse .busy []
        else .accept (stopMixing o k { dequeue l rest (s.advance t) with
          pairs := s.pairs.set2 o k ((s.pair o k).setShadow .empty) }) [] := by
  simp only [tableDiscardOwner, target]
  rfl

end

/-! ### TABLE_OPEN (R15) -/

/-- Settles O5: the owner's refusals in the order of R15, each followed to its answer, and the load that an accepted
TABLE_OPEN starts. -/
theorem tableOpenStartsALoad : Obligations.TableOpenStartsALoad := by
  unfold Obligations.TableOpenStartsALoad
  intro s t l p rest h hcode hlength hmask
  have taken := takeOwned_passed (names := fun p => p.code == 0x11#8) (lengthOk := fun n => n == 11) (channel := true)
    (owner := tableOpenOwner) (t := t) h (beq_iff_eq.mpr hcode) (beq_iff_eq.mpr hlength) hmask
  refine congrArg Host.Outcome.next (taken.trans (tableCommand_answered (fun none => by simp only [tableOpenOwner, none])
    fun o k target => ?_))
  rw [tableOpenOwner_dequeue target]
  dsimp only
  split_ifs
  · exact refusal_answered _ _
  · exact refusal_answered _ _
  · exact acceptance_answered_unmixed o k _
  · exact refusal_answered _ _

/-! ### TABLE_DATA (R16) -/

/-- Settles O6: the owner's refusals in the order of R16, and the bytes that an accepted TABLE_DATA stores. -/
theorem tableDataStoresInOrder : Obligations.TableDataStoresInOrder := by
  unfold Obligations.TableDataStoresInOrder
  intro s t l p rest h hcode hlong hshort hmask
  have taken := takeOwned_passed (names := fun p => p.code == 0x12#8) (lengthOk := fun n => 6 ≤ n && n ≤ 240)
    (channel := true) (owner := tableDataOwner) (t := t) h (beq_iff_eq.mpr hcode) (by simp [hlong, hshort]) hmask
  refine congrArg Host.Outcome.next (taken.trans (tableCommand_answered (fun none => by simp only [tableDataOwner, none])
    fun o k target => ?_))
  dsimp only
  cases hb : (s.pair o k).shadow with
  | loading ld =>
    rw [tableDataOwner_loading target hb]
    dsimp only
    split_ifs
    · exact refusal_answered _ _
    · exact refusal_answered _ _
    · exact refusal_answered _ _
    · exact acceptance_answered _
  | empty | verifying _ _ _ | ready _ =>
    have owner : tableDataOwner l p (dequeue l rest (s.advance t)) = .refuse .notLoading [] := by
      simp only [tableDataOwner, target]
      rw [show ((dequeue l rest (s.advance t)).pair o k).shadow = _ from hb]
    rw [owner]
    exact refusal_answered _ _

/-! ### TABLE_DISCARD (R21) -/

/-- Settles O8: every row of the table of R21. -/
theorem tableDiscardEmptiesTheShadow : Obligations.TableDiscardEmptiesTheShadow := by
  unfold Obligations.TableDiscardEmptiesTheShadow
  intro s t l p rest h hcode hlength hmask
  have taken := takeOwned_passed (names := fun p => p.code == 0x14#8) (lengthOk := fun n => n == 1) (channel := true)
    (owner := tableDiscardOwner) (t := t) h (beq_iff_eq.mpr hcode) (beq_iff_eq.mpr hlength) hmask
  refine congrArg Host.Outcome.next (taken.trans (tableCommand_answered (fun none => by simp only [tableDiscardOwner, none])
    fun o k target => ?_))
  rw [tableDiscardOwner_dequeue target]
  dsimp only
  cases (s.pair o k).shadow with
  | empty => exact acceptance_answered s.pairs
  | verifying _ _ _ => exact refusal_answered _ _
  | loading ld =>
    dsimp only
    split_ifs
    · exact refusal_answered _ _
    · exact acceptance_answered _
  | ready _ =>
    dsimp only
    split_ifs
    · exact refusal_answered _ _
    · exact acceptance_answered_unmixed o k _

/-! ### The end of a verification (R19) -/

/-- The end of a verification gives up one of the places reserved for its loader. -/
theorem endVerification_reserved {o : Out} {k : Kind} {s : State} {ld : Load} {tag : Word16} {n : Nat}
    (h : (s.pair o k).shadow = .verifying ld tag n) :
    (endVerification o k s).engine.reserved = s.engine.reserved.set ld.loader (s.engine.reserved.get ld.loader - 1) := by
  simp only [endVerification, h]
  split_ifs <;> rfl

/-- Settles O9: the bank, the result and the reserved place that the end of a verification writes. -/
theorem verificationEndDecidesByCrc : Obligations.VerificationEndDecidesByCrc := by
  unfold Obligations.VerificationEndDecidesByCrc
  intro s t o k ld tag starts h
  have shadow : ((s.advance t).pair o k).shadow = .verifying ld tag starts := h
  refine congrArg Host.Outcome.next ?_
  rw [endVerification_eq, endVerification_pairs shadow, endVerification_results shadow, endVerification_reserved shadow]
  rfl

end Sys2Proof.Machine
end

section
/-!
PROOFS. TABLE_CLOSE, and the verifications that meet a period start: their banks, which the rest of the start leaves,
their results and their reserved places.
-/
namespace Sys2Proof.Machine

open Sys2Proof

/-! ### Each bank through the Cue Scheduler's work (R8) -/

/-- Every bank of the part holds what it held, whichever of its pair is active. -/
def SameStored (s s' : State) : Prop :=
  ∀ (o : Out) (k : Kind) (i : BankIndex), (s'.pair o k).bank i = (s.pair o k).bank i

theorem SameStored.trans {s t u : State} (h : SameStored s t) (h' : SameStored t u) : SameStored s u :=
  fun o k i => (h' o k i).trans (h o k i)

theorem SameStored.of_pairs {s s' : State} (h : s'.pairs = s.pairs) : SameStored s s' :=
  fun o k i => congrArg (BankPair.bank · i) (congrArg (PerOut.at2 · o k) h)

theorem BankPair.bank_fadeStep (k : Kind) (f : Option Fade) (p : BankPair) (i : BankIndex) :
    (p.fadeStep k f).bank i = p.bank i := by
  cases k <;> rfl

theorem BankPair.bank_carried (k : Kind) (pending : Option Nat) (p : BankPair) (i : BankIndex) :
    (p.carried k pending).bank i = p.bank i := by
  unfold BankPair.carried
  cases pending with
  | none => rfl
  | some fade => dsimp only; split_ifs <;> rfl

theorem BankPair.bank_fired (k : Kind) (fade : Nat) (f : Option Fade) (p : BankPair) (i : BankIndex) :
    (p.fired k fade f).bank i = p.bank i := by
  unfold BankPair.fired
  split_ifs <;> rfl

theorem sameStored_fadesAndSwaps (s : State) :
    SameStored s (allPairs.foldl carryOutSwap (stepFade .out1 (stepFade .out0 s))) := by
  intro o k i
  rw [fadesAndSwaps_eq, State.pair, at2_forPairs, BankPair.bank_carried, BankPair.bank_fadeStep]

theorem sameStored_fireCue (d : Period) (s : State) (c : Cue) : SameStored s (fireCue d s c) := by
  cases ha : c.action with
  | gain target ramp => exact .of_pairs (by rw [fireCue_gain ha, appendOutcome_pairs])
  | swap ks fade =>
    intro o k i
    rw [fireCue_swap ha, State.pair, appendOutcome_pairs, at2_forPairs]
    split_ifs
    · exact BankPair.bank_fired _ _ _ _ _
    · rfl

theorem sameStored_fireCues (d : Period) (s : State) : SameStored s (fireCues d s) := by
  have fold : ∀ (cues : List Cue) (t : State), SameStored t (cues.foldl (fireCue d) t) := by
    intro cues
    induction cues with
    | nil => exact fun t => .of_pairs rfl
    | cons c cues ih => exact fun t => (sameStored_fireCue d t c).trans (ih _)
  exact fold _ { s with cues := s.cues.filter fun c => !atOrBefore c.target d }

theorem sameStored_schedulerWork (s : State) : SameStored s (schedulerWork s) := by
  unfold schedulerWork
  cases s.dome with
  | none => exact .of_pairs rfl
  | some d => exact (sameStored_fadesAndSwaps s).trans (sameStored_fireCues d _)

/-! ### The reserved places (R160) -/

theorem verificationAtStart_reserved (s : State) (ok : Out × Kind) (l : Link) :
    (verificationAtStart s ok).engine.reserved.get l =
      s.engine.reserved.get l - (endedResult l (s.pair ok.1 ok.2).shadow).toList.length := by
  unfold verificationAtStart
  cases hb : (s.pair ok.1 ok.2).shadow with
  | verifying ld tag n =>
    cases n with
    | zero => rfl
    | succ n =>
      dsimp only [endedResult]
      rw [endVerification_reserved hb, PerLink.get_set]
      by_cases hl : l = ld.loader
      · rw [if_pos hl, if_pos hl.symm, hl]
        rfl
      · rw [if_neg hl, if_neg (Ne.symm hl)]
        rfl
  | empty | loading _ | ready _ => rfl

/-- Over pairs that are all different, each verification that ends gives up one place. -/
theorem foldl_verificationAtStart_reserved {pairs : List (Out × Kind)} (distinct : pairs.Nodup) (s : State) (l : Link) :
    (pairs.foldl verificationAtStart s).engine.reserved.get l =
      s.engine.reserved.get l - (pairs.filterMap fun ok => endedResult l (s.pair ok.1 ok.2).shadow).length := by
  induction pairs generalizing s with
  | nil => rfl
  | cons ok rest ih =>
    obtain ⟨fresh, distinct⟩ := List.nodup_cons.mp distinct
    have others : (rest.filterMap fun x => endedResult l ((verificationAtStart s ok).pair x.1 x.2).shadow) =
        rest.filterMap fun x => endedResult l (s.pair x.1 x.2).shadow :=
      List.filterMap_congr fun x hx => by
        rw [verificationAtStart_other s (ne_of_mem_of_not_mem hx fresh)]
    rw [List.foldl_cons, ih distinct, others, verificationAtStart_reserved, Nat.sub_sub, Nat.add_comm,
      List.filterMap_cons]
    cases endedResult l (s.pair ok.1 ok.2).shadow <;> rfl

/-! ### The start as a whole -/

theorem reserved_sendReturnFrames (before s : State) :
    (sendReturnFrames (latchEdges before s)).engine.reserved = s.engine.reserved := rfl

theorem reserved_periodStart (before s : State) (l : Link) :
    (periodStart before s).engine.reserved.get l = s.engine.reserved.get l - (endedAtStart s l).length := by
  have work : (startWork s).engine.reserved = (verificationsAtStart s).engine.reserved := by
    rw [startWork_part, schedulerWork_part]
    rfl
  rw [periodStart, reserved_sendReturnFrames, work]
  exact foldl_verificationAtStart_reserved (by decide) s l

/-- The bank that is the shadow as a start finds the pair has met the start, also where the start exchanges the pair. -/
theorem bank_periodStart_shadow (before s : State) (o : Out) (k : Kind) :
    ((periodStart before s).pair o k).bank (s.pair o k).active.other = verifiedBank (s.pair o k).shadow := by
  obtain ⟨pairs, -, -, -, -, -⟩ := periodStart_scheduler before s
  have scheduler := sameStored_schedulerWork (verificationsAtStart s) o k (s.pair o k).active.other
  have pair : (periodStart before s).pair o k = (schedulerWork (verificationsAtStart s)).pair o k :=
    congrArg (PerOut.at2 · o k) pairs
  rw [pair, scheduler, pair_of_forPairs (verificationsAtStart_pairs s), ← BankPair.verified_shadow]
  exact congrArg (fun i => (s.pair o k).verified.bank (BankIndex.other i)) (BankPair.verified_active _).symm

theorem verifiedBank_verifying (ld : Load) (tag : Word16) (starts : Nat) :
    verifiedBank (.verifying ld tag starts) =
      if starts = 0 then .verifying ld tag 1
      else if imageCheck ld.bytes = ld.expected then .ready ⟨ld.grid, ld.label, imageCheck ld.bytes, ld.bytes⟩
      else .empty := by
  cases starts <;> rfl

/-- Settles O7: TABLE_CLOSE, and the banks, results and reserved places of the verifications that meet a start. -/
theorem tableCloseStartsVerification : Obligations.TableCloseStartsVerification := by
  unfold Obligations.TableCloseStartsVerification
  refine ⟨fun s t l p rest h hcode hlength hmask => ?_, fun before s => ⟨fun o k ld tag starts h => ?_, fun l => ?_⟩⟩
  · have taken := takeOwned_passed (names := fun p => p.code == 0x13#8) (lengthOk := fun n => n == 1) (channel := true)
      (owner := tableCloseOwner) (t := t) h (beq_iff_eq.mpr hcode) (beq_iff_eq.mpr hlength) hmask
    refine congrArg Host.Outcome.next (taken.trans (tableCommand_answered (fun none => by simp only [tableCloseOwner, none])
      fun o k target => ?_))
    dsimp only
    cases hb : (s.pair o k).shadow with
    | loading ld =>
      rw [tableCloseOwner_loading target hb]
      dsimp only
      split_ifs
      · exact refusal_answered _ _
      · exact refusal_answered _ _
      · exact deferral_answered _
    | empty | verifying _ _ _ | ready _ =>
      have owner : tableCloseOwner l p (dequeue l rest (s.advance t)) = .refuse .notLoading [] := by
        simp only [tableCloseOwner, target]
        rw [show ((dequeue l rest (s.advance t)).pair o k).shadow = _ from hb]
      rw [owner]
      exact refusal_answered _ _
  · rw [bank_periodStart_shadow, h, verifiedBank_verifying]
  · exact ⟨results_periodStart before s l, reserved_periodStart before s l⟩

end Sys2Proof.Machine
end

section
/-!
PROOFS. The three resets: SOFT_RESET, the power-on reset and the reset pin.
-/
namespace Sys2Proof.Machine

open Sys2Proof

/-! ### The tables (R26, R27) -/

theorem Bank.cutOff_eq_keptBank (b : Bank) : b.cutOff = keptBank b := by
  cases b <;> rfl

theorem resetTables_pairs (s : State) :
    (resetTables s).pairs = forPairs fun o k =>
      { s.pair o k with bank0 := keptBank (s.pair o k).bank0, bank1 := keptBank (s.pair o k).bank1, pin := false } := by
  simp only [← Bank.cutOff_eq_keptBank]
  rfl

theorem resetTables_pair (s : State) (o : Out) (k : Kind) :
    (resetTables s).pair o k =
      { s.pair o k with bank0 := keptBank (s.pair o k).bank0, bank1 := keptBank (s.pair o k).bank1, pin := false } :=
  pair_of_forPairs (resetTables_pairs s) o k

/-! ### SOFT_RESET (R54, R162, R191) -/

theorem woken_eq_ready_iff {now : Nat} {x : PartState} : x.woken now = .ready ↔ x = .ready := by
  cases x <;> simp [PartState.woken]

/-- A ramp that is at rest stays, and one in flight ends at its target (R54). -/
theorem Ramp.finish_eq (r : Ramp) :
    r.finish = ⟨if r.remaining = 0 then r.gain else r.target, r.target, 0⟩ := by
  unfold Ramp.finish
  split_ifs with rest
  · rw [← rest]
  · rfl

/-- The part control after SOFT_RESET (R191). -/
def PartControl.softReset (keep : Bool) (s : State) : PartControl :=
  { s.part with
    state := s.part.state.woken s.now
    patterns := ⟨none, none⟩
    standbyDelay := if keep then s.part.standbyDelay else 600
    idleTimer :=
      if keep then s.part.idleTimer
      else if s.part.state = .ready ∧ s.ports.a.state.isIdle = true ∧ s.ports.b.state.isIdle = true then
        some (s.now + 600000000)
      else none }

theorem softResetPart_eq (keep : Bool) (s : State) :
    softResetPart keep s = { s with part := PartControl.softReset keep s } := by
  unfold softResetPart
  rw [wakeFromStandby_eq]
  cases keep with
  | true => rfl
  | false =>
    have timer : (s.part.state.woken s.now = .ready ∧ s.ports.a.state.isIdle = true ∧ s.ports.b.state.isIdle = true
          ∧ defaultStandbyDelay ≠ 0)
        ↔ (s.part.state = .ready ∧ s.ports.a.state.isIdle = true ∧ s.ports.b.state.isIdle = true) := by
      rw [woken_eq_ready_iff]
      simp [defaultStandbyDelay]
    change setStandbyDelay defaultStandbyDelay _ = _
    rw [setStandbyDelay_eq]
    exact congrArg (fun timer => { s with part := { s.part with
      state := s.part.state.woken s.now, patterns := ⟨none, none⟩, standbyDelay := 600, idleTimer := timer } })
      (if_congr timer rfl rfl)

theorem keepSettingsOf_eq (b : Byte) :
    keepSettingsOf b = if 1 < b.toNat then none else some (decide (b.toNat = 1)) := by
  unfold keepSettingsOf
  rcases b.toNat with _ | _ | n
  · rfl
  · rfl
  · exact (if_pos (by omega)).symm

/-- An accepted SOFT_RESET writes the records of the schedule, the tables, the part control, the flags and the engine,
and its own result is the first on the emptied queue. -/
theorem settle_softReset (l : Link) (p : Packet) (keep : Bool) (s : State) :
    settle l p s (.accept (softReset keep s) []) =
      { s with
        pairs := (resetTables s).pairs
        cues := []
        outcomes := []
        pendingSwaps := ⟨⟨none, none⟩, ⟨none, none⟩⟩
        fades := ⟨none, none⟩
        ramps := s.ramps.map Ramp.finish
        part := PartControl.softReset keep s
        engine := (placeResult l ⟨p.code, .ok, p.tag, []⟩ { s with engine := s.engine.emptyQueues }).engine
        flagUnit := s.flagUnit.softReset keep } := by
  rw [softReset, softResetPart_eq]
  rfl

/-- A SOFT_RESET packet of the right length meets only its owner. -/
theorem exec_softReset {s : State} {l : Link} {p : Packet} {rest : List Packet} (t : Nat)
    (h : nextPacket s = some (l, p, rest)) (hcode : p.code = 0x7E#8) (hlength : p.payload.length = 1) :
    exec (.softReset t) s = .next (settle l p (dequeue l rest (s.advance t))
      (softResetOwner l p (dequeue l rest (s.advance t)))) := by
  change execSoftReset t s = _
  simp only [execSoftReset, h, hcode, beq_self_eq_true, if_true, runSoftReset, generalChecks, hlength]
  rfl

/-- Settles O26: the result of a refused option byte, and each record that an accepted SOFT_RESET leaves. -/
theorem softResetClearsTheSchedule : Obligations.SoftResetClearsTheSchedule := by
  unfold Obligations.SoftResetClearsTheSchedule
  intro s t l p rest h hcode hlength
  rw [exec_softReset t h hcode hlength, softResetOwner, keepSettingsOf_eq]
  refine ⟨fun high => by rw [if_pos high]; rfl, fun low => ?_⟩
  rw [if_neg (Nat.not_lt.mpr low)]
  refine ⟨_, rfl, ?_⟩
  rw [settle_softReset]
  refine ⟨rfl, ?_, resetTables_pairs _, rfl, rfl, rfl, rfl, fun o => ?_, rfl, ?_, ?_, ?_, rfl, rfl, ?_,
    rfl, rfl, rfl, rfl, rfl, rfl, rfl⟩
  · cases l <;> rfl
  · change ((s.ramps.map Ramp.finish).get o).gain = _ ∧ ((s.ramps.map Ramp.finish).get o).target = _
      ∧ ((s.ramps.map Ramp.finish).get o).remaining = 0
    rw [PerOut.get_map, Ramp.finish_eq]
    exact ⟨rfl, rfl, rfl⟩
  · change s.part.state.woken (max s.now t) = _
    cases s.part.state <;> rfl
  · exact if_congr decide_eq_true_iff rfl rfl
  · exact if_congr decide_eq_true_iff rfl rfl
  · exact if_congr decide_eq_true_iff rfl rfl

/-! ### The power-on reset (R179) -/

/-- Settles O27: every record of the power-on reset is a constant, but for what stands outside the part. -/
theorem powerOnResetResetsEveryBlock : Obligations.PowerOnResetResetsEveryBlock := by
  unfold Obligations.PowerOnResetResetsEveryBlock
  intro s t
  rfl

/-! ### The reset pin (R179) -/

/-- Settles O28: what each block keeps through the reset pin. -/
theorem resetPinKeepsTablesAndSettings : Obligations.ResetPinKeepsTablesAndSettings := by
  unfold Obligations.ResetPinKeepsTablesAndSettings
  intro s t
  refine ⟨pinReset (s.advance t), rfl, rfl, fun o k => ?_, fun o => ?_, fun o => ?_,
    rfl, rfl, rfl, rfl, rfl, rfl, rfl, rfl, fun l => ?_, rfl, rfl, rfl, rfl⟩
  · rw [show (pinReset (s.advance t)).pair o k = _ from resetTables_pair (s.advance t) o k]
    exact ⟨rfl, rfl, rfl, rfl⟩
  · cases o <;> exact ⟨rfl, rfl, rfl, rfl, rfl⟩
  · cases o <;> exact ⟨⟨rfl, rfl, rfl, rfl⟩, rfl, rfl, rfl, rfl, rfl, rfl⟩
  · cases l <;> rfl

end Sys2Proof.Machine
end

section
/-!
PROOFS. The due cues at a start: what they read, the outcomes they append, and the flags of those outcomes.
-/
namespace Sys2Proof.Machine

open Sys2Proof

/-! ### A fired cue reads nothing of the engine -/

def State.withEngine (x : Engine) (s : State) : State := { s with engine := x }

theorem raise_withEngine (x : Engine) (s : State) (e : Event) :
    (s.withEngine x).raise e = (s.raise e).withEngine x := by
  unfold State.raise State.withEngine
  dsimp only
  split_ifs <;> rfl

theorem raiseIf_withEngine (x : Engine) (s : State) (b : Bool) (e : Event) :
    (s.withEngine x).raiseIf b e = (s.raiseIf b e).withEngine x := by
  cases b
  · rfl
  · exact raise_withEngine x s e

theorem appendOutcome_withEngine (r : CueRecord) (x : Engine) (s : State) :
    appendOutcome r (s.withEngine x) = (appendOutcome r s).withEngine x := by
  have queued (outcomes : List CueRecord) :
      { s.withEngine x with outcomes := outcomes } = State.withEngine x { s with outcomes := outcomes } := rfl
  simp only [appendOutcome, queued, raise_withEngine, raiseIf_withEngine]
  rfl

theorem fireCue_withEngine (d : Period) (x : Engine) (s : State) (c : Cue) :
    fireCue d (s.withEngine x) c = (fireCue d s c).withEngine x := by
  cases h : c.action with
  | swap ks fade => rw [fireCue_swap h, fireCue_swap h, ← appendOutcome_withEngine]; rfl
  | gain target length => rw [fireCue_gain h, fireCue_gain h, ← appendOutcome_withEngine]; rfl

theorem foldl_fireCue_withEngine (d : Period) (x : Engine) (cues : List Cue) (s : State) :
    cues.foldl (fireCue d) (s.withEngine x) = (cues.foldl (fireCue d) s).withEngine x := by
  induction cues generalizing s with
  | nil => rfl
  | cons c cues ih => rw [List.foldl_cons, fireCue_withEngine, ih, List.foldl_cons]

/-! ### The list and the outcome queue (R44, R49) -/

theorem fireCue_cues (d : Period) (s : State) (c : Cue) : (fireCue d s c).cues = s.cues := by
  cases h : c.action with
  | swap ks fade => rw [fireCue_swap h, appendOutcome_cues]
  | gain target length => rw [fireCue_gain h, appendOutcome_cues]

theorem fireCues_cues (d : Period) (s : State) :
    (fireCues d s).cues = s.cues.filter fun c => !atOrBefore c.target d :=
  foldl_keeps (view := State.cues) (fireCue_cues d) _ { s with cues := s.cues.filter fun c => !atOrBefore c.target d }

/-- What an outcome says of the cue that gave it: its id, its target, the period of its firing and its origin. -/
def CueRecord.firing (r : CueRecord) : Byte × Period × Period × Link := (r.id, r.target, r.fired, r.origin)

/-- With a place free, a fired cue appends its outcome. -/
theorem fireCue_outcomes (d : Period) {s : State} (c : Cue) (h : s.outcomes.length < 16) :
    ∃ r : CueRecord, (fireCue d s c).outcomes = s.outcomes ++ [r] ∧ r.firing = (c.id, c.target, d, c.origin) := by
  cases ha : c.action with
  | swap ks fade => exact ⟨_, by rw [fireCue_swap ha, appendOutcome_outcomes, if_pos h], rfl⟩
  | gain target length => exact ⟨_, by rw [fireCue_gain ha, appendOutcome_outcomes, if_pos h], rfl⟩

/-- With places free for all of them, fired cues append their outcomes in list order. -/
theorem foldl_fireCue_outcomes (d : Period) (cues : List Cue) (s : State) (h : s.outcomes.length + cues.length ≤ 16) :
    ∃ fired : List CueRecord, (cues.foldl (fireCue d) s).outcomes = s.outcomes ++ fired
      ∧ fired.map CueRecord.firing = cues.map fun c => (c.id, c.target, d, c.origin) := by
  induction cues generalizing s with
  | nil => exact ⟨[], (List.append_nil _).symm, rfl⟩
  | cons c cues ih =>
    rw [List.length_cons] at h
    obtain ⟨r, appended, firing⟩ := fireCue_outcomes d (s := s) c (by omega)
    obtain ⟨fired, outcomes, firings⟩ := ih (fireCue d s c) (by
      rw [appended, List.length_append, List.length_singleton]; omega)
    refine ⟨r :: fired, ?_, by rw [List.map_cons, firing, firings, List.map_cons]⟩
    rw [List.foldl_cons, outcomes, appended, List.append_assoc, List.singleton_append]

/-! ### The flags of the outcomes at a start (R49, R168) -/

/-- The flags of CUE_OUTCOME, CUE_FAULT and REPORT_LOST are in `s'` as in `s`. -/
def SameOutcomeFlags (s s' : State) : Prop :=
  ∀ n ∈ [19, 20, 21], s'.flagUnit.flags.getLsbD n = s.flagUnit.flags.getLsbD n

theorem outcomeFlag_lt {n : Nat} (h : n ∈ [19, 20, 21]) : 12 ≤ n ∧ n < 24 := by
  simp only [List.mem_cons, List.not_mem_nil, or_false] at h
  omega

theorem SameOutcomeFlags.refl (s : State) : SameOutcomeFlags s s := fun _ _ => rfl

theorem SameOutcomeFlags.trans {s t u : State} (h : SameOutcomeFlags s t) (h' : SameOutcomeFlags t u) :
    SameOutcomeFlags s u := fun n hn => (h' n hn).trans (h n hn)

theorem sameOutcomeFlags_raiseIf (s : State) (b : Bool) {e : Event} (he : e.number ∉ [19, 20, 21]) :
    SameOutcomeFlags s (s.raiseIf b e) := by
  intro n hn
  rw [raiseIf_flag s b e (outcomeFlag_lt hn).2, beq_eq_false_iff_ne.mpr (ne_of_mem_of_not_mem hn he), Bool.false_and,
    Bool.and_false, Bool.or_false]

theorem sameOutcomeFlags_controllerWork (o : Out) (s : State) : SameOutcomeFlags s (controllerWork o s) := by
  unfold controllerWork
  dsimp only
  rw [moveViewer_eq]
  exact sameOutcomeFlags_raiseIf (s.setController o _) _ (by decide)

theorem sameOutcomeFlags_testFilling (l : Link) (s : State) : SameOutcomeFlags s (testFilling l s) := by
  obtain h | ⟨cause, h⟩ := testFilling_cases l s <;> rw [h]
  · exact .refl s
  · unfold dropFilling
    cases fillingIndex s l with
    | none => exact .refl s
    | some i => exact sameOutcomeFlags_raiseIf _ true (e := .frameDrop l) (by cases l <;> decide)

/-- The release raises FRAME_DROP alone. -/
theorem sameOutcomeFlags_releaseWork (s : State) : SameOutcomeFlags s (releaseWork s) :=
  (sameOutcomeFlags_testFilling .a
    { s with store := s.store.map fun st => { st with slots := st.slots.map (Slot.release s.dome) } }).trans
    (sameOutcomeFlags_testFilling .b _)

/-- After the Cue Scheduler no work of a start raises an event of an outcome, and no level is one. -/
theorem sameOutcomeFlags_periodStart (before s : State) :
    SameOutcomeFlags (schedulerWork (verificationsAtStart s)) (periodStart before s) := by
  intro n hn
  obtain ⟨event, lt⟩ := outcomeFlag_lt hn
  have after := (sameOutcomeFlags_controllerWork .out0 (schedulerWork (verificationsAtStart s))).trans
    ((sameOutcomeFlags_controllerWork .out1 _).trans (sameOutcomeFlags_releaseWork _))
  rw [periodStart_flag before s lt, decide_eq_false (Nat.not_lt.mpr event), Bool.false_and, Bool.or_false, startWork,
    beginRasters_flagUnit]
  exact after n hn

/-! ### The scheduler's work at a start that gives D -/

/-- The pairs, fades and pending swaps as the Cue Scheduler's third step finds them. -/
def beforeCues (s : State) : State :=
  allPairs.foldl carryOutSwap (stepFade .out1 (stepFade .out0 (verificationsAtStart s)))

theorem schedulerWork_of_dome {s : State} {d : Period} (h : s.dome = some d) :
    schedulerWork (verificationsAtStart s) =
      { fireCues d (beforeCues s) with ramps := (fireCues d (beforeCues s)).ramps.map Ramp.step } := by
  rw [schedulerWork, (verificationsAtStart_dome s).trans h]
  rfl

theorem beforeCues_cues (s : State) : (beforeCues s).cues = s.cues := by
  rw [beforeCues, fadesAndSwaps_eq, verificationsAtStart_eq]

theorem beforeCues_outcomes (s : State) : (beforeCues s).outcomes = s.outcomes := by
  rw [beforeCues, fadesAndSwaps_eq, verificationsAtStart_eq]

/-- In a state that keeps the bank invariant, the due cues fire on what R30 and R33 leave. -/
theorem fireCues_beforeCues {s : State} (hs : BanksOk s) (d : Period) :
    fireCues d (beforeCues s) =
      ((s.cues.filter fun c => atOrBefore c.target d).foldl (fireCue d)
          { fadesAndSwapsDone s with cues := s.cues.filter fun c => !atOrBefore c.target d }).withEngine
        (verificationsAtStart s).engine := by
  rw [beforeCues, fadesAndSwaps_done hs, ← foldl_fireCue_withEngine]
  rfl

/-- Settles O35: the list, the outcomes of the due cues where all find a place, and in a state that keeps the bank
invariant every record and flag that the cues write. -/
theorem dueCuesFireAndLeave : Obligations.DueCuesFireAndLeave := by
  unfold Obligations.DueCuesFireAndLeave
  intro before s d h
  obtain ⟨pairs, cues, outcomes, pendingSwaps, fades, ramps⟩ := periodStart_scheduler before s
  have flags := sameOutcomeFlags_periodStart before s
  rw [schedulerWork_of_dome h] at pairs cues outcomes pendingSwaps fades ramps flags
  have left : (periodStart before s).cues = s.cues.filter fun c => !atOrBefore c.target d := by
    rw [cues, ← beforeCues_cues s]
    exact fireCues_cues d (beforeCues s)
  refine ⟨left, fun places => ?_, fun hs => ?_⟩
  · rw [outcomes, ← beforeCues_outcomes s, ← beforeCues_cues s]
    rw [← beforeCues_outcomes s, ← beforeCues_cues s] at places
    exact foldl_fireCue_outcomes d _ _ places
  · rw [fireCues_beforeCues hs] at pairs outcomes pendingSwaps fades ramps flags
    dsimp only
    rw [left]
    exact ⟨pairs, fades, pendingSwaps, outcomes, ramps, flags⟩

end Sys2Proof.Machine
end

section
/-!
PROOFS. QUIET: the loads that a link loses as it enters, the events it raises, and the end of the quiet timer.
-/
namespace Sys2Proof.Machine

open Sys2Proof

/-! ### Lost loads (R22) -/

theorem Bank.loadedBy_eq (l : Link) (b : Bank) : b.loadedBy l = loadingFrom l b := by
  cases b with
  | loading ld => exact beq_eq_decide _ _
  | empty | verifying _ _ _ | ready _ => rfl

theorem Bank.loseLoad_eq (l : Link) (b : Bank) : b.loseLoad l = withoutLoad l b := by
  rw [Bank.loseLoad, Bank.loadedBy_eq, withoutLoad]

/-- One of the part's banks is LOADING from the link. -/
def losesLoad (s : State) (l : Link) : Bool :=
  somePair fun o k => loadingFrom l (s.pair o k).bank0 || loadingFrom l (s.pair o k).bank1

/-- The part without the loads of the link. -/
def withoutLoads (l : Link) (s : State) : State :=
  { s with pairs := forPairs fun o k => { s.pair o k with
      bank0 := withoutLoad l (s.pair o k).bank0, bank1 := withoutLoad l (s.pair o k).bank1 } }

theorem loseLoads_eq (l : Link) (s : State) :
    loseLoads l s = (withoutLoads l s).raiseIf (losesLoad s l) .loadLost := by
  have lost : (allPairs.any fun ok => (s.pair ok.1 ok.2).loadedBy l) = losesLoad s l := by
    simp [allPairs, losesLoad, somePair, BankPair.loadedBy, Bank.loadedBy_eq, Bool.or_assoc]
  rw [loseLoads, lost]
  simp only [Bank.loseLoad_eq]
  rfl

/-- LOAD_LOST is raised once, whatever the number of loads lost. -/
theorem loseLoads_raises (l : Link) (s : State) :
    Raises (if losesLoad s l then [22] else []) s.flagUnit (loseLoads l s).flagUnit := by
  rw [loseLoads_eq]
  exact raises_raiseIf (withoutLoads l s) (losesLoad s l) .loadLost

/-! ### The entry into QUIET (R116) -/

/-- The port of a link that enters QUIET at `now`. -/
def portInQuiet (p : Port) (now : Nat) : Port :=
  { p with state := .quiet (now + 250000), previous := none, frame := .none, signalLoss := none }

/-- The entry into QUIET writes the port, the banks and the flags. -/
theorem enterQuiet_eq (l : Link) (s : State) :
    enterQuiet l s = { s with
      ports := s.ports.set l (portInQuiet (s.ports.get l) s.now)
      pairs := forPairs fun o k => { s.pair o k with
        bank0 := withoutLoad l (s.pair o k).bank0, bank1 := withoutLoad l (s.pair o k).bank1 }
      flagUnit := (enterQuiet l s).flagUnit } := by
  rw [enterQuiet, loseLoads_eq, raiseIf_eq, raise_eq]
  rfl

/-- It raises LINK_FAIL, and LOAD_LOST if a load is lost. -/
theorem enterQuiet_raises (l : Link) (s : State) :
    Raises ((Event.linkFail l).number :: if losesLoad s l then [22] else []) s.flagUnit (enterQuiet l s).flagUnit := by
  have loads : losesLoad (s.raise (.linkFail l)) l = losesLoad s l := by rw [raise_eq]; rfl
  have failed : Raises [(Event.linkFail l).number] s.flagUnit (s.raise (.linkFail l)).flagUnit :=
    raises_raiseIf s true (.linkFail l)
  rw [← loads]
  exact failed.trans (loseLoads_raises l (s.raise (.linkFail l)))

/-- The part after a link has entered QUIET and the idle timer has followed. -/
def quietEntered (s : State) (l : Link) (e : Nat) : State :=
  latchEdges (s.advance e) (keepIdleTimer (enterQuiet l (s.advance e)))

/-- A link that fails to lock enters QUIET as its timer expires. -/
theorem exec_failure {s : State} {l : Link} {e : Nat} {c : Instr}
    (h : (c = .linkAcquisitionTimeout l ∧ ((s.ports.get l).state = .seeking e ∨ ∃ g, (s.ports.get l).state = .aligned e g))
      ∨ (c = .lossLimitExpiry l ∧ ∃ g, (s.ports.get l).state = .holdover e g)) :
    exec c s = .next (quietEntered s l e) := by
  obtain ⟨rfl, found⟩ | ⟨rfl, g, found⟩ := h
  · change execLinkAcquisitionTimeout l s = _
    obtain found | ⟨g, found⟩ := found <;> rw [execLinkAcquisitionTimeout, found] <;> rfl
  · change execLossLimitExpiry l s = _
    rw [execLossLimitExpiry, found]
    rfl

theorem quietEntered_left (s : State) (l : Link) (e : Nat) :
    quietEntered s l e = { s with
      now := max s.now e
      ports := s.ports.set l (portInQuiet (s.ports.get l) (max s.now e))
      pairs := forPairs fun o k => { s.pair o k with
        bank0 := withoutLoad l (s.pair o k).bank0, bank1 := withoutLoad l (s.pair o k).bank1 }
      part := { s.part with idleTimer := (quietEntered s l e).part.idleTimer }
      flagUnit := (quietEntered s l e).flagUnit } := by
  rw [quietEntered, enterQuiet_eq]
  rfl

theorem quietEntered_idle (s : State) (l : Link) (e : Nat) :
    followsIdleRule s.part.idleTimer (quietEntered s l e) := by
  have entered : (enterQuiet l (s.advance e)).part = s.part := by rw [enterQuiet_eq]; rfl
  rw [← entered]
  exact followsIdleRule_keepIdleTimer (enterQuiet l (s.advance e))

theorem quietEntered_flags (s : State) (l : Link) (e : Nat) :
    flagsLatched s (quietEntered s l e) ((Event.linkFail l).number :: if losesLoad s l then [22] else []) :=
  Raises.flagsLatched (s := s.advance e) (u := keepIdleTimer (enterQuiet l (s.advance e)))
    (enterQuiet_raises l (s.advance e))

/-! ### The end of the quiet timer (R116) -/

/-- The port of a link whose quiet timer expires at `now`. -/
def portAfterQuiet (p : Port) (now : Nat) : Port :=
  if p.signal then { p with state := .seeking (now + 5000000), previous := none, frame := .none }
  else { p with state := .off, frame := .none, signalLoss := none }

theorem exec_quietTimerExpiry {s : State} {l : Link} {e : Nat} (h : (s.ports.get l).state = .quiet e) :
    exec (.quietTimerExpiry l) s =
      .next (keepIdleTimer ((s.advance e).setPort l (portAfterQuiet (s.ports.get l) (max s.now e)))) := by
  have left : (if ((s.advance e).ports.get l).signal then enterSeeking l (s.advance e) else enterOff l (s.advance e))
      = (s.advance e).setPort l (portAfterQuiet (s.ports.get l) (max s.now e)) := by
    unfold portAfterQuiet
    rw [State.advance_ports]
    split_ifs <;> rfl
  have unlocked : (portAfterQuiet (s.ports.get l) (max s.now e)).state.isLocked
      = ((s.advance e).ports.get l).state.isLocked := by
    rw [State.advance_ports, h, portAfterQuiet]
    split_ifs <;> rfl
  change execQuietTimerExpiry l s = _
  rw [execQuietTimerExpiry, h]
  dsimp only
  rw [left, linkEvent, latchEdges_of_levels_eq ((levels_keepIdleTimer _).trans (levels_setPort unlocked)).symm]

/-- Settles O49: the entry into QUIET from each state that fails to lock, and the end of its timer. -/
theorem quietFollowsALinkFailure : Obligations.QuietFollowsALinkFailure := by
  unfold Obligations.QuietFollowsALinkFailure
  refine ⟨fun s l e c h => ?_, fun s l e h => ?_⟩
  · exact ⟨_, exec_failure h, quietEntered_left s l e, quietEntered_idle s l e, quietEntered_flags s l e⟩
  · exact ⟨_, exec_quietTimerExpiry h, rfl, followsIdleRule_keepIdleTimer _⟩

end Sys2Proof.Machine
end

section
/-!
PROOFS. STATUS: the record as the list of its blocks, each of known length, and the fields of each block.
-/
namespace Sys2Proof.Machine

open Sys2Proof

/-! ### Fields one after the other -/

/-- Fields, each given with its length, stand one after the other from `i` on. -/
def FieldsFrom (bytes : List Byte) : Nat → List (Nat × List Byte) → Prop
  | _, [] => True
  | i, (n, f) :: fs => fieldAt bytes i f ∧ FieldsFrom bytes (i + n) fs

theorem fieldsFrom_cons {bytes : List Byte} {i n : Nat} {f : List Byte} {fs : List (Nat × List Byte)} :
    FieldsFrom bytes i ((n, f) :: fs) ↔ fieldAt bytes i f ∧ FieldsFrom bytes (i + n) fs := Iff.rfl

/-- The bytes that the fields are, one after the other. -/
def joined (fs : List (Nat × List Byte)) : List Byte := (fs.map Prod.snd).flatten

/-- Each field has the length given with it. -/
def Measured (fs : List (Nat × List Byte)) : Prop := ∀ f ∈ fs, f.2.length = f.1

theorem measured_cons {n : Nat} {f : List Byte} {fs : List (Nat × List Byte)} :
    Measured ((n, f) :: fs) ↔ f.length = n ∧ Measured fs := List.forall_mem_cons

theorem fieldsFrom_of_joined {bytes : List Byte} {fs : List (Nat × List Byte)} (measured : Measured fs) {i : Nat}
    (h : fieldAt bytes i (joined fs)) : FieldsFrom bytes i fs := by
  induction fs generalizing i with
  | nil => trivial
  | cons f fs ih =>
    obtain ⟨n, f⟩ := f
    obtain ⟨length, measured⟩ := measured_cons.mp measured
    obtain ⟨first, others⟩ := fieldAt_append h
    exact ⟨first, ih measured (length ▸ others)⟩

theorem length_joined {fs : List (Nat × List Byte)} (measured : Measured fs) :
    (joined fs).length = (fs.map Prod.fst).sum := by
  rw [joined, List.length_flatten, List.map_map]
  exact congrArg List.sum (List.map_congr_left measured)

theorem fieldAt_self (bytes : List Byte) : fieldAt bytes 0 bytes := List.take_length

/-! ### The blocks of the record (R196) -/

theorem Bank.block_eq (b : Bank) : b.block = bankFields b := by
  cases b <;> simp [Bank.block, bankFields, Bank.code, beBytes]

theorem length_bankFields (b : Bank) : (bankFields b).length = 11 := by
  cases b <;> rfl

theorem BankPair.block_eq (p : BankPair) :
    p.block = joined [(1, [if p.active = .bank0 then 0 else 1]), (11, bankFields p.bank0), (11, bankFields p.bank1)] := by
  have active : p.active.code = if p.active = .bank0 then 0 else 1 := by cases p.active <;> rfl
  rw [BankPair.block, active, Bank.block_eq, Bank.block_eq]
  simp [joined]

theorem BankPair.measured (p : BankPair) :
    Measured [(1, [if p.active = .bank0 then 0 else 1]), (11, bankFields p.bank0), (11, bankFields p.bank1)] := by
  simp [Measured, length_bankFields]

theorem fieldAt_pairBlock {bytes : List Byte} {i : Nat} {p : BankPair} (h : fieldAt bytes i p.block) :
    fieldAt bytes i [if p.active = .bank0 then 0 else 1] ∧ fieldAt bytes (i + 1) (bankFields p.bank0)
    ∧ fieldAt bytes (i + 12) (bankFields p.bank1) := by
  rw [BankPair.block_eq] at h
  obtain ⟨active, bank0, bank1, -⟩ := fieldsFrom_of_joined p.measured h
  exact ⟨active, bank0, bank1⟩

theorem heldTarget_eq (s : State) (o : Out) :
    heldTarget s o = (((s.controllers.get o).held.bind fun i => (s.slot i).target).map BitVec.toNat).getD 0 := by
  unfold heldTarget
  cases (s.controllers.get o).held with
  | none => rfl
  | some i => dsimp only [Option.bind_some]; cases (s.slot i).target <;> rfl

theorem fadeBytes_eq (f : Option Fade) :
    fadeBytes f = beBytes 1 ((f.map Fade.step).getD 0) ++ beBytes 1 ((f.map Fade.length).getD 0) := by
  cases f <;> rfl

/-- The fields of an output block. -/
def outputFields (s : State) (o : Out) : List (Nat × List Byte) :=
  [(2, beBytes 2 (s.ramps.get o).gain.toNat), (2, beBytes 2 (s.ramps.get o).target.toNat),
    (2, beBytes 2 (s.ramps.get o).remaining), (1, beBytes 1 (((s.fades.get o).map Fade.step).getD 0)),
    (1, beBytes 1 (((s.fades.get o).map Fade.length).getD 0)),
    (2, beBytes 2 ((s.controllers.get o).ws * 65535 + 1 / 2).floor.toNat), (1, beBytes 1 (s.controllers.get o).starved),
    (4, beBytes 4 ((((s.controllers.get o).held.bind fun i => (s.slot i).target).map BitVec.toNat).getD 0))]

theorem outputBlock_eq (s : State) (o : Out) : outputBlock s o = joined (outputFields s o) := by
  simp only [outputBlock, fadeBytes_eq, heldTarget_eq]
  rfl

theorem length_beBytes (n x : Nat) : (beBytes n x).length = n := by
  induction n with
  | zero => rfl
  | succ n ih => rw [beBytes, List.length_cons, ih]

theorem measured_outputFields (s : State) (o : Out) : Measured (outputFields s o) := by
  simp [Measured, outputFields, length_beBytes]

/-- The smallest lead of a history is its least element. -/
theorem smallestLead_least {leads : List Nat} (h : leads ≠ []) :
    smallestLead leads ∈ leads ∧ ∀ n ∈ leads, smallestLead leads ≤ n := by
  cases leads with
  | nil => exact absurd rfl h
  | cons n rest => exact List.min?_eq_some_iff.mp List.min?_cons'

/-! ### The record -/

/-- The blocks of the STATUS record, in their order. -/
def statusBlocks (s : State) : List (Nat × List Byte) :=
  [(1, [0x01]), (2, beBytes 2 s.clock.period), (2, beBytes 2 s.clock.misses),
    (5, s.store.a.block), (5, s.store.b.block),
    (23, (s.pair .out0 .warp).block), (23, (s.pair .out0 .blend).block),
    (23, (s.pair .out1 .warp).block), (23, (s.pair .out1 .blend).block),
    (15, outputBlock s .out0), (15, outputBlock s .out1),
    (1, beBytes 1 s.cues.length), (1, beBytes 1 s.outcomes.length), (2, beBytes 2 s.part.standbyDelay),
    (3, beBytes 3 s.flagUnit.rising.toNat), (3, beBytes 3 s.flagUnit.falling.toNat), (1, [s.engine.lock.code])]

theorem statusRecord_eq (s : State) : statusRecord s = joined (statusBlocks s) := by
  simp [statusRecord, joined, statusBlocks, revisionCode]

theorem measured_statusBlocks (s : State) : Measured (statusBlocks s) := by
  have pair (p : BankPair) : p.block.length = 23 := by rw [p.block_eq, length_joined p.measured]; rfl
  have output (o : Out) : (outputBlock s o).length = 15 := by
    rw [outputBlock_eq, length_joined (measured_outputFields s o)]; rfl
  simp [Measured, statusBlocks, LinkStore.block, length_beBytes, pair, output]

theorem length_statusRecord (s : State) : (statusRecord s).length = 148 := by
  rw [statusRecord_eq, length_joined (measured_statusBlocks s)]
  simp [statusBlocks]

/-- STATUS is taken whatever else holds, and changes nothing. -/
theorem exec_status {s : State} {l : Link} {p : Packet} {rest : List Packet} (t : Nat)
    (h : nextPacket s = some (l, p, rest)) (hcode : p.code = 0x43#8) (hlength : p.payload.length = 0) :
    exec (.status t) s = .next (answered s t l p rest .ok (statusRecord s)) :=
  congrArg Host.Outcome.next (takeOwned_accepted_of_levels_eq (names := fun p => p.code == 0x43#8)
    (lengthOk := fun n => n == 0) (channel := false) (owner := statusOwner) (t := t) h (beq_iff_eq.mpr hcode)
    (beq_iff_eq.mpr hlength) rfl rfl (levels_congr rfl rfl rfl rfl rfl))

/-- Settles O21: the answer, every field of the record at its offset, the codes, and the smallest lead. -/
theorem statusReturnsItsRecord : Obligations.StatusReturnsItsRecord := by
  unfold Obligations.StatusReturnsItsRecord
  refine ⟨fun s t l p rest h hcode hlength => exec_status t h hcode hlength, fun s => ?_, rfl, rfl, fun leads => ?_⟩
  · intro bytes link pair output
    have linkAt (i : Nat) (l : Link) (h : fieldAt bytes i (s.store.get l).block) : link i l :=
      fieldAt_append (f := [_]) h
    have pairAt (i : Nat) (o : Out) (k : Kind) (h : fieldAt bytes i (s.pair o k).block) : pair i o k :=
      fieldAt_pairBlock h
    have outputAt (i : Nat) (o : Out) (h : fieldAt bytes i (outputBlock s o)) : output i o := by
      rw [outputBlock_eq] at h
      have fields := fieldsFrom_of_joined (measured_outputFields s o) h
      simp only [outputFields, fieldsFrom_cons, Nat.add_assoc, Nat.reduceAdd] at fields
      obtain ⟨gain, target, remaining, step, length, weight, starved, held, -⟩ := fields
      exact ⟨gain, target, remaining, step, length, weight, starved, held⟩
    have whole : fieldAt bytes 0 (joined (statusBlocks s)) := statusRecord_eq s ▸ fieldAt_self (statusRecord s)
    have blocks := fieldsFrom_of_joined (measured_statusBlocks s) whole
    simp only [statusBlocks, fieldsFrom_cons, Nat.reduceAdd] at blocks
    obtain ⟨revision, period, misses, linkA, linkB, warp0, blend0, warp1, blend1, output0, output1, cues, outcomes,
      delay, rising, falling, lock, -⟩ := blocks
    exact ⟨length_statusRecord s, revision, period, misses, linkAt 5 .a linkA, linkAt 10 .b linkB, pairAt 15 _ _ warp0,
      pairAt 38 _ _ blend0, pairAt 61 _ _ warp1, pairAt 84 _ _ blend1, outputAt 107 _ output0, outputAt 122 _ output1,
      cues, outcomes, delay, rising, falling, lock⟩
  · exact ⟨fun empty => by rw [empty]; rfl, smallestLead_least⟩

end Sys2Proof.Machine
end

section
/-!
PROOFS. The pixel path of content: the node records, the cell of a pixel, the source point, the sample and the blend.
-/
namespace Sys2Proof.Machine

open Sys2Proof

/-! ### Node records (R2, R9, R10) -/

theorem foldl_bytes_beBytes (n x acc : Nat) :
    (beBytes n x).foldl (fun acc b => acc * 256 + b.toNat) acc = acc * 256 ^ n + x % 256 ^ n := by
  induction n generalizing acc with
  | zero => simp [beBytes, Nat.mod_one]
  | succ n ih =>
    have digit : x % 256 ^ (n + 1) = x % 256 ^ n + 256 ^ n * (x / 256 ^ n % 256) := Nat.mod_pow_succ
    rw [beBytes, List.foldl_cons, ih, BitVec.toNat_ofNat, digit]
    ring

/-- Bytes written most significant first spell the number that they were written from. -/
theorem beNat_beBytes {n x : Nat} (h : x < 256 ^ n) : beNat (beBytes n x) = x := by
  rw [beNat, foldl_bytes_beBytes, Nat.mod_eq_of_lt h, Nat.zero_mul, Nat.zero_add]

/-- A number that stands in the field of a node is read from it. -/
theorem beNat_field {w : Table} {size i j offset n x : Nat} (hx : x < 256 ^ n)
    (h : fieldAt w.bytes ((j * w.grid.gx + i) * size + offset) (beBytes n x)) :
    beNat (w.field size i j offset n) = x := by
  rw [fieldAt, length_beBytes] at h
  rw [Table.field, h, beNat_beBytes hx]

theorem masked_iff {w : Table} {i j : Nat} {u : Word32} (h : w.uCode i j = u.toInt) :
    w.masked i j = true ↔ u = 0x80000000#32 := by
  rw [Table.masked, h, beq_iff_eq, ← BitVec.toInt_inj]
  rfl

theorem warpNode_codes {w : Table} {i j : Nat} {u v : Word32}
    (h : fieldAt w.bytes ((j * w.grid.gx + i) * 8) (beBytes 4 u.toNat ++ beBytes 4 v.toNat)) :
    w.uCode i j = u.toInt ∧ w.vCode i j = v.toInt := by
  obtain ⟨hu, hv⟩ := fieldAt_append h
  rw [length_beBytes] at hv
  rw [Table.uCode, Table.vCode, beNat_field (offset := 0) u.isLt hu, beNat_field v.isLt hv]
  simp only [BitVec.ofNat_toNat, BitVec.setWidth_eq, and_self]

theorem blendNode_values {w : Table} {i j : Nat} {g l : Word16}
    (h : fieldAt w.bytes ((j * w.grid.gx + i) * 4) (beBytes 2 g.toNat ++ beBytes 2 l.toNat)) :
    w.gain i j = (g.toNat : Rat) / 65535 ∧ w.lift i j = (l.toNat : Rat) / 65535 / 16 := by
  obtain ⟨hg, hl⟩ := fieldAt_append h
  rw [length_beBytes] at hl
  rw [Table.gain, Table.lift, beNat_field (offset := 0) g.isLt hg, beNat_field l.isLt hl]
  exact ⟨rfl, rfl⟩

/-! ### The cell of a pixel (R80) -/

/-- A pixel of the raster lies between the first and the last node of its axis. -/
theorem nodePosition_bounds {x nodes size : Nat} (hn : 2 ≤ nodes) (hs : 2 ≤ size) (hx : x < size) :
    0 ≤ nodePosition x nodes size ∧ nodePosition x nodes size ≤ (nodes : Rat) - 1 := by
  have nodes1 : (0 : Rat) ≤ (nodes : Rat) - 1 := by
    have : ((2 : Nat) : Rat) ≤ nodes := Nat.cast_le.mpr hn
    push_cast at this; linarith
  have size1 : (0 : Rat) < (size : Rat) - 1 := by
    have : ((2 : Nat) : Rat) ≤ size := Nat.cast_le.mpr hs
    push_cast at this; linarith
  have last : (x : Rat) ≤ (size : Rat) - 1 := by
    have : ((x + 1 : Nat) : Rat) ≤ size := Nat.cast_le.mpr hx
    push_cast at this; linarith
  refine ⟨div_nonneg (mul_nonneg x.cast_nonneg nodes1) size1.le, ?_⟩
  rw [nodePosition, div_le_iff₀ size1, mul_comm]
  exact mul_le_mul_of_nonneg_left last nodes1

theorem lowerNode_eq (p : Rat) (nodes : Nat) : lowerNode p nodes = min ⌊p⌋₊ (nodes - 2) := by
  rw [lowerNode, ← Int.floor_toNat]
  rfl

/-- The place of a position after its lower node: less than a node's distance, or the whole of it at the last node. -/
theorem lowerNode_place {p : Rat} {nodes : Nat} (hn : 2 ≤ nodes) (low : 0 ≤ p) (high : p ≤ (nodes : Rat) - 1) :
    lowerNode p nodes + 2 ≤ nodes ∧ 0 ≤ p - lowerNode p nodes
    ∧ (p - lowerNode p nodes < 1 ∨ p - lowerNode p nodes = 1 ∧ lowerNode p nodes + 2 = nodes) := by
  obtain ⟨m, rfl⟩ := Nat.exists_eq_add_of_le' hn
  push_cast at high
  rw [lowerNode_eq, Nat.add_sub_cancel]
  have floor_le := Nat.floor_le low
  obtain inner | last := Nat.lt_or_ge m ⌊p⌋₊
  · have reached : ((m + 1 : Nat) : Rat) ≤ p := (Nat.le_floor_iff low).mp inner
    push_cast at reached
    rw [min_eq_right inner.le]
    exact ⟨le_rfl, by linarith, .inr ⟨by linarith, rfl⟩⟩
  · have lt := Nat.lt_floor_add_one p
    rw [min_eq_left last]
    exact ⟨by omega, by linarith, .inl (by linarith)⟩

/-- The cell of a pixel of the raster, on both axes. -/
theorem gridCell_place {g : Grid} {f : Format} {x y : Nat} (hgx : 2 ≤ g.gx) (hgy : 2 ≤ g.gy) (hw : 2 ≤ f.width)
    (hh : 2 ≤ f.height) (hx : x < f.width) (hy : y < f.height) :
    let cell := gridCell g f x y
    (cell.i0 : Rat) + cell.fx = (x : Rat) * ((g.gx : Rat) - 1) / ((f.width : Rat) - 1)
    ∧ (cell.j0 : Rat) + cell.fy = (y : Rat) * ((g.gy : Rat) - 1) / ((f.height : Rat) - 1)
    ∧ cell.i0 + 2 ≤ g.gx ∧ cell.j0 + 2 ≤ g.gy ∧ 0 ≤ cell.fx ∧ 0 ≤ cell.fy
    ∧ (cell.fx < 1 ∨ cell.fx = 1 ∧ cell.i0 + 2 = g.gx) ∧ (cell.fy < 1 ∨ cell.fy = 1 ∧ cell.j0 + 2 = g.gy) := by
  obtain ⟨lowX, highX⟩ := nodePosition_bounds hgx hw hx
  obtain ⟨lowY, highY⟩ := nodePosition_bounds hgy hh hy
  obtain ⟨nodeX, afterX, placeX⟩ := lowerNode_place hgx lowX highX
  obtain ⟨nodeY, afterY, placeY⟩ := lowerNode_place hgy lowY highY
  exact ⟨add_sub_cancel _ _, add_sub_cancel _ _, nodeX, nodeY, afterX, afterY, placeX, placeY⟩

/-! ### The source point and the sample (R81, R82) -/

theorem anyCorner_iff (c : GridCell) (p : Nat → Nat → Bool) :
    c.anyCorner p = true ↔ p c.i0 c.j0 = true ∨ p (c.i0 + 1) c.j0 = true ∨ p c.i0 (c.j0 + 1) = true
      ∨ p (c.i0 + 1) (c.j0 + 1) = true := by
  simp only [GridCell.anyCorner, Bool.or_eq_true, or_assoc]

/-- A warped pixel has no source point in a masked cell, and else the rounded sums of the corners' codes. -/
theorem sourcePoint_warped {n : Snapshot} {w : Table} (h : n.warp = some w) (x y : Nat) :
    sourcePoint n x y =
      if (gridCell w.grid n.format x y).anyCorner w.masked then none
      else some (((bilinear (gridCell w.grid n.format x y) (fun i j => w.uCode i j) + 1 / 2).floor : Rat) / 256,
        ((bilinear (gridCell w.grid n.format x y) (fun i j => w.vCode i j) + 1 / 2).floor : Rat) / 256) := by
  simp only [sourcePoint, h]
  rfl

theorem frameLinear_eq {n : Snapshot} {f : Frame} (h : n.frame = some f) (c : Component) (u v : Rat) :
    frameLinear n c u v = linearOf f.encoding (sampleAt f.width f.height (f.code c) u v) := by
  simp only [frameLinear, frameSample, h]

/-- A stored pixel is read at its line and its place in the line. -/
theorem frameCode_eq {f : Frame} {row : List Pixel} {p : Pixel} {a b : Nat} (line : f.lines[b]? = some row)
    (place : row[a]? = some p) (c : Component) : f.code c a b = (p.code c).toNat := by
  have line_read : f.lines.getD b [] = row := by rw [List.getD_eq_getElem?_getD, line, Option.getD_some]
  rw [Frame.code, line_read, List.getD_eq_getElem?_getD, place, Option.getD_some]

/-! ### The blend (R84) -/

theorem blend_of_no_fade {n : Snapshot} (h : n.fade = none) (x y : Nat) :
    blendGain n x y = gainOf n.blend n.format x y ∧ blendLift n x y = liftOf n.blend n.format x y := by
  simp only [blendGain, blendLift, mixFade, h, and_self]

theorem blend_of_fade {n : Snapshot} {m : FadeMix} (h : n.fade = some m) (x y : Nat) :
    let k : Rat := (m.fade.step : Rat) / m.fade.length
    blendGain n x y = k * gainOf n.blend n.format x y + (1 - k) * gainOf m.shadow n.format x y
    ∧ blendLift n x y = k * liftOf n.blend n.format x y + (1 - k) * liftOf m.shadow n.format x y := by
  simp only [blendGain, blendLift, mixFade, h, and_self]

/-- Settles O54: each stage of the path from its own rule. -/
theorem pixelPathOfContent : Obligations.PixelPathOfContent := by
  unfold Obligations.PixelPathOfContent
  refine ⟨fun w i j u v h => ?_, fun w i j g l h => blendNode_values h, fun g f x y => gridCell_place,
    fun n x y => ⟨fun h => ?_, fun w h => ?_⟩, fun width height code u v =>
      ⟨fun outside => if_pos outside, fun inside => if_neg inside⟩,
    fun n c f u v h => ?_, fun f row p a b line place => ?_, fun f x y w => ⟨rfl, rfl, rfl, rfl⟩,
    fun n x y => ⟨fun h => blend_of_no_fade h x y, fun m h => blend_of_fade h x y⟩⟩
  · obtain ⟨hu, hv⟩ := warpNode_codes h
    exact ⟨hu, hv, masked_iff hu⟩
  · simp only [sourcePoint, h]
  · rw [sourcePoint_warped h]
    dsimp only
    rw [← anyCorner_iff _ w.masked]
    exact ⟨fun masked => if_pos masked, fun clear => if_neg clear⟩
  · rw [frameLinear_eq h]
    cases f.encoding <;> rfl
  · exact ⟨frameCode_eq line place .red, frameCode_eq line place .green, frameCode_eq line place .blue⟩

end Sys2Proof.Machine
end
